-- ==== Sys2Proof/Word.lean ====
section
/-!
DEFINITION. The word types of the Oracle SPARC Architecture 2015 (R19): an R register and an address hold
64 bits, an instruction and a single-precision register 32.
-/

namespace Sys2Proof

/-- Eight bits of memory (R64). -/
abbrev Byte := BitVec 8

/-- A 32-bit word: an instruction (R108), or one of the 32-bit words of the F registers (R16). -/
abbrev Word32 := BitVec 32

/-- A 64-bit word: an R register (R11), an address (R67). -/
abbrev Word64 := BitVec 64

/-- A 128-bit value: a quad-precision number or a twin extended word (R17, R242). -/
abbrev Word128 := BitVec 128

end Sys2Proof
end

