-- ==== Sys2Proof/Machine/Bits.lean ====
section
/-!
DEFINITION. Bit fields, sign and zero extension (R5, R6).
-/

namespace Sys2Proof.Machine

open Sys2Proof

/-- Bits `lo + len - 1 : lo` of `x`. -/
def field {n : Nat} (x : BitVec n) (lo len : Nat) : BitVec len := x.extractLsb' lo len

/-- Bit `i` of `x`. -/
def bit {n : Nat} (x : BitVec n) (i : Nat) : Bool := x.getLsbD i

/-- A Boolean as one bit. -/
def flag (b : Bool) : BitVec 1 := BitVec.ofBool b

/-- Sign extension to 64 bits (R6). -/
def sext64 {n : Nat} (x : BitVec n) : Word64 := x.signExtend 64

/-- Zero extension to 64 bits (R6). -/
def zext64 {n : Nat} (x : BitVec n) : Word64 := x.setWidth 64

/-- A 64-bit word with bits 63:32 cleared (R59). -/
def low32 (x : Word64) : Word64 := zext64 (field x 0 32)

end Sys2Proof.Machine
end

