-- ==== Sys2Proof/Machine/Asi.lean ====
section
/-!
DEFINITION. The sets of address space identifiers that the spec's rules name (R75 to R85) and the ASIs each
group of instructions accepts (R219, R230, R241, R250, R256, R264, R276).
-/

namespace Sys2Proof.Machine

open Sys2Proof

/-- ASIs of the twin-load and block-initialising-store numbers in the privileged half (R79, R80). -/
def asiTwinPriv : List (BitVec 8) := [0x22, 0x23, 0x26, 0x27, 0x2A, 0x2B, 0x2E, 0x2F]

/-- The twin-extended-word load ASIs (R79). -/
def asiTwin : List (BitVec 8) := asiTwinPriv ++ [0xE2, 0xE3, 0xEA, 0xEB]

/-- The MRU block-initialising store ASIs (R80). -/
def asiStbiMru : List (BitVec 8) := [0xF2, 0xF3, 0xFA, 0xFB]

/-- The block load and store ASIs that are not commit ASIs (R81). -/
def asiBlock : List (BitVec 8) := [0x16, 0x17, 0x1E, 0x1F, 0xF0, 0xF1, 0xF8, 0xF9]

/-- The block store with commit ASIs (R81). -/
def asiCommit : List (BitVec 8) := [0xE0, 0xE1]

/-- The partial-store ASIs (R82). -/
def asiPartial : List (BitVec 8) :=
  [0xC0, 0xC1, 0xC2, 0xC3, 0xC4, 0xC5, 0xC8, 0xC9, 0xCA, 0xCB, 0xCC, 0xCD]

/-- The short floating-point ASIs (R83). -/
def asiShort : List (BitVec 8) := [0xD0, 0xD1, 0xD2, 0xD3, 0xD8, 0xD9, 0xDA, 0xDB]

/-- The nonfaulting-load ASIs (R85). -/
def asiNoFault : List (BitVec 8) := [0x82, 0x83, 0x8A, 0x8B]

/-- The Load-Monitor ASIs (R84). -/
def asiMonitor : List (BitVec 8) := [0x12, 0x13, 0x84, 0x85]

/-- The ASIs that atomic load-stores may use (R219, R239, R258). -/
def asiAtomic : List (BitVec 8) :=
  [0x04, 0x0C, 0x10, 0x18, 0x11, 0x19, 0x14, 0x1C, 0x80, 0x88, 0x81, 0x89]

/-- The ASIs that are valid for PREFETCHA (R244). -/
def asiPrefetch : List (BitVec 8) := asiAtomic ++ asiNoFault

/-- The real-address I/O ASIs (R78). -/
def asiRealIo : List (BitVec 8) := [0x15, 0x1D]

/-- The ASIs that every ordinary load alternate may use (R230, R241, R264). -/
def asiLoad : List (BitVec 8) := asiAtomic ++ asiRealIo ++ asiNoFault

/-- The ASIs of the ordinary store alternates without block initialisation (R250, R276). -/
def asiStore : List (BitVec 8) := asiAtomic ++ asiRealIo

/-- The block-initialising ASIs that STBA, STHA, STWA, STTWA, STFA and STQFA list (R250, R256, R276). -/
def asiStbi : List (BitVec 8) := [0x22, 0x2A, 0x23, 0x2B, 0x27, 0x2F, 0xE2, 0xEA, 0xE3, 0xEB]

/-- The block-initialising ASIs that STXA accepts (R80, R250). -/
def asiStbiX : List (BitVec 8) := [0xE2, 0xE3, 0xEA, 0xEB] ++ asiStbiMru

/-- The ASIs whose misuse raises DAE_invalid_asi without an alignment exception (R79, R81, R82, R83). -/
def asiRestrictedUse : List (BitVec 8) := asiTwin ++ asiBlock ++ asiCommit ++ asiPartial ++ asiShort

/-- The ASIs whose name contains NUCLEUS (R102). -/
def asiNucleus : List (BitVec 8) := [0x04, 0x0C, 0x27, 0x2F]

/-- The real-address ASIs (R74). -/
def asiReal : List (BitVec 8) := [0x14, 0x15, 0x1C, 0x1D, 0x26, 0x2E]

/-- The ASIs that R75 leaves to the implementation and that some mode may access (R76: not those of footnote 12). -/
def asiImplementation : List (BitVec 8) :=
  [0x24, 0x2C, 0xC6, 0xC7, 0xCE, 0xCF, 0xD4, 0xD5, 0xD6, 0xD7, 0xDC, 0xDD, 0xDE, 0xDF, 0xE4, 0xE5, 0xE6, 0xE7, 0xE8, 0xE9,
   0xEC, 0xED, 0xEE, 0xEF, 0xF4, 0xF5, 0xF6, 0xF7, 0xFC, 0xFD, 0xFE, 0xFF]

/-- The AS_IF_USER ASIs (R77). -/
def asiUser : List (BitVec 8) :=
  [0x10, 0x11, 0x12, 0x13, 0x16, 0x17, 0x18, 0x19, 0x1E, 0x1F, 0x22, 0x23, 0x2A, 0x2B]

/-- The translating ASIs that every implementation has (R75); ASI_PIC, the one other required ASI, names registers. -/
def asiRequired : List (BitVec 8) :=
  [0x04, 0x0C, 0x10, 0x11, 0x12, 0x13, 0x18, 0x19, 0x80, 0x81, 0x82, 0x83, 0x84, 0x85, 0x88, 0x89, 0x8A, 0x8B]

/-- The block-initialising-store ASIs (R80): rows of R75 of their own, most of them beside a twin-load row of the same
number. -/
def asiStbiAll : List (BitVec 8) := asiTwin ++ asiStbiMru

/-- All translating and real ASIs of R75. -/
def asiMemory : List (BitVec 8) :=
  asiLoad ++ asiMonitor ++ asiRestrictedUse ++ asiStbiMru

end Sys2Proof.Machine
end

