-- ==== Sys2Proof/Syntax.lean ====
section
/-!
DEFINITION. The instructions of the Oracle SPARC Architecture 2015: one constructor of `Instr` for each
row of spec/opcode_table.json, named as the row's mnemonic, with the operands the row's rule gives it
(spec files 40 to 49; operand layouts R108 to R116, condition names R128 and R129).
-/

namespace Sys2Proof

/-- The number of an R register of the current window (R116). -/
abbrev Reg := BitVec 5

/-- The number of a single-precision register `F_S[n]` (R115). -/
abbrev FReg := BitVec 5

/-- Half the number of a double-precision register: `k` names `F_D[2k]` (R115). An even `k` names
the quad-precision register `F_Q[2k]`; an odd `k` in a quad operand is the invalid_fp_register case. -/
abbrev DReg := BitVec 5

/-- The second operand of an instruction with an `i` bit: R[rs2], or an immediate of `n` bits (R138). -/
inductive RegImm (n : Nat) where
  | reg (rs2 : Reg)
  | imm (value : BitVec n)
deriving DecidableEq, Repr

/-- The address operand of an alternate-space access (R222): with i = 0 the ASI is in the instruction
and the offset is R[rs2]; with i = 1 the ASI register is used and the offset is simm13. -/
inductive AltOperand where
  | immAsi (asi : BitVec 8) (rs2 : Reg)
  | asiReg (simm13 : BitVec 13)
deriving DecidableEq, Repr

/-- Where CASA and CASXA take their ASI from (R219). -/
inductive AsiSource where
  | imm (asi : BitVec 8)
  | asiReg
deriving DecidableEq, Repr

/-- Which integer condition codes an instruction tests (R130). -/
inductive IccSel where
  | icc
  | xcc
deriving DecidableEq, Repr

/-- The sixteen integer conditions (R128, R202). -/
inductive ICond where
  | n | e | le | l | leu | cs | neg | vs | a | ne | g | ge | gu | cc | pos | vc
deriving DecidableEq, Repr

/-- The sixteen floating-point conditions (R128, R210). -/
inductive FCond where
  | n | ne | lg | ul | l | ug | g | u | a | e | ue | ge | uge | le | ule | o
deriving DecidableEq, Repr

/-- The six register conditions (R129). -/
inductive RCond where
  | z | lez | lz | nz | gz | gez
deriving DecidableEq, Repr

/-- The instructions: one constructor per row of spec/opcode_table.json. -/
inductive Instr where
  -- integer arithmetic, logic, shifts, multiply, divide, moves (40_integer.md)
  | NOP
  | SETHI (rd : Reg) (imm22 : BitVec 22)
  | ADD (rd rs1 : Reg) (op2 : RegImm 13)
  | AND (rd rs1 : Reg) (op2 : RegImm 13)
  | OR (rd rs1 : Reg) (op2 : RegImm 13)
  | XOR (rd rs1 : Reg) (op2 : RegImm 13)
  | SUB (rd rs1 : Reg) (op2 : RegImm 13)
  | ANDN (rd rs1 : Reg) (op2 : RegImm 13)
  | ORN (rd rs1 : Reg) (op2 : RegImm 13)
  | XNOR (rd rs1 : Reg) (op2 : RegImm 13)
  | ADDC (rd rs1 : Reg) (op2 : RegImm 13)
  | MULX (rd rs1 : Reg) (op2 : RegImm 13)
  | UMUL (rd rs1 : Reg) (op2 : RegImm 13)
  | SMUL (rd rs1 : Reg) (op2 : RegImm 13)
  | SUBC (rd rs1 : Reg) (op2 : RegImm 13)
  | UDIVX (rd rs1 : Reg) (op2 : RegImm 13)
  | UDIV (rd rs1 : Reg) (op2 : RegImm 13)
  | SDIV (rd rs1 : Reg) (op2 : RegImm 13)
  | ADDcc (rd rs1 : Reg) (op2 : RegImm 13)
  | ANDcc (rd rs1 : Reg) (op2 : RegImm 13)
  | ORcc (rd rs1 : Reg) (op2 : RegImm 13)
  | XORcc (rd rs1 : Reg) (op2 : RegImm 13)
  | SUBcc (rd rs1 : Reg) (op2 : RegImm 13)
  | ANDNcc (rd rs1 : Reg) (op2 : RegImm 13)
  | ORNcc (rd rs1 : Reg) (op2 : RegImm 13)
  | XNORcc (rd rs1 : Reg) (op2 : RegImm 13)
  | ADDCcc (rd rs1 : Reg) (op2 : RegImm 13)
  | UMULcc (rd rs1 : Reg) (op2 : RegImm 13)
  | SMULcc (rd rs1 : Reg) (op2 : RegImm 13)
  | SUBCcc (rd rs1 : Reg) (op2 : RegImm 13)
  | UDIVcc (rd rs1 : Reg) (op2 : RegImm 13)
  | SDIVcc (rd rs1 : Reg) (op2 : RegImm 13)
  | TADDcc (rd rs1 : Reg) (op2 : RegImm 13)
  | TSUBcc (rd rs1 : Reg) (op2 : RegImm 13)
  | TADDccTV (rd rs1 : Reg) (op2 : RegImm 13)
  | TSUBccTV (rd rs1 : Reg) (op2 : RegImm 13)
  | MULScc (rd rs1 : Reg) (op2 : RegImm 13)
  | SDIVX (rd rs1 : Reg) (op2 : RegImm 13)
  | SLL (rd rs1 : Reg) (count : RegImm 5)
  | SLLX (rd rs1 : Reg) (count : RegImm 6)
  | SRL (rd rs1 : Reg) (count : RegImm 5)
  | SRLX (rd rs1 : Reg) (count : RegImm 6)
  | SRA (rd rs1 : Reg) (count : RegImm 5)
  | SRAX (rd rs1 : Reg) (count : RegImm 6)
  | MOVfcc0 (rd : Reg) (cond : FCond) (op2 : RegImm 11)
  | MOVfcc1 (rd : Reg) (cond : FCond) (op2 : RegImm 11)
  | MOVfcc2 (rd : Reg) (cond : FCond) (op2 : RegImm 11)
  | MOVfcc3 (rd : Reg) (cond : FCond) (op2 : RegImm 11)
  | MOVicc (rd : Reg) (cond : ICond) (op2 : RegImm 11)
  | MOVxcc (rd : Reg) (cond : ICond) (op2 : RegImm 11)
  | POPC (rd : Reg) (op2 : RegImm 13)
  | MOVRZ (rd rs1 : Reg) (op2 : RegImm 10)
  | MOVRLEZ (rd rs1 : Reg) (op2 : RegImm 10)
  | MOVRLZ (rd rs1 : Reg) (op2 : RegImm 10)
  | MOVRNZ (rd rs1 : Reg) (op2 : RegImm 10)
  | MOVRGZ (rd rs1 : Reg) (op2 : RegImm 10)
  | MOVRGEZ (rd rs1 : Reg) (op2 : RegImm 10)
  | ADDXC (rd rs1 rs2 : Reg)
  | ADDXCcc (rd rs1 rs2 : Reg)
  | UMULXHI (rd rs1 rs2 : Reg)
  | LZCNT (rd rs2 : Reg)
  | SUBXC (rd rs1 rs2 : Reg)
  | SUBXCcc (rd rs1 rs2 : Reg)
  | XMULX (rd rs1 rs2 : Reg)
  | XMULXHI (rd rs1 rs2 : Reg)
  -- control transfer (41_control_transfer.md)
  | ILLTRAP (const22 : BitVec 22)
  | BPN (a : Bool) (cc : IccSel) (p : Bool) (disp19 : BitVec 19)
  | BPE (a : Bool) (cc : IccSel) (p : Bool) (disp19 : BitVec 19)
  | BPLE (a : Bool) (cc : IccSel) (p : Bool) (disp19 : BitVec 19)
  | BPL (a : Bool) (cc : IccSel) (p : Bool) (disp19 : BitVec 19)
  | BPLEU (a : Bool) (cc : IccSel) (p : Bool) (disp19 : BitVec 19)
  | BPCS (a : Bool) (cc : IccSel) (p : Bool) (disp19 : BitVec 19)
  | BPNEG (a : Bool) (cc : IccSel) (p : Bool) (disp19 : BitVec 19)
  | BPVS (a : Bool) (cc : IccSel) (p : Bool) (disp19 : BitVec 19)
  | BPA (a : Bool) (cc : IccSel) (p : Bool) (disp19 : BitVec 19)
  | BPNE (a : Bool) (cc : IccSel) (p : Bool) (disp19 : BitVec 19)
  | BPG (a : Bool) (cc : IccSel) (p : Bool) (disp19 : BitVec 19)
  | BPGE (a : Bool) (cc : IccSel) (p : Bool) (disp19 : BitVec 19)
  | BPGU (a : Bool) (cc : IccSel) (p : Bool) (disp19 : BitVec 19)
  | BPCC (a : Bool) (cc : IccSel) (p : Bool) (disp19 : BitVec 19)
  | BPPOS (a : Bool) (cc : IccSel) (p : Bool) (disp19 : BitVec 19)
  | BPVC (a : Bool) (cc : IccSel) (p : Bool) (disp19 : BitVec 19)
  | BN (a : Bool) (disp22 : BitVec 22)
  | BE (a : Bool) (disp22 : BitVec 22)
  | BLE (a : Bool) (disp22 : BitVec 22)
  | BL (a : Bool) (disp22 : BitVec 22)
  | BLEU (a : Bool) (disp22 : BitVec 22)
  | BCS (a : Bool) (disp22 : BitVec 22)
  | BNEG (a : Bool) (disp22 : BitVec 22)
  | BVS (a : Bool) (disp22 : BitVec 22)
  | BA (a : Bool) (disp22 : BitVec 22)
  | BNE (a : Bool) (disp22 : BitVec 22)
  | BG (a : Bool) (disp22 : BitVec 22)
  | BGE (a : Bool) (disp22 : BitVec 22)
  | BGU (a : Bool) (disp22 : BitVec 22)
  | BCC (a : Bool) (disp22 : BitVec 22)
  | BPOS (a : Bool) (disp22 : BitVec 22)
  | BVC (a : Bool) (disp22 : BitVec 22)
  | BRZ (a p : Bool) (rs1 : Reg) (d16 : BitVec 16)
  | BRLEZ (a p : Bool) (rs1 : Reg) (d16 : BitVec 16)
  | BRLZ (a p : Bool) (rs1 : Reg) (d16 : BitVec 16)
  | BRNZ (a p : Bool) (rs1 : Reg) (d16 : BitVec 16)
  | BRGZ (a p : Bool) (rs1 : Reg) (d16 : BitVec 16)
  | BRGEZ (a p : Bool) (rs1 : Reg) (d16 : BitVec 16)
  | CWBE (rs1 : Reg) (op2 : RegImm 5) (d10 : BitVec 10)
  | CWBLE (rs1 : Reg) (op2 : RegImm 5) (d10 : BitVec 10)
  | CWBL (rs1 : Reg) (op2 : RegImm 5) (d10 : BitVec 10)
  | CWBLEU (rs1 : Reg) (op2 : RegImm 5) (d10 : BitVec 10)
  | CWBCS (rs1 : Reg) (op2 : RegImm 5) (d10 : BitVec 10)
  | CWBNEG (rs1 : Reg) (op2 : RegImm 5) (d10 : BitVec 10)
  | CWBVS (rs1 : Reg) (op2 : RegImm 5) (d10 : BitVec 10)
  | CWBNE (rs1 : Reg) (op2 : RegImm 5) (d10 : BitVec 10)
  | CWBG (rs1 : Reg) (op2 : RegImm 5) (d10 : BitVec 10)
  | CWBGE (rs1 : Reg) (op2 : RegImm 5) (d10 : BitVec 10)
  | CWBGU (rs1 : Reg) (op2 : RegImm 5) (d10 : BitVec 10)
  | CWBCC (rs1 : Reg) (op2 : RegImm 5) (d10 : BitVec 10)
  | CWBPOS (rs1 : Reg) (op2 : RegImm 5) (d10 : BitVec 10)
  | CWBVC (rs1 : Reg) (op2 : RegImm 5) (d10 : BitVec 10)
  | CXBE (rs1 : Reg) (op2 : RegImm 5) (d10 : BitVec 10)
  | CXBLE (rs1 : Reg) (op2 : RegImm 5) (d10 : BitVec 10)
  | CXBL (rs1 : Reg) (op2 : RegImm 5) (d10 : BitVec 10)
  | CXBLEU (rs1 : Reg) (op2 : RegImm 5) (d10 : BitVec 10)
  | CXBCS (rs1 : Reg) (op2 : RegImm 5) (d10 : BitVec 10)
  | CXBNEG (rs1 : Reg) (op2 : RegImm 5) (d10 : BitVec 10)
  | CXBVS (rs1 : Reg) (op2 : RegImm 5) (d10 : BitVec 10)
  | CXBNE (rs1 : Reg) (op2 : RegImm 5) (d10 : BitVec 10)
  | CXBG (rs1 : Reg) (op2 : RegImm 5) (d10 : BitVec 10)
  | CXBGE (rs1 : Reg) (op2 : RegImm 5) (d10 : BitVec 10)
  | CXBGU (rs1 : Reg) (op2 : RegImm 5) (d10 : BitVec 10)
  | CXBCC (rs1 : Reg) (op2 : RegImm 5) (d10 : BitVec 10)
  | CXBPOS (rs1 : Reg) (op2 : RegImm 5) (d10 : BitVec 10)
  | CXBVC (rs1 : Reg) (op2 : RegImm 5) (d10 : BitVec 10)
  | FBPN (a : Bool) (cc : BitVec 2) (p : Bool) (disp19 : BitVec 19)
  | FBPNE (a : Bool) (cc : BitVec 2) (p : Bool) (disp19 : BitVec 19)
  | FBPLG (a : Bool) (cc : BitVec 2) (p : Bool) (disp19 : BitVec 19)
  | FBPUL (a : Bool) (cc : BitVec 2) (p : Bool) (disp19 : BitVec 19)
  | FBPL (a : Bool) (cc : BitVec 2) (p : Bool) (disp19 : BitVec 19)
  | FBPUG (a : Bool) (cc : BitVec 2) (p : Bool) (disp19 : BitVec 19)
  | FBPG (a : Bool) (cc : BitVec 2) (p : Bool) (disp19 : BitVec 19)
  | FBPU (a : Bool) (cc : BitVec 2) (p : Bool) (disp19 : BitVec 19)
  | FBPA (a : Bool) (cc : BitVec 2) (p : Bool) (disp19 : BitVec 19)
  | FBPE (a : Bool) (cc : BitVec 2) (p : Bool) (disp19 : BitVec 19)
  | FBPUE (a : Bool) (cc : BitVec 2) (p : Bool) (disp19 : BitVec 19)
  | FBPGE (a : Bool) (cc : BitVec 2) (p : Bool) (disp19 : BitVec 19)
  | FBPUGE (a : Bool) (cc : BitVec 2) (p : Bool) (disp19 : BitVec 19)
  | FBPLE (a : Bool) (cc : BitVec 2) (p : Bool) (disp19 : BitVec 19)
  | FBPULE (a : Bool) (cc : BitVec 2) (p : Bool) (disp19 : BitVec 19)
  | FBPO (a : Bool) (cc : BitVec 2) (p : Bool) (disp19 : BitVec 19)
  | FBN (a : Bool) (disp22 : BitVec 22)
  | FBNE (a : Bool) (disp22 : BitVec 22)
  | FBLG (a : Bool) (disp22 : BitVec 22)
  | FBUL (a : Bool) (disp22 : BitVec 22)
  | FBL (a : Bool) (disp22 : BitVec 22)
  | FBUG (a : Bool) (disp22 : BitVec 22)
  | FBG (a : Bool) (disp22 : BitVec 22)
  | FBU (a : Bool) (disp22 : BitVec 22)
  | FBA (a : Bool) (disp22 : BitVec 22)
  | FBE (a : Bool) (disp22 : BitVec 22)
  | FBUE (a : Bool) (disp22 : BitVec 22)
  | FBGE (a : Bool) (disp22 : BitVec 22)
  | FBUGE (a : Bool) (disp22 : BitVec 22)
  | FBLE (a : Bool) (disp22 : BitVec 22)
  | FBULE (a : Bool) (disp22 : BitVec 22)
  | FBO (a : Bool) (disp22 : BitVec 22)
  | CALL (disp30 : BitVec 30)
  | JMPL (rd rs1 : Reg) (op2 : RegImm 13)
  | RETURN (rs1 : Reg) (op2 : RegImm 13)
  | TN (cc : IccSel) (rs1 : Reg) (op2 : RegImm 8)
  | TE (cc : IccSel) (rs1 : Reg) (op2 : RegImm 8)
  | TLE (cc : IccSel) (rs1 : Reg) (op2 : RegImm 8)
  | TL (cc : IccSel) (rs1 : Reg) (op2 : RegImm 8)
  | TLEU (cc : IccSel) (rs1 : Reg) (op2 : RegImm 8)
  | TCS (cc : IccSel) (rs1 : Reg) (op2 : RegImm 8)
  | TNEG (cc : IccSel) (rs1 : Reg) (op2 : RegImm 8)
  | TVS (cc : IccSel) (rs1 : Reg) (op2 : RegImm 8)
  | TA (cc : IccSel) (rs1 : Reg) (op2 : RegImm 8)
  | TNE (cc : IccSel) (rs1 : Reg) (op2 : RegImm 8)
  | TG (cc : IccSel) (rs1 : Reg) (op2 : RegImm 8)
  | TGE (cc : IccSel) (rs1 : Reg) (op2 : RegImm 8)
  | TGU (cc : IccSel) (rs1 : Reg) (op2 : RegImm 8)
  | TCC (cc : IccSel) (rs1 : Reg) (op2 : RegImm 8)
  | TPOS (cc : IccSel) (rs1 : Reg) (op2 : RegImm 8)
  | TVC (cc : IccSel) (rs1 : Reg) (op2 : RegImm 8)
  | DONE
  | RETRY
  -- integer loads and stores, atomics, barriers (42_load_store.md)
  | STBAR
  | MEMBAR (cmask : BitVec 3) (mmask : BitVec 4)
  | FLUSH (rs1 : Reg) (op2 : RegImm 13)
  | LDUW (rd rs1 : Reg) (op2 : RegImm 13)
  | LDUB (rd rs1 : Reg) (op2 : RegImm 13)
  | LDUH (rd rs1 : Reg) (op2 : RegImm 13)
  | LDTW (rd rs1 : Reg) (op2 : RegImm 13)
  | STW (rd rs1 : Reg) (op2 : RegImm 13)
  | STB (rd rs1 : Reg) (op2 : RegImm 13)
  | STH (rd rs1 : Reg) (op2 : RegImm 13)
  | STTW (rd rs1 : Reg) (op2 : RegImm 13)
  | LDSW (rd rs1 : Reg) (op2 : RegImm 13)
  | LDSB (rd rs1 : Reg) (op2 : RegImm 13)
  | LDSH (rd rs1 : Reg) (op2 : RegImm 13)
  | LDX (rd rs1 : Reg) (op2 : RegImm 13)
  | LDSTUB (rd rs1 : Reg) (op2 : RegImm 13)
  | STX (rd rs1 : Reg) (op2 : RegImm 13)
  | SWAP (rd rs1 : Reg) (op2 : RegImm 13)
  | LDUWA (rd rs1 : Reg) (addr : AltOperand)
  | LDUBA (rd rs1 : Reg) (addr : AltOperand)
  | LDUHA (rd rs1 : Reg) (addr : AltOperand)
  | LDTWA (rd rs1 : Reg) (addr : AltOperand)
  | STWA (rd rs1 : Reg) (addr : AltOperand)
  | STBA (rd rs1 : Reg) (addr : AltOperand)
  | STHA (rd rs1 : Reg) (addr : AltOperand)
  | STTWA (rd rs1 : Reg) (addr : AltOperand)
  | LDSWA (rd rs1 : Reg) (addr : AltOperand)
  | LDSBA (rd rs1 : Reg) (addr : AltOperand)
  | LDSHA (rd rs1 : Reg) (addr : AltOperand)
  | LDXA (rd rs1 : Reg) (addr : AltOperand)
  | LDSTUBA (rd rs1 : Reg) (addr : AltOperand)
  | STXA (rd rs1 : Reg) (addr : AltOperand)
  | SWAPA (rd rs1 : Reg) (addr : AltOperand)
  | LDTXA (rd rs1 rs2 : Reg) (asi : BitVec 8)
  | PREFETCH (fcn : BitVec 5) (rs1 : Reg) (op2 : RegImm 13)
  | CASA (rd rs1 rs2 : Reg) (asi : AsiSource)
  | PREFETCHA (fcn : BitVec 5) (rs1 : Reg) (addr : AltOperand)
  | CASXA (rd rs1 rs2 : Reg) (asi : AsiSource)
  -- floating-point loads and stores (43_fp_load_store.md)
  | LDF (rd : FReg) (rs1 : Reg) (op2 : RegImm 13)
  | LDFSR (rs1 : Reg) (op2 : RegImm 13)
  | LDXFSR (rs1 : Reg) (op2 : RegImm 13)
  | LDXEFSR (rs1 : Reg) (op2 : RegImm 13)
  | LDQF (rd : DReg) (rs1 : Reg) (op2 : RegImm 13)
  | LDDF (rd : DReg) (rs1 : Reg) (op2 : RegImm 13)
  | STF (rd : FReg) (rs1 : Reg) (op2 : RegImm 13)
  | STFSR (rs1 : Reg) (op2 : RegImm 13)
  | STXFSR (rs1 : Reg) (op2 : RegImm 13)
  | STQF (rd : DReg) (rs1 : Reg) (op2 : RegImm 13)
  | STDF (rd : DReg) (rs1 : Reg) (op2 : RegImm 13)
  | LDFA (rd : FReg) (rs1 : Reg) (addr : AltOperand)
  | LDQFA (rd : DReg) (rs1 : Reg) (addr : AltOperand)
  | LDDFA (rd : DReg) (rs1 : Reg) (addr : AltOperand)
  | LDBLOCKF (rd : DReg) (rs1 rs2 : Reg) (asi : BitVec 8)
  | LDSHORTF (rd : DReg) (rs1 rs2 : Reg) (asi : BitVec 8)
  | STFA (rd : FReg) (rs1 : Reg) (addr : AltOperand)
  | STQFA (rd : DReg) (rs1 : Reg) (addr : AltOperand)
  | STDFA (rd : DReg) (rs1 : Reg) (addr : AltOperand)
  | STBLOCKF (rd : DReg) (rs1 rs2 : Reg) (asi : BitVec 8)
  | STPARTIALF (rd : DReg) (rs1 rs2 : Reg) (asi : BitVec 8)
  | STSHORTF (rd : DReg) (rs1 rs2 : Reg) (asi : BitVec 8)
  -- register windows (44_window.md)
  | FLUSHW
  | SAVED
  | RESTORED
  | ALLCLEAN
  | OTHERW
  | NORMALW
  | INVALW
  | SAVE (rd rs1 : Reg) (op2 : RegImm 13)
  | RESTORE (rd rs1 : Reg) (op2 : RegImm 13)
  -- state registers (45_state_access.md)
  | RDY (rd : Reg)
  | RDCCR (rd : Reg)
  | RDASI (rd : Reg)
  | RDTICK (rd : Reg)
  | RDPC (rd : Reg)
  | RDFPRS (rd : Reg)
  | RDGSR (rd : Reg)
  | RDSOFTINT (rd : Reg)
  | RDSTICK (rd : Reg)
  | RDSTICK_CMPR (rd : Reg)
  | RDCFR (rd : Reg)
  | RDPR_TPC (rd : Reg)
  | RDPR_TNPC (rd : Reg)
  | RDPR_TSTATE (rd : Reg)
  | RDPR_TT (rd : Reg)
  | RDPR_TICK (rd : Reg)
  | RDPR_TBA (rd : Reg)
  | RDPR_PSTATE (rd : Reg)
  | RDPR_TL (rd : Reg)
  | RDPR_PIL (rd : Reg)
  | RDPR_CWP (rd : Reg)
  | RDPR_CANSAVE (rd : Reg)
  | RDPR_CANRESTORE (rd : Reg)
  | RDPR_CLEANWIN (rd : Reg)
  | RDPR_OTHERWIN (rd : Reg)
  | RDPR_WSTATE (rd : Reg)
  | RDPR_GL (rd : Reg)
  | WRY (rs1 : Reg) (op2 : RegImm 13)
  | WRCCR (rs1 : Reg) (op2 : RegImm 13)
  | WRASI (rs1 : Reg) (op2 : RegImm 13)
  | WRFPRS (rs1 : Reg) (op2 : RegImm 13)
  | WRGSR (rs1 : Reg) (op2 : RegImm 13)
  | WRSOFTINT_SET (rs1 : Reg) (op2 : RegImm 13)
  | WRSOFTINT_CLR (rs1 : Reg) (op2 : RegImm 13)
  | WRSOFTINT (rs1 : Reg) (op2 : RegImm 13)
  | WRSTICK_CMPR (rs1 : Reg) (op2 : RegImm 13)
  | WRPAUSE (rs1 : Reg) (op2 : RegImm 13)
  | PAUSE (op2 : RegImm 13)
  | WRMWAIT (rs1 : Reg) (op2 : RegImm 13)
  | MWAIT (op2 : RegImm 13)
  | WRPR_TPC (rs1 : Reg) (op2 : RegImm 13)
  | WRPR_TNPC (rs1 : Reg) (op2 : RegImm 13)
  | WRPR_TSTATE (rs1 : Reg) (op2 : RegImm 13)
  | WRPR_TT (rs1 : Reg) (op2 : RegImm 13)
  | WRPR_TBA (rs1 : Reg) (op2 : RegImm 13)
  | WRPR_PSTATE (rs1 : Reg) (op2 : RegImm 13)
  | WRPR_TL (rs1 : Reg) (op2 : RegImm 13)
  | WRPR_PIL (rs1 : Reg) (op2 : RegImm 13)
  | WRPR_CWP (rs1 : Reg) (op2 : RegImm 13)
  | WRPR_CANSAVE (rs1 : Reg) (op2 : RegImm 13)
  | WRPR_CANRESTORE (rs1 : Reg) (op2 : RegImm 13)
  | WRPR_CLEANWIN (rs1 : Reg) (op2 : RegImm 13)
  | WRPR_OTHERWIN (rs1 : Reg) (op2 : RegImm 13)
  | WRPR_WSTATE (rs1 : Reg) (op2 : RegImm 13)
  | WRPR_GL (rs1 : Reg) (op2 : RegImm 13)
  | SIAM (mode : BitVec 3)
  -- floating-point operate (46_fpop.md)
  | FMOVs (rd rs2 : FReg)
  | FMOVd (rd rs2 : DReg)
  | FMOVq (rd rs2 : DReg)
  | FNEGs (rd rs2 : FReg)
  | FNEGd (rd rs2 : DReg)
  | FNEGq (rd rs2 : DReg)
  | FABSs (rd rs2 : FReg)
  | FABSd (rd rs2 : DReg)
  | FABSq (rd rs2 : DReg)
  | FSQRTs (rd rs2 : FReg)
  | FSQRTd (rd rs2 : DReg)
  | FSQRTq (rd rs2 : DReg)
  | FADDs (rd rs1 rs2 : FReg)
  | FADDd (rd rs1 rs2 : DReg)
  | FADDq (rd rs1 rs2 : DReg)
  | FSUBs (rd rs1 rs2 : FReg)
  | FSUBd (rd rs1 rs2 : DReg)
  | FSUBq (rd rs1 rs2 : DReg)
  | FMULs (rd rs1 rs2 : FReg)
  | FMULd (rd rs1 rs2 : DReg)
  | FMULq (rd rs1 rs2 : DReg)
  | FDIVs (rd rs1 rs2 : FReg)
  | FDIVd (rd rs1 rs2 : DReg)
  | FDIVq (rd rs1 rs2 : DReg)
  | FNADDs (rd rs1 rs2 : FReg)
  | FNADDd (rd rs1 rs2 : DReg)
  | FNMULs (rd rs1 rs2 : FReg)
  | FNMULd (rd rs1 rs2 : DReg)
  | FHADDs (rd rs1 rs2 : FReg)
  | FHADDd (rd rs1 rs2 : DReg)
  | FHSUBs (rd rs1 rs2 : FReg)
  | FHSUBd (rd rs1 rs2 : DReg)
  | FsMULd (rd : DReg) (rs1 rs2 : FReg)
  | FdMULq (rd rs1 rs2 : DReg)
  | FNHADDs (rd rs1 rs2 : FReg)
  | FNHADDd (rd rs1 rs2 : DReg)
  | FNsMULd (rd : DReg) (rs1 rs2 : FReg)
  | FsTOx (rd : DReg) (rs2 : FReg)
  | FdTOx (rd rs2 : DReg)
  | FqTOx (rd rs2 : DReg)
  | FxTOs (rd : FReg) (rs2 : DReg)
  | FxTOd (rd rs2 : DReg)
  | FxTOq (rd rs2 : DReg)
  | FiTOs (rd rs2 : FReg)
  | FdTOs (rd : FReg) (rs2 : DReg)
  | FqTOs (rd : FReg) (rs2 : DReg)
  | FiTOd (rd : DReg) (rs2 : FReg)
  | FsTOd (rd : DReg) (rs2 : FReg)
  | FqTOd (rd rs2 : DReg)
  | FiTOq (rd : DReg) (rs2 : FReg)
  | FsTOq (rd : DReg) (rs2 : FReg)
  | FdTOq (rd rs2 : DReg)
  | FsTOi (rd rs2 : FReg)
  | FdTOi (rd : FReg) (rs2 : DReg)
  | FqTOi (rd : FReg) (rs2 : DReg)
  | FMOVSfcc0 (rd : FReg) (cond : FCond) (rs2 : FReg)
  | FMOVDfcc0 (rd : DReg) (cond : FCond) (rs2 : DReg)
  | FMOVQfcc0 (rd : DReg) (cond : FCond) (rs2 : DReg)
  | FMOVSfcc1 (rd : FReg) (cond : FCond) (rs2 : FReg)
  | FMOVDfcc1 (rd : DReg) (cond : FCond) (rs2 : DReg)
  | FMOVQfcc1 (rd : DReg) (cond : FCond) (rs2 : DReg)
  | FMOVSfcc2 (rd : FReg) (cond : FCond) (rs2 : FReg)
  | FMOVDfcc2 (rd : DReg) (cond : FCond) (rs2 : DReg)
  | FMOVQfcc2 (rd : DReg) (cond : FCond) (rs2 : DReg)
  | FMOVSfcc3 (rd : FReg) (cond : FCond) (rs2 : FReg)
  | FMOVDfcc3 (rd : DReg) (cond : FCond) (rs2 : DReg)
  | FMOVQfcc3 (rd : DReg) (cond : FCond) (rs2 : DReg)
  | FMOVSicc (rd : FReg) (cond : ICond) (rs2 : FReg)
  | FMOVDicc (rd : DReg) (cond : ICond) (rs2 : DReg)
  | FMOVQicc (rd : DReg) (cond : ICond) (rs2 : DReg)
  | FMOVSxcc (rd : FReg) (cond : ICond) (rs2 : FReg)
  | FMOVDxcc (rd : DReg) (cond : ICond) (rs2 : DReg)
  | FMOVQxcc (rd : DReg) (cond : ICond) (rs2 : DReg)
  | FCMPs (cc : BitVec 2) (rs1 rs2 : FReg)
  | FCMPd (cc : BitVec 2) (rs1 rs2 : DReg)
  | FCMPq (cc : BitVec 2) (rs1 rs2 : DReg)
  | FCMPEs (cc : BitVec 2) (rs1 rs2 : FReg)
  | FCMPEd (cc : BitVec 2) (rs1 rs2 : DReg)
  | FCMPEq (cc : BitVec 2) (rs1 rs2 : DReg)
  | FMOVRsZ (rd : FReg) (rs1 : Reg) (rs2 : FReg)
  | FMOVRdZ (rd : DReg) (rs1 : Reg) (rs2 : DReg)
  | FMOVRqZ (rd : DReg) (rs1 : Reg) (rs2 : DReg)
  | FMOVRsLEZ (rd : FReg) (rs1 : Reg) (rs2 : FReg)
  | FMOVRdLEZ (rd : DReg) (rs1 : Reg) (rs2 : DReg)
  | FMOVRqLEZ (rd : DReg) (rs1 : Reg) (rs2 : DReg)
  | FMOVRsLZ (rd : FReg) (rs1 : Reg) (rs2 : FReg)
  | FMOVRdLZ (rd : DReg) (rs1 : Reg) (rs2 : DReg)
  | FMOVRqLZ (rd : DReg) (rs1 : Reg) (rs2 : DReg)
  | FMOVRsNZ (rd : FReg) (rs1 : Reg) (rs2 : FReg)
  | FMOVRdNZ (rd : DReg) (rs1 : Reg) (rs2 : DReg)
  | FMOVRqNZ (rd : DReg) (rs1 : Reg) (rs2 : DReg)
  | FMOVRsGZ (rd : FReg) (rs1 : Reg) (rs2 : FReg)
  | FMOVRdGZ (rd : DReg) (rs1 : Reg) (rs2 : DReg)
  | FMOVRqGZ (rd : DReg) (rs1 : Reg) (rs2 : DReg)
  | FMOVRsGEZ (rd : FReg) (rs1 : Reg) (rs2 : FReg)
  | FMOVRdGEZ (rd : DReg) (rs1 : Reg) (rs2 : DReg)
  | FMOVRqGEZ (rd : DReg) (rs1 : Reg) (rs2 : DReg)
  | FLCMPs (cc : BitVec 2) (rs1 rs2 : FReg)
  | FLCMPd (cc : BitVec 2) (rs1 rs2 : DReg)
  | FMADDs (rd rs1 rs2 rs3 : FReg)
  | FMADDd (rd rs1 rs2 rs3 : DReg)
  | FMSUBs (rd rs1 rs2 rs3 : FReg)
  | FMSUBd (rd rs1 rs2 rs3 : DReg)
  | FNMSUBs (rd rs1 rs2 rs3 : FReg)
  | FNMSUBd (rd rs1 rs2 rs3 : DReg)
  | FNMADDs (rd rs1 rs2 rs3 : FReg)
  | FNMADDd (rd rs1 rs2 rs3 : DReg)
  -- VIS (47_vis.md)
  | EDGE8cc (rd rs1 rs2 : Reg)
  | EDGE8N (rd rs1 rs2 : Reg)
  | EDGE8Lcc (rd rs1 rs2 : Reg)
  | EDGE8LN (rd rs1 rs2 : Reg)
  | EDGE16cc (rd rs1 rs2 : Reg)
  | EDGE16N (rd rs1 rs2 : Reg)
  | EDGE16Lcc (rd rs1 rs2 : Reg)
  | EDGE16LN (rd rs1 rs2 : Reg)
  | EDGE32cc (rd rs1 rs2 : Reg)
  | EDGE32N (rd rs1 rs2 : Reg)
  | EDGE32Lcc (rd rs1 rs2 : Reg)
  | EDGE32LN (rd rs1 rs2 : Reg)
  | ARRAY8 (rd rs1 rs2 : Reg)
  | ARRAY16 (rd rs1 rs2 : Reg)
  | ARRAY32 (rd rs1 rs2 : Reg)
  | ALIGNADDRESS (rd rs1 rs2 : Reg)
  | BMASK (rd rs1 rs2 : Reg)
  | ALIGNADDRESS_LITTLE (rd rs1 rs2 : Reg)
  | CMASK8 (rs2 : Reg)
  | CMASK16 (rs2 : Reg)
  | CMASK32 (rs2 : Reg)
  | FPCMPLE16 (rd : Reg) (rs1 rs2 : DReg)
  | FSLL16 (rd rs1 rs2 : DReg)
  | FPCMPNE16 (rd : Reg) (rs1 rs2 : DReg)
  | FSRL16 (rd rs1 rs2 : DReg)
  | FPCMPLE32 (rd : Reg) (rs1 rs2 : DReg)
  | FSLL32 (rd rs1 rs2 : DReg)
  | FPCMPNE32 (rd : Reg) (rs1 rs2 : DReg)
  | FSRL32 (rd rs1 rs2 : DReg)
  | FPCMPGT16 (rd : Reg) (rs1 rs2 : DReg)
  | FSLAS16 (rd rs1 rs2 : DReg)
  | FPCMPEQ16 (rd : Reg) (rs1 rs2 : DReg)
  | FSRA16 (rd rs1 rs2 : DReg)
  | FPCMPGT32 (rd : Reg) (rs1 rs2 : DReg)
  | FSLAS32 (rd rs1 rs2 : DReg)
  | FPCMPEQ32 (rd : Reg) (rs1 rs2 : DReg)
  | FSRA32 (rd rs1 rs2 : DReg)
  | FMUL8x16 (rd : DReg) (rs1 : FReg) (rs2 : DReg)
  | FMUL8x16AU (rd : DReg) (rs1 rs2 : FReg)
  | FPCMPLE8 (rd : Reg) (rs1 rs2 : DReg)
  | FMUL8x16AL (rd : DReg) (rs1 rs2 : FReg)
  | FMUL8SUx16 (rd rs1 rs2 : DReg)
  | FMUL8ULx16 (rd rs1 rs2 : DReg)
  | FMULD8SUx16 (rd : DReg) (rs1 rs2 : FReg)
  | FMULD8ULx16 (rd : DReg) (rs1 rs2 : FReg)
  | FPACK32 (rd rs1 rs2 : DReg)
  | FPACK16 (rd : FReg) (rs2 : DReg)
  | FPCMPGT8 (rd : Reg) (rs1 rs2 : DReg)
  | FPACKFIX (rd : FReg) (rs2 : DReg)
  | PDIST (rd rs1 rs2 : DReg)
  | PDISTN (rd : Reg) (rs1 rs2 : DReg)
  | FMEAN16 (rd rs1 rs2 : DReg)
  | FPADD64 (rd rs1 rs2 : DReg)
  | FCHKSM16 (rd rs1 rs2 : DReg)
  | FPSUB64 (rd rs1 rs2 : DReg)
  | FALIGNDATAg (rd rs1 rs2 : DReg)
  | FALIGNDATAi (rd : DReg) (rs1 : Reg) (rs2 : DReg)
  | FPMERGE (rd : DReg) (rs1 rs2 : FReg)
  | BSHUFFLE (rd rs1 rs2 : DReg)
  | FEXPAND (rd : DReg) (rs2 : FReg)
  | FPADD16 (rd rs1 rs2 : DReg)
  | FPADD16s (rd rs1 rs2 : FReg)
  | FPADD32 (rd rs1 rs2 : DReg)
  | FPADD32s (rd rs1 rs2 : FReg)
  | FPSUB16 (rd rs1 rs2 : DReg)
  | FPSUB16s (rd rs1 rs2 : FReg)
  | FPSUB32 (rd rs1 rs2 : DReg)
  | FPSUB32s (rd rs1 rs2 : FReg)
  | FPADDS16 (rd rs1 rs2 : DReg)
  | FPADDS16s (rd rs1 rs2 : FReg)
  | FPADDS32 (rd rs1 rs2 : DReg)
  | FPADDS32s (rd rs1 rs2 : FReg)
  | FPSUBS16 (rd rs1 rs2 : DReg)
  | FPSUBS16s (rd rs1 rs2 : FReg)
  | FPSUBS32 (rd rs1 rs2 : DReg)
  | FPSUBS32s (rd rs1 rs2 : FReg)
  | FZEROd (rd : DReg)
  | FZEROs (rd : FReg)
  | FNORd (rd rs1 rs2 : DReg)
  | FNORs (rd rs1 rs2 : FReg)
  | FANDNOT2d (rd rs1 rs2 : DReg)
  | FANDNOT2s (rd rs1 rs2 : FReg)
  | FNOT2d (rd rs2 : DReg)
  | FNOT2s (rd rs2 : FReg)
  | FANDNOT1d (rd rs1 rs2 : DReg)
  | FANDNOT1s (rd rs1 rs2 : FReg)
  | FNOT1d (rd rs1 : DReg)
  | FNOT1s (rd rs1 : FReg)
  | FXORd (rd rs1 rs2 : DReg)
  | FXORs (rd rs1 rs2 : FReg)
  | FNANDd (rd rs1 rs2 : DReg)
  | FNANDs (rd rs1 rs2 : FReg)
  | FANDd (rd rs1 rs2 : DReg)
  | FANDs (rd rs1 rs2 : FReg)
  | FXNORd (rd rs1 rs2 : DReg)
  | FXNORs (rd rs1 rs2 : FReg)
  | FSRC1d (rd rs1 : DReg)
  | FSRC1s (rd rs1 : FReg)
  | FORNOT2d (rd rs1 rs2 : DReg)
  | FORNOT2s (rd rs1 rs2 : FReg)
  | FSRC2d (rd rs2 : DReg)
  | FSRC2s (rd rs2 : FReg)
  | FORNOT1d (rd rs1 rs2 : DReg)
  | FORNOT1s (rd rs1 rs2 : FReg)
  | FORd (rd rs1 rs2 : DReg)
  | FORs (rd rs1 rs2 : FReg)
  | FONEd (rd : DReg)
  | FONEs (rd : FReg)
  | MOVdTOx (rd : Reg) (rs2 : DReg)
  | MOVsTOuw (rd : Reg) (rs2 : FReg)
  | MOVsTOsw (rd : Reg) (rs2 : FReg)
  | MOVxTOd (rd : DReg) (rs2 : Reg)
  | MOVwTOs (rd : FReg) (rs2 : Reg)
  | FPMIN8 (rd rs1 rs2 : DReg)
  | FPMIN16 (rd rs1 rs2 : DReg)
  | FPMIN32 (rd rs1 rs2 : DReg)
  | FPMAX8 (rd rs1 rs2 : DReg)
  | FPMAX16 (rd rs1 rs2 : DReg)
  | FPMAX32 (rd rs1 rs2 : DReg)
  | FPCMPULE8 (rd : Reg) (rs1 rs2 : DReg)
  | FPCMPNE8 (rd : Reg) (rs1 rs2 : DReg)
  | FPADDUS16 (rd rs1 rs2 : DReg)
  | FPADD8 (rd rs1 rs2 : DReg)
  | FPADDS8 (rd rs1 rs2 : DReg)
  | FPADDUS8 (rd rs1 rs2 : DReg)
  | FPCMPUGT8 (rd : Reg) (rs1 rs2 : DReg)
  | FPCMPEQ8 (rd : Reg) (rs1 rs2 : DReg)
  | FPCMPUGT16 (rd : Reg) (rs1 rs2 : DReg)
  | FPCMPUGT32 (rd : Reg) (rs1 rs2 : DReg)
  | FPCMPULE16 (rd : Reg) (rs1 rs2 : DReg)
  | FPCMPULE32 (rd : Reg) (rs1 rs2 : DReg)
  | FPSUBUS16 (rd rs1 rs2 : DReg)
  | FPSUB8 (rd rs1 rs2 : DReg)
  | FPSUBS8 (rd rs1 rs2 : DReg)
  | FPSUBUS8 (rd rs1 rs2 : DReg)
  | FPMINU8 (rd rs1 rs2 : DReg)
  | FPMINU16 (rd rs1 rs2 : DReg)
  | FPMINU32 (rd rs1 rs2 : DReg)
  | FPMAXU8 (rd rs1 rs2 : DReg)
  | FPMAXU16 (rd rs1 rs2 : DReg)
  | FPMAXU32 (rd rs1 rs2 : DReg)
  | FPMADDX (rd rs1 rs2 rs3 : DReg)
  | FPMADDXHI (rd rs1 rs2 rs3 : DReg)
  -- cryptographic (49_crypto.md)
  | AES_KEXPAND0 (rd rs1 rs2 : DReg)
  | AES_KEXPAND2 (rd rs1 rs2 : DReg)
  | DES_IP (rd rs1 : DReg)
  | DES_IIP (rd rs1 : DReg)
  | DES_KEXPAND (rd rs1 : DReg) (imm5 : BitVec 5)
  | CAMELLIA_FL (rd rs1 rs2 : DReg)
  | CAMELLIA_FLI (rd rs1 rs2 : DReg)
  | MD5
  | SHA1
  | SHA256
  | SHA512
  | CRC32C (rd rs1 rs2 : DReg)
  | MPMUL (imm5 : BitVec 5)
  | XMPMUL (imm5 : BitVec 5)
  | MONTMUL (imm5 : BitVec 5)
  | XMONTMUL (imm5 : BitVec 5)
  | MONTSQR (imm5 : BitVec 5)
  | XMONTSQR (imm5 : BitVec 5)
  | AES_EROUND01 (rd rs1 rs2 rs3 : DReg)
  | AES_EROUND23 (rd rs1 rs2 rs3 : DReg)
  | AES_DROUND01 (rd rs1 rs2 rs3 : DReg)
  | AES_DROUND23 (rd rs1 rs2 rs3 : DReg)
  | AES_EROUND01_LAST (rd rs1 rs2 rs3 : DReg)
  | AES_EROUND23_LAST (rd rs1 rs2 rs3 : DReg)
  | AES_DROUND01_LAST (rd rs1 rs2 rs3 : DReg)
  | AES_DROUND23_LAST (rd rs1 rs2 rs3 : DReg)
  | DES_ROUND (rd rs1 rs2 rs3 : DReg)
  | CAMELLIA_F (rd rs1 rs2 rs3 : DReg)
  | AES_KEXPAND1 (rd rs1 rs2 : DReg) (imm5 : BitVec 5)
deriving DecidableEq, Repr

end Sys2Proof
end

