-- ==== Sys2Proof/WellFormed.lean ====
section
/-!
DEFINITION. Which terms of `Instr` stand for an instruction word: the conditions on operands that no
encoding outside them satisfies (even register pairs R116, PREFETCH functions R244, the ASIs that select an
instruction sharing its opcode R241, R242, R260, R269, R271, R281, R282, the general forms of PAUSE and MWAIT
R293, R294, and NOP within SETHI R158).
-/

namespace Sys2Proof

open Sys2Proof.Machine

/-- The register number of a pair is even (R14, R116). -/
def evenReg (rd : Reg) : Bool := !rd.getLsbD 0

/-- A PREFETCH function that is not reserved (R244). -/
def prefetchFcn (fcn : BitVec 5) : Bool := !(decide (5 ≤ fcn.toNat) && decide (fcn.toNat ≤ 15))

/-- An immediate ASI outside the set that selects another instruction. -/
def notImmAsi (set : List (BitVec 8)) : AltOperand → Bool
  | .immAsi asi _ => !set.contains asi
  | .asiReg _ => true

/-- The well-formed instructions. -/
def wellFormed : Instr → Bool
  | .NOP => true
  | .SETHI rd imm22 => !(rd == 0 && imm22 == 0)
  | .ADD _ _ _ => true
  | .AND _ _ _ => true
  | .OR _ _ _ => true
  | .XOR _ _ _ => true
  | .SUB _ _ _ => true
  | .ANDN _ _ _ => true
  | .ORN _ _ _ => true
  | .XNOR _ _ _ => true
  | .ADDC _ _ _ => true
  | .MULX _ _ _ => true
  | .UMUL _ _ _ => true
  | .SMUL _ _ _ => true
  | .SUBC _ _ _ => true
  | .UDIVX _ _ _ => true
  | .UDIV _ _ _ => true
  | .SDIV _ _ _ => true
  | .ADDcc _ _ _ => true
  | .ANDcc _ _ _ => true
  | .ORcc _ _ _ => true
  | .XORcc _ _ _ => true
  | .SUBcc _ _ _ => true
  | .ANDNcc _ _ _ => true
  | .ORNcc _ _ _ => true
  | .XNORcc _ _ _ => true
  | .ADDCcc _ _ _ => true
  | .UMULcc _ _ _ => true
  | .SMULcc _ _ _ => true
  | .SUBCcc _ _ _ => true
  | .UDIVcc _ _ _ => true
  | .SDIVcc _ _ _ => true
  | .TADDcc _ _ _ => true
  | .TSUBcc _ _ _ => true
  | .TADDccTV _ _ _ => true
  | .TSUBccTV _ _ _ => true
  | .MULScc _ _ _ => true
  | .SDIVX _ _ _ => true
  | .SLL _ _ _ => true
  | .SLLX _ _ _ => true
  | .SRL _ _ _ => true
  | .SRLX _ _ _ => true
  | .SRA _ _ _ => true
  | .SRAX _ _ _ => true
  | .MOVfcc0 _ _ _ => true
  | .MOVfcc1 _ _ _ => true
  | .MOVfcc2 _ _ _ => true
  | .MOVfcc3 _ _ _ => true
  | .MOVicc _ _ _ => true
  | .MOVxcc _ _ _ => true
  | .POPC _ _ => true
  | .MOVRZ _ _ _ => true
  | .MOVRLEZ _ _ _ => true
  | .MOVRLZ _ _ _ => true
  | .MOVRNZ _ _ _ => true
  | .MOVRGZ _ _ _ => true
  | .MOVRGEZ _ _ _ => true
  | .ADDXC _ _ _ => true
  | .ADDXCcc _ _ _ => true
  | .UMULXHI _ _ _ => true
  | .LZCNT _ _ => true
  | .SUBXC _ _ _ => true
  | .SUBXCcc _ _ _ => true
  | .XMULX _ _ _ => true
  | .XMULXHI _ _ _ => true
  | .ILLTRAP _ => true
  | .BPN _ _ _ _ => true
  | .BPE _ _ _ _ => true
  | .BPLE _ _ _ _ => true
  | .BPL _ _ _ _ => true
  | .BPLEU _ _ _ _ => true
  | .BPCS _ _ _ _ => true
  | .BPNEG _ _ _ _ => true
  | .BPVS _ _ _ _ => true
  | .BPA _ _ _ _ => true
  | .BPNE _ _ _ _ => true
  | .BPG _ _ _ _ => true
  | .BPGE _ _ _ _ => true
  | .BPGU _ _ _ _ => true
  | .BPCC _ _ _ _ => true
  | .BPPOS _ _ _ _ => true
  | .BPVC _ _ _ _ => true
  | .BN _ _ => true
  | .BE _ _ => true
  | .BLE _ _ => true
  | .BL _ _ => true
  | .BLEU _ _ => true
  | .BCS _ _ => true
  | .BNEG _ _ => true
  | .BVS _ _ => true
  | .BA _ _ => true
  | .BNE _ _ => true
  | .BG _ _ => true
  | .BGE _ _ => true
  | .BGU _ _ => true
  | .BCC _ _ => true
  | .BPOS _ _ => true
  | .BVC _ _ => true
  | .BRZ _ _ _ _ => true
  | .BRLEZ _ _ _ _ => true
  | .BRLZ _ _ _ _ => true
  | .BRNZ _ _ _ _ => true
  | .BRGZ _ _ _ _ => true
  | .BRGEZ _ _ _ _ => true
  | .CWBE _ _ _ => true
  | .CWBLE _ _ _ => true
  | .CWBL _ _ _ => true
  | .CWBLEU _ _ _ => true
  | .CWBCS _ _ _ => true
  | .CWBNEG _ _ _ => true
  | .CWBVS _ _ _ => true
  | .CWBNE _ _ _ => true
  | .CWBG _ _ _ => true
  | .CWBGE _ _ _ => true
  | .CWBGU _ _ _ => true
  | .CWBCC _ _ _ => true
  | .CWBPOS _ _ _ => true
  | .CWBVC _ _ _ => true
  | .CXBE _ _ _ => true
  | .CXBLE _ _ _ => true
  | .CXBL _ _ _ => true
  | .CXBLEU _ _ _ => true
  | .CXBCS _ _ _ => true
  | .CXBNEG _ _ _ => true
  | .CXBVS _ _ _ => true
  | .CXBNE _ _ _ => true
  | .CXBG _ _ _ => true
  | .CXBGE _ _ _ => true
  | .CXBGU _ _ _ => true
  | .CXBCC _ _ _ => true
  | .CXBPOS _ _ _ => true
  | .CXBVC _ _ _ => true
  | .FBPN _ _ _ _ => true
  | .FBPNE _ _ _ _ => true
  | .FBPLG _ _ _ _ => true
  | .FBPUL _ _ _ _ => true
  | .FBPL _ _ _ _ => true
  | .FBPUG _ _ _ _ => true
  | .FBPG _ _ _ _ => true
  | .FBPU _ _ _ _ => true
  | .FBPA _ _ _ _ => true
  | .FBPE _ _ _ _ => true
  | .FBPUE _ _ _ _ => true
  | .FBPGE _ _ _ _ => true
  | .FBPUGE _ _ _ _ => true
  | .FBPLE _ _ _ _ => true
  | .FBPULE _ _ _ _ => true
  | .FBPO _ _ _ _ => true
  | .FBN _ _ => true
  | .FBNE _ _ => true
  | .FBLG _ _ => true
  | .FBUL _ _ => true
  | .FBL _ _ => true
  | .FBUG _ _ => true
  | .FBG _ _ => true
  | .FBU _ _ => true
  | .FBA _ _ => true
  | .FBE _ _ => true
  | .FBUE _ _ => true
  | .FBGE _ _ => true
  | .FBUGE _ _ => true
  | .FBLE _ _ => true
  | .FBULE _ _ => true
  | .FBO _ _ => true
  | .CALL _ => true
  | .JMPL _ _ _ => true
  | .RETURN _ _ => true
  | .TN _ _ _ => true
  | .TE _ _ _ => true
  | .TLE _ _ _ => true
  | .TL _ _ _ => true
  | .TLEU _ _ _ => true
  | .TCS _ _ _ => true
  | .TNEG _ _ _ => true
  | .TVS _ _ _ => true
  | .TA _ _ _ => true
  | .TNE _ _ _ => true
  | .TG _ _ _ => true
  | .TGE _ _ _ => true
  | .TGU _ _ _ => true
  | .TCC _ _ _ => true
  | .TPOS _ _ _ => true
  | .TVC _ _ _ => true
  | .DONE => true
  | .RETRY => true
  | .STBAR => true
  | .MEMBAR _ _ => true
  | .FLUSH _ _ => true
  | .LDUW _ _ _ => true
  | .LDUB _ _ _ => true
  | .LDUH _ _ _ => true
  | .LDTW rd _ _ => evenReg rd
  | .STW _ _ _ => true
  | .STB _ _ _ => true
  | .STH _ _ _ => true
  | .STTW rd _ _ => evenReg rd
  | .LDSW _ _ _ => true
  | .LDSB _ _ _ => true
  | .LDSH _ _ _ => true
  | .LDX _ _ _ => true
  | .LDSTUB _ _ _ => true
  | .STX _ _ _ => true
  | .SWAP _ _ _ => true
  | .LDUWA _ _ _ => true
  | .LDUBA _ _ _ => true
  | .LDUHA _ _ _ => true
  | .LDTWA rd _ addr => evenReg rd && notImmAsi asiTwin addr
  | .STWA _ _ _ => true
  | .STBA _ _ _ => true
  | .STHA _ _ _ => true
  | .STTWA rd _ _ => evenReg rd
  | .LDSWA _ _ _ => true
  | .LDSBA _ _ _ => true
  | .LDSHA _ _ _ => true
  | .LDXA _ _ _ => true
  | .LDSTUBA _ _ _ => true
  | .STXA _ _ _ => true
  | .SWAPA _ _ _ => true
  | .LDTXA rd _ _ asi => evenReg rd && asiTwin.contains asi
  | .PREFETCH fcn _ _ => prefetchFcn fcn
  | .CASA _ _ _ _ => true
  | .PREFETCHA fcn _ _ => prefetchFcn fcn
  | .CASXA _ _ _ _ => true
  | .LDF _ _ _ => true
  | .LDFSR _ _ => true
  | .LDXFSR _ _ => true
  | .LDXEFSR _ _ => true
  | .LDQF _ _ _ => true
  | .LDDF _ _ _ => true
  | .STF _ _ _ => true
  | .STFSR _ _ => true
  | .STXFSR _ _ => true
  | .STQF _ _ _ => true
  | .STDF _ _ _ => true
  | .LDFA _ _ _ => true
  | .LDQFA _ _ _ => true
  | .LDDFA _ _ addr => notImmAsi (asiBlock ++ asiShort) addr
  | .LDBLOCKF _ _ _ asi => asiBlock.contains asi
  | .LDSHORTF _ _ _ asi => asiShort.contains asi
  | .STFA _ _ _ => true
  | .STQFA _ _ _ => true
  | .STDFA _ _ addr => notImmAsi (asiBlock ++ asiCommit ++ asiPartial ++ asiShort) addr
  | .STBLOCKF _ _ _ asi => (asiBlock ++ asiCommit).contains asi
  | .STPARTIALF _ _ _ asi => asiPartial.contains asi
  | .STSHORTF _ _ _ asi => asiShort.contains asi
  | .FLUSHW => true
  | .SAVED => true
  | .RESTORED => true
  | .ALLCLEAN => true
  | .OTHERW => true
  | .NORMALW => true
  | .INVALW => true
  | .SAVE _ _ _ => true
  | .RESTORE _ _ _ => true
  | .RDY _ => true
  | .RDCCR _ => true
  | .RDASI _ => true
  | .RDTICK _ => true
  | .RDPC _ => true
  | .RDFPRS _ => true
  | .RDGSR _ => true
  | .RDSOFTINT _ => true
  | .RDSTICK _ => true
  | .RDSTICK_CMPR _ => true
  | .RDCFR _ => true
  | .RDPR_TPC _ => true
  | .RDPR_TNPC _ => true
  | .RDPR_TSTATE _ => true
  | .RDPR_TT _ => true
  | .RDPR_TICK _ => true
  | .RDPR_TBA _ => true
  | .RDPR_PSTATE _ => true
  | .RDPR_TL _ => true
  | .RDPR_PIL _ => true
  | .RDPR_CWP _ => true
  | .RDPR_CANSAVE _ => true
  | .RDPR_CANRESTORE _ => true
  | .RDPR_CLEANWIN _ => true
  | .RDPR_OTHERWIN _ => true
  | .RDPR_WSTATE _ => true
  | .RDPR_GL _ => true
  | .WRY _ _ => true
  | .WRCCR _ _ => true
  | .WRASI _ _ => true
  | .WRFPRS _ _ => true
  | .WRGSR _ _ => true
  | .WRSOFTINT_SET _ _ => true
  | .WRSOFTINT_CLR _ _ => true
  | .WRSOFTINT _ _ => true
  | .WRSTICK_CMPR _ _ => true
  | .WRPAUSE rs1 _ => rs1 != 0
  | .PAUSE _ => true
  | .WRMWAIT rs1 _ => rs1 != 0
  | .MWAIT _ => true
  | .WRPR_TPC _ _ => true
  | .WRPR_TNPC _ _ => true
  | .WRPR_TSTATE _ _ => true
  | .WRPR_TT _ _ => true
  | .WRPR_TBA _ _ => true
  | .WRPR_PSTATE _ _ => true
  | .WRPR_TL _ _ => true
  | .WRPR_PIL _ _ => true
  | .WRPR_CWP _ _ => true
  | .WRPR_CANSAVE _ _ => true
  | .WRPR_CANRESTORE _ _ => true
  | .WRPR_CLEANWIN _ _ => true
  | .WRPR_OTHERWIN _ _ => true
  | .WRPR_WSTATE _ _ => true
  | .WRPR_GL _ _ => true
  | .SIAM _ => true
  | .FMOVs _ _ => true
  | .FMOVd _ _ => true
  | .FMOVq _ _ => true
  | .FNEGs _ _ => true
  | .FNEGd _ _ => true
  | .FNEGq _ _ => true
  | .FABSs _ _ => true
  | .FABSd _ _ => true
  | .FABSq _ _ => true
  | .FSQRTs _ _ => true
  | .FSQRTd _ _ => true
  | .FSQRTq _ _ => true
  | .FADDs _ _ _ => true
  | .FADDd _ _ _ => true
  | .FADDq _ _ _ => true
  | .FSUBs _ _ _ => true
  | .FSUBd _ _ _ => true
  | .FSUBq _ _ _ => true
  | .FMULs _ _ _ => true
  | .FMULd _ _ _ => true
  | .FMULq _ _ _ => true
  | .FDIVs _ _ _ => true
  | .FDIVd _ _ _ => true
  | .FDIVq _ _ _ => true
  | .FNADDs _ _ _ => true
  | .FNADDd _ _ _ => true
  | .FNMULs _ _ _ => true
  | .FNMULd _ _ _ => true
  | .FHADDs _ _ _ => true
  | .FHADDd _ _ _ => true
  | .FHSUBs _ _ _ => true
  | .FHSUBd _ _ _ => true
  | .FsMULd _ _ _ => true
  | .FdMULq _ _ _ => true
  | .FNHADDs _ _ _ => true
  | .FNHADDd _ _ _ => true
  | .FNsMULd _ _ _ => true
  | .FsTOx _ _ => true
  | .FdTOx _ _ => true
  | .FqTOx _ _ => true
  | .FxTOs _ _ => true
  | .FxTOd _ _ => true
  | .FxTOq _ _ => true
  | .FiTOs _ _ => true
  | .FdTOs _ _ => true
  | .FqTOs _ _ => true
  | .FiTOd _ _ => true
  | .FsTOd _ _ => true
  | .FqTOd _ _ => true
  | .FiTOq _ _ => true
  | .FsTOq _ _ => true
  | .FdTOq _ _ => true
  | .FsTOi _ _ => true
  | .FdTOi _ _ => true
  | .FqTOi _ _ => true
  | .FMOVSfcc0 _ _ _ => true
  | .FMOVDfcc0 _ _ _ => true
  | .FMOVQfcc0 _ _ _ => true
  | .FMOVSfcc1 _ _ _ => true
  | .FMOVDfcc1 _ _ _ => true
  | .FMOVQfcc1 _ _ _ => true
  | .FMOVSfcc2 _ _ _ => true
  | .FMOVDfcc2 _ _ _ => true
  | .FMOVQfcc2 _ _ _ => true
  | .FMOVSfcc3 _ _ _ => true
  | .FMOVDfcc3 _ _ _ => true
  | .FMOVQfcc3 _ _ _ => true
  | .FMOVSicc _ _ _ => true
  | .FMOVDicc _ _ _ => true
  | .FMOVQicc _ _ _ => true
  | .FMOVSxcc _ _ _ => true
  | .FMOVDxcc _ _ _ => true
  | .FMOVQxcc _ _ _ => true
  | .FCMPs _ _ _ => true
  | .FCMPd _ _ _ => true
  | .FCMPq _ _ _ => true
  | .FCMPEs _ _ _ => true
  | .FCMPEd _ _ _ => true
  | .FCMPEq _ _ _ => true
  | .FMOVRsZ _ _ _ => true
  | .FMOVRdZ _ _ _ => true
  | .FMOVRqZ _ _ _ => true
  | .FMOVRsLEZ _ _ _ => true
  | .FMOVRdLEZ _ _ _ => true
  | .FMOVRqLEZ _ _ _ => true
  | .FMOVRsLZ _ _ _ => true
  | .FMOVRdLZ _ _ _ => true
  | .FMOVRqLZ _ _ _ => true
  | .FMOVRsNZ _ _ _ => true
  | .FMOVRdNZ _ _ _ => true
  | .FMOVRqNZ _ _ _ => true
  | .FMOVRsGZ _ _ _ => true
  | .FMOVRdGZ _ _ _ => true
  | .FMOVRqGZ _ _ _ => true
  | .FMOVRsGEZ _ _ _ => true
  | .FMOVRdGEZ _ _ _ => true
  | .FMOVRqGEZ _ _ _ => true
  | .FLCMPs _ _ _ => true
  | .FLCMPd _ _ _ => true
  | .FMADDs _ _ _ _ => true
  | .FMADDd _ _ _ _ => true
  | .FMSUBs _ _ _ _ => true
  | .FMSUBd _ _ _ _ => true
  | .FNMSUBs _ _ _ _ => true
  | .FNMSUBd _ _ _ _ => true
  | .FNMADDs _ _ _ _ => true
  | .FNMADDd _ _ _ _ => true
  | .EDGE8cc _ _ _ => true
  | .EDGE8N _ _ _ => true
  | .EDGE8Lcc _ _ _ => true
  | .EDGE8LN _ _ _ => true
  | .EDGE16cc _ _ _ => true
  | .EDGE16N _ _ _ => true
  | .EDGE16Lcc _ _ _ => true
  | .EDGE16LN _ _ _ => true
  | .EDGE32cc _ _ _ => true
  | .EDGE32N _ _ _ => true
  | .EDGE32Lcc _ _ _ => true
  | .EDGE32LN _ _ _ => true
  | .ARRAY8 _ _ _ => true
  | .ARRAY16 _ _ _ => true
  | .ARRAY32 _ _ _ => true
  | .ALIGNADDRESS _ _ _ => true
  | .BMASK _ _ _ => true
  | .ALIGNADDRESS_LITTLE _ _ _ => true
  | .CMASK8 _ => true
  | .CMASK16 _ => true
  | .CMASK32 _ => true
  | .FPCMPLE16 _ _ _ => true
  | .FSLL16 _ _ _ => true
  | .FPCMPNE16 _ _ _ => true
  | .FSRL16 _ _ _ => true
  | .FPCMPLE32 _ _ _ => true
  | .FSLL32 _ _ _ => true
  | .FPCMPNE32 _ _ _ => true
  | .FSRL32 _ _ _ => true
  | .FPCMPGT16 _ _ _ => true
  | .FSLAS16 _ _ _ => true
  | .FPCMPEQ16 _ _ _ => true
  | .FSRA16 _ _ _ => true
  | .FPCMPGT32 _ _ _ => true
  | .FSLAS32 _ _ _ => true
  | .FPCMPEQ32 _ _ _ => true
  | .FSRA32 _ _ _ => true
  | .FMUL8x16 _ _ _ => true
  | .FMUL8x16AU _ _ _ => true
  | .FPCMPLE8 _ _ _ => true
  | .FMUL8x16AL _ _ _ => true
  | .FMUL8SUx16 _ _ _ => true
  | .FMUL8ULx16 _ _ _ => true
  | .FMULD8SUx16 _ _ _ => true
  | .FMULD8ULx16 _ _ _ => true
  | .FPACK32 _ _ _ => true
  | .FPACK16 _ _ => true
  | .FPCMPGT8 _ _ _ => true
  | .FPACKFIX _ _ => true
  | .PDIST _ _ _ => true
  | .PDISTN _ _ _ => true
  | .FMEAN16 _ _ _ => true
  | .FPADD64 _ _ _ => true
  | .FCHKSM16 _ _ _ => true
  | .FPSUB64 _ _ _ => true
  | .FALIGNDATAg _ _ _ => true
  | .FALIGNDATAi _ _ _ => true
  | .FPMERGE _ _ _ => true
  | .BSHUFFLE _ _ _ => true
  | .FEXPAND _ _ => true
  | .FPADD16 _ _ _ => true
  | .FPADD16s _ _ _ => true
  | .FPADD32 _ _ _ => true
  | .FPADD32s _ _ _ => true
  | .FPSUB16 _ _ _ => true
  | .FPSUB16s _ _ _ => true
  | .FPSUB32 _ _ _ => true
  | .FPSUB32s _ _ _ => true
  | .FPADDS16 _ _ _ => true
  | .FPADDS16s _ _ _ => true
  | .FPADDS32 _ _ _ => true
  | .FPADDS32s _ _ _ => true
  | .FPSUBS16 _ _ _ => true
  | .FPSUBS16s _ _ _ => true
  | .FPSUBS32 _ _ _ => true
  | .FPSUBS32s _ _ _ => true
  | .FZEROd _ => true
  | .FZEROs _ => true
  | .FNORd _ _ _ => true
  | .FNORs _ _ _ => true
  | .FANDNOT2d _ _ _ => true
  | .FANDNOT2s _ _ _ => true
  | .FNOT2d _ _ => true
  | .FNOT2s _ _ => true
  | .FANDNOT1d _ _ _ => true
  | .FANDNOT1s _ _ _ => true
  | .FNOT1d _ _ => true
  | .FNOT1s _ _ => true
  | .FXORd _ _ _ => true
  | .FXORs _ _ _ => true
  | .FNANDd _ _ _ => true
  | .FNANDs _ _ _ => true
  | .FANDd _ _ _ => true
  | .FANDs _ _ _ => true
  | .FXNORd _ _ _ => true
  | .FXNORs _ _ _ => true
  | .FSRC1d _ _ => true
  | .FSRC1s _ _ => true
  | .FORNOT2d _ _ _ => true
  | .FORNOT2s _ _ _ => true
  | .FSRC2d _ _ => true
  | .FSRC2s _ _ => true
  | .FORNOT1d _ _ _ => true
  | .FORNOT1s _ _ _ => true
  | .FORd _ _ _ => true
  | .FORs _ _ _ => true
  | .FONEd _ => true
  | .FONEs _ => true
  | .MOVdTOx _ _ => true
  | .MOVsTOuw _ _ => true
  | .MOVsTOsw _ _ => true
  | .MOVxTOd _ _ => true
  | .MOVwTOs _ _ => true
  | .FPMIN8 _ _ _ => true
  | .FPMIN16 _ _ _ => true
  | .FPMIN32 _ _ _ => true
  | .FPMAX8 _ _ _ => true
  | .FPMAX16 _ _ _ => true
  | .FPMAX32 _ _ _ => true
  | .FPCMPULE8 _ _ _ => true
  | .FPCMPNE8 _ _ _ => true
  | .FPADDUS16 _ _ _ => true
  | .FPADD8 _ _ _ => true
  | .FPADDS8 _ _ _ => true
  | .FPADDUS8 _ _ _ => true
  | .FPCMPUGT8 _ _ _ => true
  | .FPCMPEQ8 _ _ _ => true
  | .FPCMPUGT16 _ _ _ => true
  | .FPCMPUGT32 _ _ _ => true
  | .FPCMPULE16 _ _ _ => true
  | .FPCMPULE32 _ _ _ => true
  | .FPSUBUS16 _ _ _ => true
  | .FPSUB8 _ _ _ => true
  | .FPSUBS8 _ _ _ => true
  | .FPSUBUS8 _ _ _ => true
  | .FPMINU8 _ _ _ => true
  | .FPMINU16 _ _ _ => true
  | .FPMINU32 _ _ _ => true
  | .FPMAXU8 _ _ _ => true
  | .FPMAXU16 _ _ _ => true
  | .FPMAXU32 _ _ _ => true
  | .FPMADDX _ _ _ _ => true
  | .FPMADDXHI _ _ _ _ => true
  | .AES_KEXPAND0 _ _ _ => true
  | .AES_KEXPAND2 _ _ _ => true
  | .DES_IP _ _ => true
  | .DES_IIP _ _ => true
  | .DES_KEXPAND _ _ _ => true
  | .CAMELLIA_FL _ _ _ => true
  | .CAMELLIA_FLI _ _ _ => true
  | .MD5 => true
  | .SHA1 => true
  | .SHA256 => true
  | .SHA512 => true
  | .CRC32C _ _ _ => true
  | .MPMUL _ => true
  | .XMPMUL _ => true
  | .MONTMUL _ => true
  | .XMONTMUL _ => true
  | .MONTSQR _ => true
  | .XMONTSQR _ => true
  | .AES_EROUND01 _ _ _ _ => true
  | .AES_EROUND23 _ _ _ _ => true
  | .AES_DROUND01 _ _ _ _ => true
  | .AES_DROUND23 _ _ _ _ => true
  | .AES_EROUND01_LAST _ _ _ _ => true
  | .AES_EROUND23_LAST _ _ _ _ => true
  | .AES_DROUND01_LAST _ _ _ _ => true
  | .AES_DROUND23_LAST _ _ _ _ => true
  | .DES_ROUND _ _ _ _ => true
  | .CAMELLIA_F _ _ _ _ => true
  | .AES_KEXPAND1 _ _ _ _ => true

end Sys2Proof
end

