-- ==== Sys2Proof/Decode.lean ====
section
/-!
DEFINITION. The decoder, total on 32-bit words, and after it the encoder, both from the formats R109 to R114 and
the opcode maps R117 to R130. A word that no row of the maps matches, or that has a nonzero reserved field, has no
instruction (R131): decoding it answers `none`, and executing it raises illegal_instruction.
-/

namespace Sys2Proof

open Sys2Proof.Machine

/-! ## Register fields -/

/-- A 5-bit field taken as it stands. -/
def raw (x : BitVec 5) : BitVec 5 := x

/-- The double register that a 5-bit field names (R115): field bit 0 is bit 5 of the register number. -/
def dregOf (x : BitVec 5) : DReg := field x 0 1 ++ field x 1 4

/-- The 5-bit field that names a double register (R115). -/
def dregField (k : DReg) : BitVec 5 := field k 0 4 ++ field k 4 1

/-- Bits 29:25. -/
def rdF (w : Word32) : BitVec 5 := field w 25 5

/-- Bits 18:14. -/
def rs1F (w : Word32) : BitVec 5 := field w 14 5

/-- Bits 4:0. -/
def rs2F (w : Word32) : BitVec 5 := field w 0 5

/-- Bits 13:5. -/
def opfF (w : Word32) : Nat := (field w 5 9).toNat

/-! ## Operand fields -/

/-- The second operand of a format 3 instruction (R138); none when reserved bits 12:5 are not zero. -/
def regImmOf (w : Word32) : Option (RegImm 13) :=
  if bit w 13 then some (.imm (field w 0 13))
  else if field w 5 8 = 0 then some (.reg (rs2F w)) else none

/-- The address operand of an alternate-space access (R222). -/
def altOf (w : Word32) : AltOperand :=
  if bit w 13 then .asiReg (field w 0 13) else .immAsi (field w 5 8) (rs2F w)

/-- The count of a shift with x = 0 (R167). -/
def shift32Of (w : Word32) : Option (RegImm 5) :=
  if field w 5 7 = 0 then some (if bit w 13 then .imm (rs2F w) else .reg (rs2F w)) else none

/-- The count of a shift with x = 1 (R167). -/
def shift64Of (w : Word32) : Option (RegImm 6) :=
  if bit w 13 then (if field w 6 6 = 0 then some (.imm (field w 0 6)) else none)
  else if field w 5 7 = 0 then some (.reg (rs2F w)) else none

/-- The operand of MOVcc (R112). -/
def regImm11Of (w : Word32) : Option (RegImm 11) :=
  if bit w 13 then some (.imm (field w 0 11))
  else if field w 5 6 = 0 then some (.reg (rs2F w)) else none

/-- The operand of MOVr (R112). -/
def regImm10Of (w : Word32) : Option (RegImm 10) :=
  if bit w 13 then some (.imm (field w 0 10))
  else if field w 5 5 = 0 then some (.reg (rs2F w)) else none

/-- The operand of Tcc (R217). -/
def trapOperandOf (w : Word32) : Option (RegImm 8) :=
  if bit w 13 then (if field w 8 3 = 0 then some (.imm (field w 0 8)) else none)
  else if field w 5 6 = 0 then some (.reg (rs2F w)) else none

/-- The operand of CBcond (R207). -/
def regImm5Of (w : Word32) : RegImm 5 := if bit w 13 then .imm (rs2F w) else .reg (rs2F w)

/-- cc1 :: cc0 of an integer condition (R130): 01 and 11 are reserved. -/
def iccSelOf (x : BitVec 2) : Option IccSel :=
  if x = 0 then some .icc else if x = 2 then some .xcc else none

/-- The integer condition of a 4-bit field (R128). -/
def icondOf (x : BitVec 4) : ICond :=
  match x.toNat with
  | 0 => .n | 1 => .e | 2 => .le | 3 => .l | 4 => .leu | 5 => .cs | 6 => .neg | 7 => .vs
  | 8 => .a | 9 => .ne | 10 => .g | 11 => .ge | 12 => .gu | 13 => .cc | 14 => .pos | _ => .vc

/-- The floating-point condition of a 4-bit field (R128). -/
def fcondOf (x : BitVec 4) : FCond :=
  match x.toNat with
  | 0 => .n | 1 => .ne | 2 => .lg | 3 => .ul | 4 => .l | 5 => .ug | 6 => .g | 7 => .u
  | 8 => .a | 9 => .e | 10 => .ue | 11 => .ge | 12 => .uge | 13 => .le | 14 => .ule | _ => .o

/-! ## Operand layouts of opf-coded instructions

The definitions from here to the decoder are evaluated by the kernel: Lean's compiler has no run-time tag for a
constructor of a type with as many constructors as `Instr`. -/

noncomputable section

/-- rd, rs1 and rs2. -/
def three (c d e : BitVec 5 → BitVec 5) (k : BitVec 5 → BitVec 5 → BitVec 5 → Instr) (w : Word32) : Option Instr :=
  some (k (c (rdF w)) (d (rs1F w)) (e (rs2F w)))

/-- rd and rs2; rs1 is reserved. -/
def rdRs2 (c e : BitVec 5 → BitVec 5) (k : BitVec 5 → BitVec 5 → Instr) (w : Word32) : Option Instr :=
  if rs1F w = 0 then some (k (c (rdF w)) (e (rs2F w))) else none

/-- rd and rs1; rs2 is reserved. -/
def rdRs1 (c d : BitVec 5 → BitVec 5) (k : BitVec 5 → BitVec 5 → Instr) (w : Word32) : Option Instr :=
  if rs2F w = 0 then some (k (c (rdF w)) (d (rs1F w))) else none

/-- rd; rs1 and rs2 are reserved. -/
def rdOnly (c : BitVec 5 → BitVec 5) (k : BitVec 5 → Instr) (w : Word32) : Option Instr :=
  if rs1F w = 0 ∧ rs2F w = 0 then some (k (c (rdF w))) else none

/-- rs2; rd and rs1 are reserved (R359). -/
def rs2Only (k : BitVec 5 → Instr) (w : Word32) : Option Instr :=
  if rdF w = 0 ∧ rs1F w = 0 then some (k (rs2F w)) else none

/-- No operand; rd, rs1 and rs2 are reserved. -/
def noOperands (k : Instr) (w : Word32) : Option Instr :=
  if rdF w = 0 ∧ rs1F w = 0 ∧ rs2F w = 0 then some k else none

/-- cc1 :: cc0, rs1 and rs2; bits 29:27 are reserved (R306). -/
def fcmp (c : BitVec 5 → BitVec 5) (k : BitVec 2 → BitVec 5 → BitVec 5 → Instr) (w : Word32) : Option Instr :=
  if field w 27 3 = 0 then some (k (field w 25 2) (c (rs1F w)) (c (rs2F w))) else none

/-- SIAM (R297). -/
def siam (w : Word32) : Option Instr :=
  if rdF w = 0 ∧ rs1F w = 0 ∧ field w 3 2 = 0 then some (.SIAM (field w 0 3)) else none

/-- rd, rs1, rs2 and rs3 or imm5 (R113). -/
def four (c d : BitVec 5 → BitVec 5) (k : BitVec 5 → BitVec 5 → BitVec 5 → BitVec 5 → Instr) (w : Word32) :
    Option Instr :=
  some (k (c (rdF w)) (c (rs1F w)) (c (rs2F w)) (d (field w 9 5)))

/-! ## Opcode maps -/

/-- BPcc by condition (R128, R205). -/
def bpccTable : List (Bool → IccSel → Bool → BitVec 19 → Instr) :=
  [.BPN, .BPE, .BPLE, .BPL, .BPLEU, .BPCS, .BPNEG, .BPVS,
   .BPA, .BPNE, .BPG, .BPGE, .BPGU, .BPCC, .BPPOS, .BPVC]

/-- FBPfcc by condition (R128, R212). -/
def fbpfccTable : List (Bool → BitVec 2 → Bool → BitVec 19 → Instr) :=
  [.FBPN, .FBPNE, .FBPLG, .FBPUL, .FBPL, .FBPUG, .FBPG, .FBPU,
   .FBPA, .FBPE, .FBPUE, .FBPGE, .FBPUGE, .FBPLE, .FBPULE, .FBPO]

/-- Bicc by condition (R128, R204). -/
def biccTable : List (Bool → BitVec 22 → Instr) :=
  [.BN, .BE, .BLE, .BL, .BLEU, .BCS, .BNEG, .BVS,
   .BA, .BNE, .BG, .BGE, .BGU, .BCC, .BPOS, .BVC]

/-- FBfcc by condition (R128, R211). -/
def fbfccTable : List (Bool → BitVec 22 → Instr) :=
  [.FBN, .FBNE, .FBLG, .FBUL, .FBL, .FBUG, .FBG, .FBU,
   .FBA, .FBE, .FBUE, .FBGE, .FBUGE, .FBLE, .FBULE, .FBO]

/-- BPr by rcond (R129, R206). -/
def bprTable : List (Nat × (Bool → Bool → Reg → BitVec 16 → Instr)) :=
  [(1, .BRZ), (2, .BRLEZ), (3, .BRLZ), (5, .BRNZ), (6, .BRGZ), (7, .BRGEZ)]

/-- CBcond by condition, 32-bit compare (R207). -/
def cwbTable : List (Nat × (Reg → RegImm 5 → BitVec 10 → Instr)) :=
  [(1, .CWBE), (2, .CWBLE), (3, .CWBL), (4, .CWBLEU), (5, .CWBCS), (6, .CWBNEG), (7, .CWBVS), (9, .CWBNE),
   (10, .CWBG), (11, .CWBGE), (12, .CWBGU), (13, .CWBCC), (14, .CWBPOS), (15, .CWBVC)]

/-- CBcond by condition, 64-bit compare (R207). -/
def cxbTable : List (Nat × (Reg → RegImm 5 → BitVec 10 → Instr)) :=
  [(1, .CXBE), (2, .CXBLE), (3, .CXBL), (4, .CXBLEU), (5, .CXBCS), (6, .CXBNEG), (7, .CXBVS), (9, .CXBNE),
   (10, .CXBG), (11, .CXBGE), (12, .CXBGU), (13, .CXBCC), (14, .CXBPOS), (15, .CXBVC)]

/-- Tcc by condition (R128, R217). -/
def tccTable : List (IccSel → Reg → RegImm 8 → Instr) :=
  [.TN, .TE, .TLE, .TL, .TLEU, .TCS, .TNEG, .TVS,
   .TA, .TNE, .TG, .TGE, .TGU, .TCC, .TPOS, .TVC]

/-- MOVr by rcond (R129, R154). -/
def movrTable : List (Nat × (Reg → Reg → RegImm 10 → Instr)) :=
  [(1, .MOVRZ), (2, .MOVRLEZ), (3, .MOVRLZ), (5, .MOVRNZ), (6, .MOVRGZ), (7, .MOVRGEZ)]

/-- RDasr by register number (R120). -/
def rdasrTable : List (Nat × (Reg → Instr)) :=
  [(0, .RDY), (2, .RDCCR), (3, .RDASI), (4, .RDTICK), (5, .RDPC), (6, .RDFPRS), (19, .RDGSR), (22, .RDSOFTINT),
   (24, .RDSTICK), (25, .RDSTICK_CMPR), (26, .RDCFR)]

/-- RDPR by register number (R296). -/
def rdprTable : List (Nat × (Reg → Instr)) :=
  [(0, .RDPR_TPC), (1, .RDPR_TNPC), (2, .RDPR_TSTATE), (3, .RDPR_TT), (4, .RDPR_TICK), (5, .RDPR_TBA), (6, .RDPR_PSTATE), (7, .RDPR_TL),
   (8, .RDPR_PIL), (9, .RDPR_CWP), (10, .RDPR_CANSAVE), (11, .RDPR_CANRESTORE), (12, .RDPR_CLEANWIN), (13, .RDPR_OTHERWIN), (14, .RDPR_WSTATE), (16, .RDPR_GL)]

/-- WRasr by register number (R121), apart from PAUSE and MWAIT. -/
def wrasrTable : List (Nat × (Reg → RegImm 13 → Instr)) :=
  [(0, .WRY), (2, .WRCCR), (3, .WRASI), (6, .WRFPRS), (19, .WRGSR), (20, .WRSOFTINT_SET), (21, .WRSOFTINT_CLR), (22, .WRSOFTINT),
   (25, .WRSTICK_CMPR)]

/-- WRPR by register number (R299). -/
def wrprTable : List (Nat × (Reg → RegImm 13 → Instr)) :=
  [(0, .WRPR_TPC), (1, .WRPR_TNPC), (2, .WRPR_TSTATE), (3, .WRPR_TT), (5, .WRPR_TBA), (6, .WRPR_PSTATE), (7, .WRPR_TL), (8, .WRPR_PIL),
   (9, .WRPR_CWP), (10, .WRPR_CANSAVE), (11, .WRPR_CANRESTORE), (12, .WRPR_CLEANWIN), (13, .WRPR_OTHERWIN), (14, .WRPR_WSTATE), (16, .WRPR_GL)]

/-- op3 = 0x31 by fcn (R119). -/
def windowFcnTable : List (Nat × Instr) :=
  [(0, .SAVED), (1, .RESTORED), (2, .ALLCLEAN), (3, .OTHERW), (4, .NORMALW), (5, .INVALW)]

/-- op3 = 0x34, FPop1, by opf (R123). -/
def fpop1Table : List (Nat × (Word32 → Option Instr)) :=
  [(0x1, rdRs2 raw raw .FMOVs), (0x2, rdRs2 dregOf dregOf .FMOVd), (0x3, rdRs2 dregOf dregOf .FMOVq), (0x5, rdRs2 raw raw .FNEGs), (0x6, rdRs2 dregOf dregOf .FNEGd), (0x7, rdRs2 dregOf dregOf .FNEGq), (0x9, rdRs2 raw raw .FABSs), (0xA, rdRs2 dregOf dregOf .FABSd),
   (0xB, rdRs2 dregOf dregOf .FABSq), (0x29, rdRs2 raw raw .FSQRTs), (0x2A, rdRs2 dregOf dregOf .FSQRTd), (0x2B, rdRs2 dregOf dregOf .FSQRTq), (0x41, three raw raw raw .FADDs), (0x42, three dregOf dregOf dregOf .FADDd), (0x43, three dregOf dregOf dregOf .FADDq), (0x45, three raw raw raw .FSUBs),
   (0x46, three dregOf dregOf dregOf .FSUBd), (0x47, three dregOf dregOf dregOf .FSUBq), (0x49, three raw raw raw .FMULs), (0x4A, three dregOf dregOf dregOf .FMULd), (0x4B, three dregOf dregOf dregOf .FMULq), (0x4D, three raw raw raw .FDIVs), (0x4E, three dregOf dregOf dregOf .FDIVd), (0x4F, three dregOf dregOf dregOf .FDIVq),
   (0x51, three raw raw raw .FNADDs), (0x52, three dregOf dregOf dregOf .FNADDd), (0x59, three raw raw raw .FNMULs), (0x5A, three dregOf dregOf dregOf .FNMULd), (0x61, three raw raw raw .FHADDs), (0x62, three dregOf dregOf dregOf .FHADDd), (0x65, three raw raw raw .FHSUBs), (0x66, three dregOf dregOf dregOf .FHSUBd),
   (0x69, three dregOf raw raw .FsMULd), (0x6E, three dregOf dregOf dregOf .FdMULq), (0x71, three raw raw raw .FNHADDs), (0x72, three dregOf dregOf dregOf .FNHADDd), (0x79, three dregOf raw raw .FNsMULd), (0x81, rdRs2 dregOf raw .FsTOx), (0x82, rdRs2 dregOf dregOf .FdTOx), (0x83, rdRs2 dregOf dregOf .FqTOx),
   (0x84, rdRs2 raw dregOf .FxTOs), (0x88, rdRs2 dregOf dregOf .FxTOd), (0x8C, rdRs2 dregOf dregOf .FxTOq), (0xC4, rdRs2 raw raw .FiTOs), (0xC6, rdRs2 raw dregOf .FdTOs), (0xC7, rdRs2 raw dregOf .FqTOs), (0xC8, rdRs2 dregOf raw .FiTOd), (0xC9, rdRs2 dregOf raw .FsTOd),
   (0xCB, rdRs2 dregOf dregOf .FqTOd), (0xCC, rdRs2 dregOf raw .FiTOq), (0xCD, rdRs2 dregOf raw .FsTOq), (0xCE, rdRs2 dregOf dregOf .FdTOq), (0xD1, rdRs2 raw raw .FsTOi), (0xD2, rdRs2 raw dregOf .FdTOi), (0xD3, rdRs2 raw dregOf .FqTOi)]

/-- op3 = 0x35, the compares of FPop2, by opf (R124). -/
def fcmpTable : List (Nat × (Word32 → Option Instr)) :=
  [(0x51, fcmp raw .FCMPs), (0x52, fcmp dregOf .FCMPd), (0x53, fcmp dregOf .FCMPq), (0x55, fcmp raw .FCMPEs), (0x56, fcmp dregOf .FCMPEd), (0x57, fcmp dregOf .FCMPEq)]

/-- FMOVcc on fccn, by opf (R124). -/
def fmovFccTable : List (Nat × (FReg → FCond → FReg → Instr)) :=
  [(0x1, .FMOVSfcc0), (0x2, .FMOVDfcc0), (0x3, .FMOVQfcc0), (0x41, .FMOVSfcc1), (0x42, .FMOVDfcc1), (0x43, .FMOVQfcc1), (0x81, .FMOVSfcc2), (0x82, .FMOVDfcc2),
   (0x83, .FMOVQfcc2), (0xC1, .FMOVSfcc3), (0xC2, .FMOVDfcc3), (0xC3, .FMOVQfcc3)]

/-- FMOVcc on icc or xcc, by opf (R124). -/
def fmovIccTable : List (Nat × (FReg → ICond → FReg → Instr)) :=
  [(0x101, .FMOVSicc), (0x102, .FMOVDicc), (0x103, .FMOVQicc), (0x181, .FMOVSxcc), (0x182, .FMOVDxcc), (0x183, .FMOVQxcc)]

/-- FMOVR by opf (R124). -/
def fmovrTable : List (Nat × (FReg → Reg → FReg → Instr)) :=
  [(0x25, .FMOVRsZ), (0x26, .FMOVRdZ), (0x27, .FMOVRqZ), (0x45, .FMOVRsLEZ), (0x46, .FMOVRdLEZ), (0x47, .FMOVRqLEZ), (0x65, .FMOVRsLZ), (0x66, .FMOVRdLZ),
   (0x67, .FMOVRqLZ), (0xA5, .FMOVRsNZ), (0xA6, .FMOVRdNZ), (0xA7, .FMOVRqNZ), (0xC5, .FMOVRsGZ), (0xC6, .FMOVRdGZ), (0xC7, .FMOVRqGZ), (0xE5, .FMOVRsGEZ),
   (0xE6, .FMOVRdGEZ), (0xE7, .FMOVRqGEZ)]

/-- op3 = 0x36 by opf (R125), part 1. -/
def visTable1 : List (Nat × (Word32 → Option Instr)) :=
  [(0x0, three raw raw raw .EDGE8cc), (0x1, three raw raw raw .EDGE8N), (0x2, three raw raw raw .EDGE8Lcc), (0x3, three raw raw raw .EDGE8LN), (0x4, three raw raw raw .EDGE16cc), (0x5, three raw raw raw .EDGE16N), (0x6, three raw raw raw .EDGE16Lcc), (0x7, three raw raw raw .EDGE16LN),
   (0x8, three raw raw raw .EDGE32cc), (0x9, three raw raw raw .EDGE32N), (0xA, three raw raw raw .EDGE32Lcc), (0xB, three raw raw raw .EDGE32LN), (0x10, three raw raw raw .ARRAY8), (0x11, three raw raw raw .ADDXC), (0x12, three raw raw raw .ARRAY16), (0x13, three raw raw raw .ADDXCcc),
   (0x14, three raw raw raw .ARRAY32), (0x16, three raw raw raw .UMULXHI), (0x17, rdRs2 raw raw .LZCNT), (0x18, three raw raw raw .ALIGNADDRESS), (0x19, three raw raw raw .BMASK), (0x1A, three raw raw raw .ALIGNADDRESS_LITTLE), (0x1B, rs2Only .CMASK8), (0x1D, rs2Only .CMASK16),
   (0x1F, rs2Only .CMASK32), (0x20, three raw dregOf dregOf .FPCMPLE16), (0x21, three dregOf dregOf dregOf .FSLL16), (0x22, three raw dregOf dregOf .FPCMPNE16), (0x23, three dregOf dregOf dregOf .FSRL16), (0x24, three raw dregOf dregOf .FPCMPLE32), (0x25, three dregOf dregOf dregOf .FSLL32), (0x26, three raw dregOf dregOf .FPCMPNE32),
   (0x27, three dregOf dregOf dregOf .FSRL32), (0x28, three raw dregOf dregOf .FPCMPGT16), (0x29, three dregOf dregOf dregOf .FSLAS16), (0x2A, three raw dregOf dregOf .FPCMPEQ16), (0x2B, three dregOf dregOf dregOf .FSRA16), (0x2C, three raw dregOf dregOf .FPCMPGT32), (0x2D, three dregOf dregOf dregOf .FSLAS32), (0x2E, three raw dregOf dregOf .FPCMPEQ32),
   (0x2F, three dregOf dregOf dregOf .FSRA32), (0x31, three dregOf raw dregOf .FMUL8x16), (0x33, three dregOf raw raw .FMUL8x16AU), (0x34, three raw dregOf dregOf .FPCMPLE8), (0x35, three dregOf raw raw .FMUL8x16AL), (0x36, three dregOf dregOf dregOf .FMUL8SUx16), (0x37, three dregOf dregOf dregOf .FMUL8ULx16), (0x38, three dregOf raw raw .FMULD8SUx16),
   (0x39, three dregOf raw raw .FMULD8ULx16), (0x3A, three dregOf dregOf dregOf .FPACK32), (0x3B, rdRs2 raw dregOf .FPACK16), (0x3C, three raw dregOf dregOf .FPCMPGT8), (0x3D, rdRs2 raw dregOf .FPACKFIX), (0x3E, three dregOf dregOf dregOf .PDIST)]

/-- op3 = 0x36 by opf (R125), part 2. -/
def visTable2 : List (Nat × (Word32 → Option Instr)) :=
  [(0x3F, three raw dregOf dregOf .PDISTN), (0x40, three dregOf dregOf dregOf .FMEAN16), (0x41, three raw raw raw .SUBXC), (0x42, three dregOf dregOf dregOf .FPADD64), (0x43, three raw raw raw .SUBXCcc), (0x44, three dregOf dregOf dregOf .FCHKSM16), (0x46, three dregOf dregOf dregOf .FPSUB64), (0x48, three dregOf dregOf dregOf .FALIGNDATAg),
   (0x49, three dregOf raw dregOf .FALIGNDATAi), (0x4B, three dregOf raw raw .FPMERGE), (0x4C, three dregOf dregOf dregOf .BSHUFFLE), (0x4D, rdRs2 dregOf raw .FEXPAND), (0x50, three dregOf dregOf dregOf .FPADD16), (0x51, three raw raw raw .FPADD16s), (0x52, three dregOf dregOf dregOf .FPADD32), (0x53, three raw raw raw .FPADD32s),
   (0x54, three dregOf dregOf dregOf .FPSUB16), (0x55, three raw raw raw .FPSUB16s), (0x56, three dregOf dregOf dregOf .FPSUB32), (0x57, three raw raw raw .FPSUB32s), (0x58, three dregOf dregOf dregOf .FPADDS16), (0x59, three raw raw raw .FPADDS16s), (0x5A, three dregOf dregOf dregOf .FPADDS32), (0x5B, three raw raw raw .FPADDS32s),
   (0x5C, three dregOf dregOf dregOf .FPSUBS16), (0x5D, three raw raw raw .FPSUBS16s), (0x5E, three dregOf dregOf dregOf .FPSUBS32), (0x5F, three raw raw raw .FPSUBS32s), (0x60, rdOnly dregOf .FZEROd), (0x61, rdOnly raw .FZEROs), (0x62, three dregOf dregOf dregOf .FNORd), (0x63, three raw raw raw .FNORs),
   (0x64, three dregOf dregOf dregOf .FANDNOT2d), (0x65, three raw raw raw .FANDNOT2s), (0x66, rdRs2 dregOf dregOf .FNOT2d), (0x67, rdRs2 raw raw .FNOT2s), (0x68, three dregOf dregOf dregOf .FANDNOT1d), (0x69, three raw raw raw .FANDNOT1s), (0x6A, rdRs1 dregOf dregOf .FNOT1d), (0x6B, rdRs1 raw raw .FNOT1s),
   (0x6C, three dregOf dregOf dregOf .FXORd), (0x6D, three raw raw raw .FXORs), (0x6E, three dregOf dregOf dregOf .FNANDd), (0x6F, three raw raw raw .FNANDs), (0x70, three dregOf dregOf dregOf .FANDd), (0x71, three raw raw raw .FANDs), (0x72, three dregOf dregOf dregOf .FXNORd), (0x73, three raw raw raw .FXNORs),
   (0x74, rdRs1 dregOf dregOf .FSRC1d), (0x75, rdRs1 raw raw .FSRC1s), (0x76, three dregOf dregOf dregOf .FORNOT2d), (0x77, three raw raw raw .FORNOT2s), (0x78, rdRs2 dregOf dregOf .FSRC2d), (0x79, rdRs2 raw raw .FSRC2s)]

/-- op3 = 0x36 by opf (R125), part 3. -/
def visTable3 : List (Nat × (Word32 → Option Instr)) :=
  [(0x7A, three dregOf dregOf dregOf .FORNOT1d), (0x7B, three raw raw raw .FORNOT1s), (0x7C, three dregOf dregOf dregOf .FORd), (0x7D, three raw raw raw .FORs), (0x7E, rdOnly dregOf .FONEd), (0x7F, rdOnly raw .FONEs), (0x110, rdRs2 raw dregOf .MOVdTOx), (0x111, rdRs2 raw raw .MOVsTOuw),
   (0x113, rdRs2 raw raw .MOVsTOsw), (0x115, three raw raw raw .XMULX), (0x116, three raw raw raw .XMULXHI), (0x118, rdRs2 dregOf raw .MOVxTOd), (0x119, rdRs2 raw raw .MOVwTOs), (0x11A, three dregOf dregOf dregOf .FPMIN8), (0x11B, three dregOf dregOf dregOf .FPMIN16), (0x11C, three dregOf dregOf dregOf .FPMIN32),
   (0x11D, three dregOf dregOf dregOf .FPMAX8), (0x11E, three dregOf dregOf dregOf .FPMAX16), (0x11F, three dregOf dregOf dregOf .FPMAX32), (0x120, three raw dregOf dregOf .FPCMPULE8), (0x122, three raw dregOf dregOf .FPCMPNE8), (0x123, three dregOf dregOf dregOf .FPADDUS16), (0x124, three dregOf dregOf dregOf .FPADD8), (0x126, three dregOf dregOf dregOf .FPADDS8),
   (0x127, three dregOf dregOf dregOf .FPADDUS8), (0x128, three raw dregOf dregOf .FPCMPUGT8), (0x12A, three raw dregOf dregOf .FPCMPEQ8), (0x12B, three raw dregOf dregOf .FPCMPUGT16), (0x12C, three raw dregOf dregOf .FPCMPUGT32), (0x12E, three raw dregOf dregOf .FPCMPULE16), (0x12F, three raw dregOf dregOf .FPCMPULE32), (0x130, three dregOf dregOf dregOf .AES_KEXPAND0),
   (0x131, three dregOf dregOf dregOf .AES_KEXPAND2), (0x134, rdRs1 dregOf dregOf .DES_IP), (0x135, rdRs1 dregOf dregOf .DES_IIP), (0x136, three dregOf dregOf raw .DES_KEXPAND), (0x13C, three dregOf dregOf dregOf .CAMELLIA_FL), (0x13D, three dregOf dregOf dregOf .CAMELLIA_FLI), (0x140, noOperands .MD5), (0x141, noOperands .SHA1),
   (0x142, noOperands .SHA256), (0x143, noOperands .SHA512), (0x147, three dregOf dregOf dregOf .CRC32C), (0x151, fcmp raw .FLCMPs), (0x152, fcmp dregOf .FLCMPd), (0x153, three dregOf dregOf dregOf .FPSUBUS16), (0x154, three dregOf dregOf dregOf .FPSUB8), (0x156, three dregOf dregOf dregOf .FPSUBS8),
   (0x157, three dregOf dregOf dregOf .FPSUBUS8), (0x15A, three dregOf dregOf dregOf .FPMINU8), (0x15B, three dregOf dregOf dregOf .FPMINU16), (0x15C, three dregOf dregOf dregOf .FPMINU32), (0x15D, three dregOf dregOf dregOf .FPMAXU8), (0x15E, three dregOf dregOf dregOf .FPMAXU16), (0x15F, three dregOf dregOf dregOf .FPMAXU32), (0x81, siam)]

/-- op3 = 0x36, opf 0x148 to 0x14A with rd = 0 (R125). -/
def mpTable : List (Nat × (BitVec 5 → Instr)) :=
  [(0x148, .MPMUL), (0x149, .MONTMUL), (0x14A, .MONTSQR)]

/-- op3 = 0x36, opf 0x148 to 0x14A with rd = 1 (R125). -/
def xmpTable : List (Nat × (BitVec 5 → Instr)) :=
  [(0x148, .XMPMUL), (0x149, .XMONTMUL), (0x14A, .XMONTSQR)]

/-- op3 = 0x37 by op5 (R126). 0000 and 0100 are FPMADDX and FPMADDXHI, as R126, R395, R396 and the opcode table have it;
R313 counts them among the reserved values: DESIGN CHOICE, unsafe (log entry 43). -/
def fmaTable : List (Nat × (Word32 → Option Instr)) :=
  [(0x0, four dregOf dregOf .FPMADDX), (0x4, four dregOf dregOf .FPMADDXHI), (0x1, four raw raw .FMADDs), (0x2, four dregOf dregOf .FMADDd), (0x5, four raw raw .FMSUBs), (0x6, four dregOf dregOf .FMSUBd), (0x9, four raw raw .FNMSUBs), (0xA, four dregOf dregOf .FNMSUBd),
   (0xD, four raw raw .FNMADDs), (0xE, four dregOf dregOf .FNMADDd)]

/-- op3 = 0x19 by op5 (R127). -/
def cryptoTable : List (Nat × (Word32 → Option Instr)) :=
  [(0x0, four dregOf dregOf .AES_EROUND01), (0x1, four dregOf dregOf .AES_EROUND23), (0x2, four dregOf dregOf .AES_DROUND01), (0x3, four dregOf dregOf .AES_DROUND23), (0x4, four dregOf dregOf .AES_EROUND01_LAST), (0x5, four dregOf dregOf .AES_EROUND23_LAST), (0x6, four dregOf dregOf .AES_DROUND01_LAST), (0x7, four dregOf dregOf .AES_DROUND23_LAST),
   (0x9, four dregOf dregOf .DES_ROUND), (0xC, four dregOf dregOf .CAMELLIA_F), (0x8, four dregOf raw .AES_KEXPAND1)]

/-- op = 10: the format 3 instructions with rd, rs1 and a second operand, by op3 (R119). -/
def arithTable : List (Nat × (Reg → Reg → RegImm 13 → Instr)) :=
  [(0x0, .ADD), (0x1, .AND), (0x2, .OR), (0x3, .XOR), (0x4, .SUB), (0x5, .ANDN), (0x6, .ORN), (0x7, .XNOR),
   (0x8, .ADDC), (0x9, .MULX), (0xA, .UMUL), (0xB, .SMUL), (0xC, .SUBC), (0xD, .UDIVX), (0xE, .UDIV), (0xF, .SDIV),
   (0x10, .ADDcc), (0x11, .ANDcc), (0x12, .ORcc), (0x13, .XORcc), (0x14, .SUBcc), (0x15, .ANDNcc), (0x16, .ORNcc), (0x17, .XNORcc),
   (0x18, .ADDCcc), (0x1A, .UMULcc), (0x1B, .SMULcc), (0x1C, .SUBCcc), (0x1E, .UDIVcc), (0x1F, .SDIVcc), (0x20, .TADDcc), (0x21, .TSUBcc),
   (0x22, .TADDccTV), (0x23, .TSUBccTV), (0x24, .MULScc), (0x2D, .SDIVX), (0x38, .JMPL), (0x3C, .SAVE), (0x3D, .RESTORE)]

/-- op = 11: integer and single-precision loads and stores with the implicit ASI, by op3 (R122). -/
def memTable : List (Nat × (Reg → Reg → RegImm 13 → Instr)) :=
  [(0x0, .LDUW), (0x1, .LDUB), (0x2, .LDUH), (0x4, .STW), (0x5, .STB), (0x6, .STH), (0x8, .LDSW), (0x9, .LDSB),
   (0xA, .LDSH), (0xB, .LDX), (0xD, .LDSTUB), (0xE, .STX), (0xF, .SWAP), (0x20, .LDF), (0x24, .STF)]

/-- op = 11: loads and stores of a double or quad register, by op3 (R122). -/
def memDTable : List (Nat × (Reg → Reg → RegImm 13 → Instr)) :=
  [(0x22, .LDQF), (0x23, .LDDF), (0x26, .STQF), (0x27, .STDF)]

/-- op = 11: alternate-space loads and stores, by op3 (R122). -/
def memAltTable : List (Nat × (Reg → Reg → AltOperand → Instr)) :=
  [(0x10, .LDUWA), (0x11, .LDUBA), (0x12, .LDUHA), (0x14, .STWA), (0x15, .STBA), (0x16, .STHA), (0x18, .LDSWA), (0x19, .LDSBA),
   (0x1A, .LDSHA), (0x1B, .LDXA), (0x1D, .LDSTUBA), (0x1E, .STXA), (0x1F, .SWAPA), (0x30, .LDFA), (0x34, .STFA)]

/-- op = 11: alternate-space loads and stores of a quad register, by op3 (R122). -/
def memAltDTable : List (Nat × (Reg → Reg → AltOperand → Instr)) :=
  [(0x32, .LDQFA), (0x36, .STQFA)]

/-! ## The decoder -/

/-- op = 00 (R118). -/
def decodeBranch (w : Word32) : Option Instr :=
  match (field w 22 3).toNat with
  | 0 => if rdF w = 0 then some (.ILLTRAP (field w 0 22)) else none
  | 1 =>
    (iccSelOf (field w 20 2)).bind fun cc =>
      (bpccTable[(field w 25 4).toNat]?).map fun k => k (bit w 29) cc (bit w 19) (field w 0 19)
  | 2 => (biccTable[(field w 25 4).toNat]?).map fun k => k (bit w 29) (field w 0 22)
  | 3 =>
    if bit w 28 then
      (List.lookup (field w 29 1 ++ field w 25 3).toNat (if bit w 21 then cxbTable else cwbTable)).map fun k =>
        k (rs1F w) (regImm5Of w) (field w 19 2 ++ field w 5 8)
    else
      (List.lookup (field w 25 3).toNat bprTable).map fun k =>
        k (bit w 29) (bit w 19) (rs1F w) (field w 20 2 ++ field w 0 14)
  | 4 => if w = 0x01000000 then some .NOP else some (.SETHI (rdF w) (field w 0 22))
  | 5 => (fbpfccTable[(field w 25 4).toNat]?).map fun k => k (bit w 29) (field w 20 2) (bit w 19) (field w 0 19)
  | 6 => (fbfccTable[(field w 25 4).toNat]?).map fun k => k (bit w 29) (field w 0 22)
  | _ => none

/-- MOVcc (R153): the constructor by cc2 :: cc1 :: cc0. -/
def decodeMovcc (w : Word32) : Option Instr :=
  (regImm11Of w).bind fun op2 =>
    match (field w 18 1 ++ field w 11 2).toNat with
    | 0 => some (.MOVfcc0 (rdF w) (fcondOf (field w 14 4)) op2)
    | 1 => some (.MOVfcc1 (rdF w) (fcondOf (field w 14 4)) op2)
    | 2 => some (.MOVfcc2 (rdF w) (fcondOf (field w 14 4)) op2)
    | 3 => some (.MOVfcc3 (rdF w) (fcondOf (field w 14 4)) op2)
    | 4 => some (.MOVicc (rdF w) (icondOf (field w 14 4)) op2)
    | 6 => some (.MOVxcc (rdF w) (icondOf (field w 14 4)) op2)
    | _ => none

/-- op3 = 0x28: RDasr, MEMBAR and STBAR (R120). -/
def decodeRdasr (w : Word32) : Option Instr :=
  if rs1F w = 15 then
    if rdF w = 0 then
      if bit w 13 then (if field w 7 6 = 0 then some (.MEMBAR (field w 4 3) (field w 0 4)) else none)
      else if field w 0 13 = 0 then some .STBAR else none
    else none
  else if field w 0 14 = 0 then (List.lookup (rs1F w).toNat rdasrTable).map fun k => k (rdF w)
  else none

/-- op3 = 0x30: WRasr, PAUSE and MWAIT (R121). -/
def decodeWrasr (w : Word32) : Option Instr :=
  (regImmOf w).bind fun op2 =>
    match (rdF w).toNat with
    | 27 => some (if rs1F w = 0 then .PAUSE op2 else .WRPAUSE (rs1F w) op2)
    | 28 => some (if rs1F w = 0 then .MWAIT op2 else .WRMWAIT (rs1F w) op2)
    | n => (List.lookup n wrasrTable).map fun k => k (rs1F w) op2

/-- op3 = 0x35: FPop2 (R124). -/
def decodeFpop2 (w : Word32) : Option Instr :=
  match List.lookup (opfF w) fcmpTable with
  | some k => k w
  | none =>
    match List.lookup (opfF w) fmovrTable with
    | some k =>
      let c := if field w 5 2 = 1 then raw else dregOf
      some (k (c (rdF w)) (rs1F w) (c (rs2F w)))
    | none =>
      if bit w 18 then none
      else
        let c := if field w 5 2 = 1 then raw else dregOf
        match List.lookup (opfF w) fmovFccTable with
        | some k => some (k (c (rdF w)) (fcondOf (field w 14 4)) (c (rs2F w)))
        | none =>
          (List.lookup (opfF w) fmovIccTable).map fun k => k (c (rdF w)) (icondOf (field w 14 4)) (c (rs2F w))

/-- op3 = 0x36 (R125). -/
def decodeVis (w : Word32) : Option Instr :=
  match List.lookup (opfF w) (visTable1 ++ visTable2 ++ visTable3) with
  | some k => k w
  | none =>
    if rs1F w = 0 then
      match (rdF w).toNat with
      | 0 => (List.lookup (opfF w) mpTable).map fun k => k (rs2F w)
      | 1 => (List.lookup (opfF w) xmpTable).map fun k => k (rs2F w)
      | _ => none
    else none

/-- op = 10 (R119). -/
def decodeArith (w : Word32) : Option Instr :=
  match (field w 19 6).toNat with
  | 0x19 => (List.lookup (field w 5 4).toNat cryptoTable).bind fun k => k w
  | 0x25 =>
    if bit w 12 then (shift64Of w).map fun c => .SLLX (rdF w) (rs1F w) c
    else (shift32Of w).map fun c => .SLL (rdF w) (rs1F w) c
  | 0x26 =>
    if bit w 12 then (shift64Of w).map fun c => .SRLX (rdF w) (rs1F w) c
    else (shift32Of w).map fun c => .SRL (rdF w) (rs1F w) c
  | 0x27 =>
    if bit w 12 then (shift64Of w).map fun c => .SRAX (rdF w) (rs1F w) c
    else (shift32Of w).map fun c => .SRA (rdF w) (rs1F w) c
  | 0x28 => decodeRdasr w
  | 0x2A => if field w 0 14 = 0 then (List.lookup (rs1F w).toNat rdprTable).map fun k => k (rdF w) else none
  | 0x2B => if rdF w = 0 ∧ field w 0 19 = 0 then some .FLUSHW else none
  | 0x2C => decodeMovcc w
  | 0x2E => if rs1F w = 0 then (regImmOf w).map fun op2 => .POPC (rdF w) op2 else none
  | 0x2F =>
    (regImm10Of w).bind fun op2 => (List.lookup (field w 10 3).toNat movrTable).map fun k => k (rdF w) (rs1F w) op2
  | 0x30 => decodeWrasr w
  | 0x31 => if field w 0 19 = 0 then List.lookup (rdF w).toNat windowFcnTable else none
  | 0x32 => (regImmOf w).bind fun op2 => (List.lookup (rdF w).toNat wrprTable).map fun k => k (rs1F w) op2
  | 0x34 => (List.lookup (opfF w) fpop1Table).bind fun k => k w
  | 0x35 => decodeFpop2 w
  | 0x36 => decodeVis w
  | 0x37 => (List.lookup (field w 5 4).toNat fmaTable).bind fun k => k w
  | 0x39 => if rdF w = 0 then (regImmOf w).map fun op2 => .RETURN (rs1F w) op2 else none
  | 0x3A =>
    if bit w 29 then none
    else
      (iccSelOf (field w 11 2)).bind fun cc => (trapOperandOf w).bind fun op2 =>
        (tccTable[(field w 25 4).toNat]?).map fun k => k cc (rs1F w) op2
  | 0x3B => if rdF w = 0 then (regImmOf w).map fun op2 => .FLUSH (rs1F w) op2 else none
  | 0x3E =>
    if field w 0 19 = 0 then (if rdF w = 0 then some .DONE else if rdF w = 1 then some .RETRY else none) else none
  | n => (List.lookup n arithTable).bind fun k => (regImmOf w).map fun op2 => k (rdF w) (rs1F w) op2

/-- The even register pair of LDTW, STTW, LDTWA, STTWA and LDTXA (R116). -/
def evenRd (w : Word32) (k : Option Instr) : Option Instr := if evenReg (rdF w) then k else none

/-- The LDTWA opcode: LDTXA when its immediate ASI is a twin-load ASI (R241, R242). -/
def decodeLdtwa (w : Word32) : Instr :=
  if bit w 13 then .LDTWA (rdF w) (rs1F w) (altOf w)
  else if asiTwin.contains (field w 5 8) then .LDTXA (rdF w) (rs1F w) (rs2F w) (field w 5 8)
  else .LDTWA (rdF w) (rs1F w) (altOf w)

/-- The LDDFA opcode: LDBLOCKF or LDSHORTF by its immediate ASI (R260, R269). -/
def decodeLddfa (w : Word32) : Instr :=
  let rd := dregOf (rdF w)
  if bit w 13 then .LDDFA rd (rs1F w) (altOf w)
  else if asiBlock.contains (field w 5 8) then .LDBLOCKF rd (rs1F w) (rs2F w) (field w 5 8)
  else if asiShort.contains (field w 5 8) then .LDSHORTF rd (rs1F w) (rs2F w) (field w 5 8)
  else .LDDFA rd (rs1F w) (altOf w)

/-- The STDFA opcode: STBLOCKF, STPARTIALF or STSHORTF by its immediate ASI (R271, R281, R282). -/
def decodeStdfa (w : Word32) : Instr :=
  let rd := dregOf (rdF w)
  if bit w 13 then .STDFA rd (rs1F w) (altOf w)
  else if (asiBlock ++ asiCommit).contains (field w 5 8) then .STBLOCKF rd (rs1F w) (rs2F w) (field w 5 8)
  else if asiPartial.contains (field w 5 8) then .STPARTIALF rd (rs1F w) (rs2F w) (field w 5 8)
  else if asiShort.contains (field w 5 8) then .STSHORTF rd (rs1F w) (rs2F w) (field w 5 8)
  else .STDFA rd (rs1F w) (altOf w)

/-- The ASI of CASA and CASXA (R219): with i = 1 bits 12:5 are reserved. -/
def casAsiOf (w : Word32) : Option AsiSource :=
  if bit w 13 then (if field w 5 8 = 0 then some .asiReg else none) else some (.imm (field w 5 8))

/-- op = 11 (R122). -/
def decodeMem (w : Word32) : Option Instr :=
  match (field w 19 6).toNat with
  | 0x03 => evenRd w ((regImmOf w).map fun op2 => .LDTW (rdF w) (rs1F w) op2)
  | 0x07 => evenRd w ((regImmOf w).map fun op2 => .STTW (rdF w) (rs1F w) op2)
  | 0x13 => evenRd w (some (decodeLdtwa w))
  | 0x17 => evenRd w (some (.STTWA (rdF w) (rs1F w) (altOf w)))
  | 0x21 =>
    (regImmOf w).bind fun op2 =>
      match (rdF w).toNat with
      | 0 => some (.LDFSR (rs1F w) op2)
      | 1 => some (.LDXFSR (rs1F w) op2)
      | 3 => some (.LDXEFSR (rs1F w) op2)
      | _ => none
  | 0x25 =>
    (regImmOf w).bind fun op2 =>
      match (rdF w).toNat with
      | 0 => some (.STFSR (rs1F w) op2)
      | 1 => some (.STXFSR (rs1F w) op2)
      | _ => none
  | 0x2D => if prefetchFcn (rdF w) then (regImmOf w).map fun op2 => .PREFETCH (rdF w) (rs1F w) op2 else none
  | 0x33 => some (decodeLddfa w)
  | 0x37 => some (decodeStdfa w)
  | 0x3C => (casAsiOf w).map fun asi => .CASA (rdF w) (rs1F w) (rs2F w) asi
  | 0x3D => if prefetchFcn (rdF w) then some (.PREFETCHA (rdF w) (rs1F w) (altOf w)) else none
  | 0x3E => (casAsiOf w).map fun asi => .CASXA (rdF w) (rs1F w) (rs2F w) asi
  | n =>
    match List.lookup n memTable with
    | some k => (regImmOf w).map fun op2 => k (rdF w) (rs1F w) op2
    | none =>
      match List.lookup n memDTable with
      | some k => (regImmOf w).map fun op2 => k (dregOf (rdF w)) (rs1F w) op2
      | none =>
        match List.lookup n memAltTable with
        | some k => some (k (rdF w) (rs1F w) (altOf w))
        | none => (List.lookup n memAltDTable).map fun k => k (dregOf (rdF w)) (rs1F w) (altOf w)

/-- The instruction of a word; none for a reserved encoding (R117, R131). -/
def decode (w : Word32) : Option Instr :=
  match (field w 30 2).toNat with
  | 0 => decodeBranch w
  | 1 => some (.CALL (field w 0 30))
  | 2 => decodeArith w
  | _ => decodeMem w

/-- The decoder as the host asks it: the instruction whose bits are `w`, numbered as the opcode table numbers
them. Every instruction is one 32-bit word (R108). -/
def decodeTableWord (_nbits w : Nat) : Option Instr := decode (BitVec.ofNat 32 w)

end

/-! ## The encoder -/

/-- Format 2 (R110). -/
def fmt2 (hi : BitVec 5) (op2 : BitVec 3) (low : BitVec 22) : Word32 := 0#2 ++ hi ++ op2 ++ low

/-- Format 3 (R111). -/
def fmt3 (op : BitVec 2) (rd : BitVec 5) (op3 : BitVec 6) (rs1 : BitVec 5) (low : BitVec 14) : Word32 :=
  op ++ rd ++ op3 ++ rs1 ++ low

/-- Format 3 with an opf field (R111 c). -/
def fmtOpf (rd : BitVec 5) (op3 : BitVec 6) (rs1 : BitVec 5) (opf : BitVec 9) (rs2 : BitVec 5) : Word32 :=
  fmt3 2 rd op3 rs1 (opf ++ rs2)

/-- Format 5 (R113). -/
def fmt5 (rd : BitVec 5) (op3 : BitVec 6) (rs1 rs3 : BitVec 5) (op5 : BitVec 4) (rs2 : BitVec 5) : Word32 :=
  fmt3 2 rd op3 rs1 (rs3 ++ op5 ++ rs2)

/-- cc1 :: cc0 of an integer condition (R130). -/
def iccField : IccSel → BitVec 2
  | .icc => 0
  | .xcc => 2

/-- The 4-bit field of an integer condition (R128). -/
def icondField : ICond → BitVec 4
  | .n => 0 | .e => 1 | .le => 2 | .l => 3 | .leu => 4 | .cs => 5 | .neg => 6 | .vs => 7
  | .a => 8 | .ne => 9 | .g => 10 | .ge => 11 | .gu => 12 | .cc => 13 | .pos => 14 | .vc => 15

/-- The 4-bit field of a floating-point condition (R128). -/
def fcondField : FCond → BitVec 4
  | .n => 0 | .ne => 1 | .lg => 2 | .ul => 3 | .l => 4 | .ug => 5 | .g => 6 | .u => 7
  | .a => 8 | .e => 9 | .ue => 10 | .ge => 11 | .uge => 12 | .le => 13 | .ule => 14 | .o => 15

/-- Bits 13:0 of a format 3 instruction with a second operand. -/
def regImmField : RegImm 13 → BitVec 14
  | .reg rs2 => 0#9 ++ rs2
  | .imm v => 1#1 ++ v

/-- Bits 13:0 of an alternate-space access. -/
def altField : AltOperand → BitVec 14
  | .immAsi asi rs2 => 0#1 ++ asi ++ rs2
  | .asiReg v => 1#1 ++ v

/-- Bits 13:0 of CASA and CASXA. -/
def casField : AsiSource → Reg → BitVec 14
  | .imm asi, rs2 => 0#1 ++ asi ++ rs2
  | .asiReg, rs2 => 1#1 ++ 0#8 ++ rs2

/-- Bits 13:0 of a shift with x = 0. -/
def shift32Field : RegImm 5 → BitVec 14
  | .reg rs2 => 0#9 ++ rs2
  | .imm v => 1#1 ++ 0#8 ++ v

/-- Bits 13:0 of a shift with x = 1. -/
def shift64Field : RegImm 6 → BitVec 14
  | .reg rs2 => 0#1 ++ 1#1 ++ 0#7 ++ rs2
  | .imm v => 1#1 ++ 1#1 ++ 0#6 ++ v

/-- BPcc and FBPfcc. -/
def encBranch19 (a : Bool) (cond : BitVec 4) (op2 : BitVec 3) (cc : BitVec 2) (p : Bool) (disp : BitVec 19) : Word32 :=
  fmt2 (flag a ++ cond) op2 (cc ++ flag p ++ disp)

/-- Bicc and FBfcc. -/
def encBranch22 (a : Bool) (cond : BitVec 4) (op2 : BitVec 3) (disp : BitVec 22) : Word32 :=
  fmt2 (flag a ++ cond) op2 disp

/-- BPr. -/
def encBranchReg (a : Bool) (rcond : BitVec 3) (p : Bool) (rs1 : Reg) (d16 : BitVec 16) : Word32 :=
  fmt2 (flag a ++ 0#1 ++ rcond) 3 (field d16 14 2 ++ flag p ++ rs1 ++ field d16 0 14)

/-- CBcond. -/
def encCompareBranch (cc2 : BitVec 1) (cond : BitVec 4) (rs1 : Reg) (op2 : RegImm 5) (d10 : BitVec 10) : Word32 :=
  let hi := field cond 3 1 ++ 1#1 ++ field cond 0 3
  match op2 with
  | .reg rs2 => fmt2 hi 3 (cc2 ++ field d10 8 2 ++ rs1 ++ 0#1 ++ field d10 0 8 ++ rs2)
  | .imm v => fmt2 hi 3 (cc2 ++ field d10 8 2 ++ rs1 ++ 1#1 ++ field d10 0 8 ++ v)

/-- MOVcc. -/
def encMovcc (rd : Reg) (cc2 : BitVec 1) (cond : BitVec 4) (cc : BitVec 2) : RegImm 11 → Word32
  | .reg rs2 => fmt3 2 rd 0x2C (cc2 ++ cond) (0#1 ++ cc ++ 0#6 ++ rs2)
  | .imm v => fmt3 2 rd 0x2C (cc2 ++ cond) (1#1 ++ cc ++ v)

/-- MOVr. -/
def encMovr (rd rs1 : Reg) (rcond : BitVec 3) : RegImm 10 → Word32
  | .reg rs2 => fmt3 2 rd 0x2F rs1 (0#1 ++ rcond ++ 0#5 ++ rs2)
  | .imm v => fmt3 2 rd 0x2F rs1 (1#1 ++ rcond ++ v)

/-- Tcc. -/
def encTcc (cond : BitVec 4) (cc : BitVec 2) (rs1 : Reg) : RegImm 8 → Word32
  | .reg rs2 => fmt3 2 (0#1 ++ cond) 0x3A rs1 (0#1 ++ cc ++ 0#6 ++ rs2)
  | .imm v => fmt3 2 (0#1 ++ cond) 0x3A rs1 (1#1 ++ cc ++ 0#3 ++ v)


/-- The word of an instruction, from the same encodings. -/
def encode : Instr → Word32
  | .NOP => fmt2 0 4 0
  | .SETHI rd imm22 => fmt2 rd 4 imm22
  | .ADD rd rs1 op2 => fmt3 2 rd 0x0 rs1 (regImmField op2)
  | .AND rd rs1 op2 => fmt3 2 rd 0x1 rs1 (regImmField op2)
  | .OR rd rs1 op2 => fmt3 2 rd 0x2 rs1 (regImmField op2)
  | .XOR rd rs1 op2 => fmt3 2 rd 0x3 rs1 (regImmField op2)
  | .SUB rd rs1 op2 => fmt3 2 rd 0x4 rs1 (regImmField op2)
  | .ANDN rd rs1 op2 => fmt3 2 rd 0x5 rs1 (regImmField op2)
  | .ORN rd rs1 op2 => fmt3 2 rd 0x6 rs1 (regImmField op2)
  | .XNOR rd rs1 op2 => fmt3 2 rd 0x7 rs1 (regImmField op2)
  | .ADDC rd rs1 op2 => fmt3 2 rd 0x8 rs1 (regImmField op2)
  | .MULX rd rs1 op2 => fmt3 2 rd 0x9 rs1 (regImmField op2)
  | .UMUL rd rs1 op2 => fmt3 2 rd 0xA rs1 (regImmField op2)
  | .SMUL rd rs1 op2 => fmt3 2 rd 0xB rs1 (regImmField op2)
  | .SUBC rd rs1 op2 => fmt3 2 rd 0xC rs1 (regImmField op2)
  | .UDIVX rd rs1 op2 => fmt3 2 rd 0xD rs1 (regImmField op2)
  | .UDIV rd rs1 op2 => fmt3 2 rd 0xE rs1 (regImmField op2)
  | .SDIV rd rs1 op2 => fmt3 2 rd 0xF rs1 (regImmField op2)
  | .ADDcc rd rs1 op2 => fmt3 2 rd 0x10 rs1 (regImmField op2)
  | .ANDcc rd rs1 op2 => fmt3 2 rd 0x11 rs1 (regImmField op2)
  | .ORcc rd rs1 op2 => fmt3 2 rd 0x12 rs1 (regImmField op2)
  | .XORcc rd rs1 op2 => fmt3 2 rd 0x13 rs1 (regImmField op2)
  | .SUBcc rd rs1 op2 => fmt3 2 rd 0x14 rs1 (regImmField op2)
  | .ANDNcc rd rs1 op2 => fmt3 2 rd 0x15 rs1 (regImmField op2)
  | .ORNcc rd rs1 op2 => fmt3 2 rd 0x16 rs1 (regImmField op2)
  | .XNORcc rd rs1 op2 => fmt3 2 rd 0x17 rs1 (regImmField op2)
  | .ADDCcc rd rs1 op2 => fmt3 2 rd 0x18 rs1 (regImmField op2)
  | .UMULcc rd rs1 op2 => fmt3 2 rd 0x1A rs1 (regImmField op2)
  | .SMULcc rd rs1 op2 => fmt3 2 rd 0x1B rs1 (regImmField op2)
  | .SUBCcc rd rs1 op2 => fmt3 2 rd 0x1C rs1 (regImmField op2)
  | .UDIVcc rd rs1 op2 => fmt3 2 rd 0x1E rs1 (regImmField op2)
  | .SDIVcc rd rs1 op2 => fmt3 2 rd 0x1F rs1 (regImmField op2)
  | .TADDcc rd rs1 op2 => fmt3 2 rd 0x20 rs1 (regImmField op2)
  | .TSUBcc rd rs1 op2 => fmt3 2 rd 0x21 rs1 (regImmField op2)
  | .TADDccTV rd rs1 op2 => fmt3 2 rd 0x22 rs1 (regImmField op2)
  | .TSUBccTV rd rs1 op2 => fmt3 2 rd 0x23 rs1 (regImmField op2)
  | .MULScc rd rs1 op2 => fmt3 2 rd 0x24 rs1 (regImmField op2)
  | .SDIVX rd rs1 op2 => fmt3 2 rd 0x2D rs1 (regImmField op2)
  | .SLL rd rs1 count => fmt3 2 rd 0x25#6 rs1 (shift32Field count)
  | .SLLX rd rs1 count => fmt3 2 rd 0x25#6 rs1 (shift64Field count)
  | .SRL rd rs1 count => fmt3 2 rd 0x26#6 rs1 (shift32Field count)
  | .SRLX rd rs1 count => fmt3 2 rd 0x26#6 rs1 (shift64Field count)
  | .SRA rd rs1 count => fmt3 2 rd 0x27#6 rs1 (shift32Field count)
  | .SRAX rd rs1 count => fmt3 2 rd 0x27#6 rs1 (shift64Field count)
  | .MOVfcc0 rd cond op2 => encMovcc rd 0x0#1 (fcondField cond) 0x0#2 op2
  | .MOVfcc1 rd cond op2 => encMovcc rd 0x0#1 (fcondField cond) 0x1#2 op2
  | .MOVfcc2 rd cond op2 => encMovcc rd 0x0#1 (fcondField cond) 0x2#2 op2
  | .MOVfcc3 rd cond op2 => encMovcc rd 0x0#1 (fcondField cond) 0x3#2 op2
  | .MOVicc rd cond op2 => encMovcc rd 0x1#1 (icondField cond) 0x0#2 op2
  | .MOVxcc rd cond op2 => encMovcc rd 0x1#1 (icondField cond) 0x2#2 op2
  | .POPC rd op2 => fmt3 2 rd 0x2E 0 (regImmField op2)
  | .MOVRZ rd rs1 op2 => encMovr rd rs1 0x1#3 op2
  | .MOVRLEZ rd rs1 op2 => encMovr rd rs1 0x2#3 op2
  | .MOVRLZ rd rs1 op2 => encMovr rd rs1 0x3#3 op2
  | .MOVRNZ rd rs1 op2 => encMovr rd rs1 0x5#3 op2
  | .MOVRGZ rd rs1 op2 => encMovr rd rs1 0x6#3 op2
  | .MOVRGEZ rd rs1 op2 => encMovr rd rs1 0x7#3 op2
  | .ADDXC rd rs1 rs2 => fmtOpf rd 0x36 rs1 0x11 rs2
  | .ADDXCcc rd rs1 rs2 => fmtOpf rd 0x36 rs1 0x13 rs2
  | .UMULXHI rd rs1 rs2 => fmtOpf rd 0x36 rs1 0x16 rs2
  | .LZCNT rd rs2 => fmtOpf rd 0x36 0 0x17 rs2
  | .SUBXC rd rs1 rs2 => fmtOpf rd 0x36 rs1 0x41 rs2
  | .SUBXCcc rd rs1 rs2 => fmtOpf rd 0x36 rs1 0x43 rs2
  | .XMULX rd rs1 rs2 => fmtOpf rd 0x36 rs1 0x115 rs2
  | .XMULXHI rd rs1 rs2 => fmtOpf rd 0x36 rs1 0x116 rs2
  | .ILLTRAP const22 => fmt2 0 0 const22
  | .BPN a cc p disp19 => encBranch19 a 0x0#4 1 (iccField cc) p disp19
  | .BPE a cc p disp19 => encBranch19 a 0x1#4 1 (iccField cc) p disp19
  | .BPLE a cc p disp19 => encBranch19 a 0x2#4 1 (iccField cc) p disp19
  | .BPL a cc p disp19 => encBranch19 a 0x3#4 1 (iccField cc) p disp19
  | .BPLEU a cc p disp19 => encBranch19 a 0x4#4 1 (iccField cc) p disp19
  | .BPCS a cc p disp19 => encBranch19 a 0x5#4 1 (iccField cc) p disp19
  | .BPNEG a cc p disp19 => encBranch19 a 0x6#4 1 (iccField cc) p disp19
  | .BPVS a cc p disp19 => encBranch19 a 0x7#4 1 (iccField cc) p disp19
  | .BPA a cc p disp19 => encBranch19 a 0x8#4 1 (iccField cc) p disp19
  | .BPNE a cc p disp19 => encBranch19 a 0x9#4 1 (iccField cc) p disp19
  | .BPG a cc p disp19 => encBranch19 a 0xA#4 1 (iccField cc) p disp19
  | .BPGE a cc p disp19 => encBranch19 a 0xB#4 1 (iccField cc) p disp19
  | .BPGU a cc p disp19 => encBranch19 a 0xC#4 1 (iccField cc) p disp19
  | .BPCC a cc p disp19 => encBranch19 a 0xD#4 1 (iccField cc) p disp19
  | .BPPOS a cc p disp19 => encBranch19 a 0xE#4 1 (iccField cc) p disp19
  | .BPVC a cc p disp19 => encBranch19 a 0xF#4 1 (iccField cc) p disp19
  | .BN a disp22 => encBranch22 a 0x0#4 2 disp22
  | .BE a disp22 => encBranch22 a 0x1#4 2 disp22
  | .BLE a disp22 => encBranch22 a 0x2#4 2 disp22
  | .BL a disp22 => encBranch22 a 0x3#4 2 disp22
  | .BLEU a disp22 => encBranch22 a 0x4#4 2 disp22
  | .BCS a disp22 => encBranch22 a 0x5#4 2 disp22
  | .BNEG a disp22 => encBranch22 a 0x6#4 2 disp22
  | .BVS a disp22 => encBranch22 a 0x7#4 2 disp22
  | .BA a disp22 => encBranch22 a 0x8#4 2 disp22
  | .BNE a disp22 => encBranch22 a 0x9#4 2 disp22
  | .BG a disp22 => encBranch22 a 0xA#4 2 disp22
  | .BGE a disp22 => encBranch22 a 0xB#4 2 disp22
  | .BGU a disp22 => encBranch22 a 0xC#4 2 disp22
  | .BCC a disp22 => encBranch22 a 0xD#4 2 disp22
  | .BPOS a disp22 => encBranch22 a 0xE#4 2 disp22
  | .BVC a disp22 => encBranch22 a 0xF#4 2 disp22
  | .BRZ a p rs1 d16 => encBranchReg a 0x1#3 p rs1 d16
  | .BRLEZ a p rs1 d16 => encBranchReg a 0x2#3 p rs1 d16
  | .BRLZ a p rs1 d16 => encBranchReg a 0x3#3 p rs1 d16
  | .BRNZ a p rs1 d16 => encBranchReg a 0x5#3 p rs1 d16
  | .BRGZ a p rs1 d16 => encBranchReg a 0x6#3 p rs1 d16
  | .BRGEZ a p rs1 d16 => encBranchReg a 0x7#3 p rs1 d16
  | .CWBE rs1 op2 d10 => encCompareBranch 0x0#1 0x1#4 rs1 op2 d10
  | .CWBLE rs1 op2 d10 => encCompareBranch 0x0#1 0x2#4 rs1 op2 d10
  | .CWBL rs1 op2 d10 => encCompareBranch 0x0#1 0x3#4 rs1 op2 d10
  | .CWBLEU rs1 op2 d10 => encCompareBranch 0x0#1 0x4#4 rs1 op2 d10
  | .CWBCS rs1 op2 d10 => encCompareBranch 0x0#1 0x5#4 rs1 op2 d10
  | .CWBNEG rs1 op2 d10 => encCompareBranch 0x0#1 0x6#4 rs1 op2 d10
  | .CWBVS rs1 op2 d10 => encCompareBranch 0x0#1 0x7#4 rs1 op2 d10
  | .CWBNE rs1 op2 d10 => encCompareBranch 0x0#1 0x9#4 rs1 op2 d10
  | .CWBG rs1 op2 d10 => encCompareBranch 0x0#1 0xA#4 rs1 op2 d10
  | .CWBGE rs1 op2 d10 => encCompareBranch 0x0#1 0xB#4 rs1 op2 d10
  | .CWBGU rs1 op2 d10 => encCompareBranch 0x0#1 0xC#4 rs1 op2 d10
  | .CWBCC rs1 op2 d10 => encCompareBranch 0x0#1 0xD#4 rs1 op2 d10
  | .CWBPOS rs1 op2 d10 => encCompareBranch 0x0#1 0xE#4 rs1 op2 d10
  | .CWBVC rs1 op2 d10 => encCompareBranch 0x0#1 0xF#4 rs1 op2 d10
  | .CXBE rs1 op2 d10 => encCompareBranch 0x1#1 0x1#4 rs1 op2 d10
  | .CXBLE rs1 op2 d10 => encCompareBranch 0x1#1 0x2#4 rs1 op2 d10
  | .CXBL rs1 op2 d10 => encCompareBranch 0x1#1 0x3#4 rs1 op2 d10
  | .CXBLEU rs1 op2 d10 => encCompareBranch 0x1#1 0x4#4 rs1 op2 d10
  | .CXBCS rs1 op2 d10 => encCompareBranch 0x1#1 0x5#4 rs1 op2 d10
  | .CXBNEG rs1 op2 d10 => encCompareBranch 0x1#1 0x6#4 rs1 op2 d10
  | .CXBVS rs1 op2 d10 => encCompareBranch 0x1#1 0x7#4 rs1 op2 d10
  | .CXBNE rs1 op2 d10 => encCompareBranch 0x1#1 0x9#4 rs1 op2 d10
  | .CXBG rs1 op2 d10 => encCompareBranch 0x1#1 0xA#4 rs1 op2 d10
  | .CXBGE rs1 op2 d10 => encCompareBranch 0x1#1 0xB#4 rs1 op2 d10
  | .CXBGU rs1 op2 d10 => encCompareBranch 0x1#1 0xC#4 rs1 op2 d10
  | .CXBCC rs1 op2 d10 => encCompareBranch 0x1#1 0xD#4 rs1 op2 d10
  | .CXBPOS rs1 op2 d10 => encCompareBranch 0x1#1 0xE#4 rs1 op2 d10
  | .CXBVC rs1 op2 d10 => encCompareBranch 0x1#1 0xF#4 rs1 op2 d10
  | .FBPN a cc p disp19 => encBranch19 a 0x0#4 5 cc p disp19
  | .FBPNE a cc p disp19 => encBranch19 a 0x1#4 5 cc p disp19
  | .FBPLG a cc p disp19 => encBranch19 a 0x2#4 5 cc p disp19
  | .FBPUL a cc p disp19 => encBranch19 a 0x3#4 5 cc p disp19
  | .FBPL a cc p disp19 => encBranch19 a 0x4#4 5 cc p disp19
  | .FBPUG a cc p disp19 => encBranch19 a 0x5#4 5 cc p disp19
  | .FBPG a cc p disp19 => encBranch19 a 0x6#4 5 cc p disp19
  | .FBPU a cc p disp19 => encBranch19 a 0x7#4 5 cc p disp19
  | .FBPA a cc p disp19 => encBranch19 a 0x8#4 5 cc p disp19
  | .FBPE a cc p disp19 => encBranch19 a 0x9#4 5 cc p disp19
  | .FBPUE a cc p disp19 => encBranch19 a 0xA#4 5 cc p disp19
  | .FBPGE a cc p disp19 => encBranch19 a 0xB#4 5 cc p disp19
  | .FBPUGE a cc p disp19 => encBranch19 a 0xC#4 5 cc p disp19
  | .FBPLE a cc p disp19 => encBranch19 a 0xD#4 5 cc p disp19
  | .FBPULE a cc p disp19 => encBranch19 a 0xE#4 5 cc p disp19
  | .FBPO a cc p disp19 => encBranch19 a 0xF#4 5 cc p disp19
  | .FBN a disp22 => encBranch22 a 0x0#4 6 disp22
  | .FBNE a disp22 => encBranch22 a 0x1#4 6 disp22
  | .FBLG a disp22 => encBranch22 a 0x2#4 6 disp22
  | .FBUL a disp22 => encBranch22 a 0x3#4 6 disp22
  | .FBL a disp22 => encBranch22 a 0x4#4 6 disp22
  | .FBUG a disp22 => encBranch22 a 0x5#4 6 disp22
  | .FBG a disp22 => encBranch22 a 0x6#4 6 disp22
  | .FBU a disp22 => encBranch22 a 0x7#4 6 disp22
  | .FBA a disp22 => encBranch22 a 0x8#4 6 disp22
  | .FBE a disp22 => encBranch22 a 0x9#4 6 disp22
  | .FBUE a disp22 => encBranch22 a 0xA#4 6 disp22
  | .FBGE a disp22 => encBranch22 a 0xB#4 6 disp22
  | .FBUGE a disp22 => encBranch22 a 0xC#4 6 disp22
  | .FBLE a disp22 => encBranch22 a 0xD#4 6 disp22
  | .FBULE a disp22 => encBranch22 a 0xE#4 6 disp22
  | .FBO a disp22 => encBranch22 a 0xF#4 6 disp22
  | .CALL disp30 => (1#2 ++ disp30 : BitVec 32)
  | .JMPL rd rs1 op2 => fmt3 2 rd 0x38 rs1 (regImmField op2)
  | .RETURN rs1 op2 => fmt3 2 0 0x39 rs1 (regImmField op2)
  | .TN cc rs1 op2 => encTcc 0x0#4 (iccField cc) rs1 op2
  | .TE cc rs1 op2 => encTcc 0x1#4 (iccField cc) rs1 op2
  | .TLE cc rs1 op2 => encTcc 0x2#4 (iccField cc) rs1 op2
  | .TL cc rs1 op2 => encTcc 0x3#4 (iccField cc) rs1 op2
  | .TLEU cc rs1 op2 => encTcc 0x4#4 (iccField cc) rs1 op2
  | .TCS cc rs1 op2 => encTcc 0x5#4 (iccField cc) rs1 op2
  | .TNEG cc rs1 op2 => encTcc 0x6#4 (iccField cc) rs1 op2
  | .TVS cc rs1 op2 => encTcc 0x7#4 (iccField cc) rs1 op2
  | .TA cc rs1 op2 => encTcc 0x8#4 (iccField cc) rs1 op2
  | .TNE cc rs1 op2 => encTcc 0x9#4 (iccField cc) rs1 op2
  | .TG cc rs1 op2 => encTcc 0xA#4 (iccField cc) rs1 op2
  | .TGE cc rs1 op2 => encTcc 0xB#4 (iccField cc) rs1 op2
  | .TGU cc rs1 op2 => encTcc 0xC#4 (iccField cc) rs1 op2
  | .TCC cc rs1 op2 => encTcc 0xD#4 (iccField cc) rs1 op2
  | .TPOS cc rs1 op2 => encTcc 0xE#4 (iccField cc) rs1 op2
  | .TVC cc rs1 op2 => encTcc 0xF#4 (iccField cc) rs1 op2
  | .DONE => fmt3 2 0 0x3E 0 0
  | .RETRY => fmt3 2 1 0x3E 0 0
  | .STBAR => fmt3 2 0 0x28 15 0
  | .MEMBAR cmask mmask => fmt3 2 0 0x28 15 (1#1 ++ 0#6 ++ cmask ++ mmask)
  | .FLUSH rs1 op2 => fmt3 2 0 0x3B rs1 (regImmField op2)
  | .LDUW rd rs1 op2 => fmt3 3 rd 0x0 rs1 (regImmField op2)
  | .LDUB rd rs1 op2 => fmt3 3 rd 0x1 rs1 (regImmField op2)
  | .LDUH rd rs1 op2 => fmt3 3 rd 0x2 rs1 (regImmField op2)
  | .LDTW rd rs1 op2 => fmt3 3 rd 0x3 rs1 (regImmField op2)
  | .STW rd rs1 op2 => fmt3 3 rd 0x4 rs1 (regImmField op2)
  | .STB rd rs1 op2 => fmt3 3 rd 0x5 rs1 (regImmField op2)
  | .STH rd rs1 op2 => fmt3 3 rd 0x6 rs1 (regImmField op2)
  | .STTW rd rs1 op2 => fmt3 3 rd 0x7 rs1 (regImmField op2)
  | .LDSW rd rs1 op2 => fmt3 3 rd 0x8 rs1 (regImmField op2)
  | .LDSB rd rs1 op2 => fmt3 3 rd 0x9 rs1 (regImmField op2)
  | .LDSH rd rs1 op2 => fmt3 3 rd 0xA rs1 (regImmField op2)
  | .LDX rd rs1 op2 => fmt3 3 rd 0xB rs1 (regImmField op2)
  | .LDSTUB rd rs1 op2 => fmt3 3 rd 0xD rs1 (regImmField op2)
  | .STX rd rs1 op2 => fmt3 3 rd 0xE rs1 (regImmField op2)
  | .SWAP rd rs1 op2 => fmt3 3 rd 0xF rs1 (regImmField op2)
  | .LDUWA rd rs1 addr => fmt3 3 rd 0x10 rs1 (altField addr)
  | .LDUBA rd rs1 addr => fmt3 3 rd 0x11 rs1 (altField addr)
  | .LDUHA rd rs1 addr => fmt3 3 rd 0x12 rs1 (altField addr)
  | .LDTWA rd rs1 addr => fmt3 3 rd 0x13 rs1 (altField addr)
  | .STWA rd rs1 addr => fmt3 3 rd 0x14 rs1 (altField addr)
  | .STBA rd rs1 addr => fmt3 3 rd 0x15 rs1 (altField addr)
  | .STHA rd rs1 addr => fmt3 3 rd 0x16 rs1 (altField addr)
  | .STTWA rd rs1 addr => fmt3 3 rd 0x17 rs1 (altField addr)
  | .LDSWA rd rs1 addr => fmt3 3 rd 0x18 rs1 (altField addr)
  | .LDSBA rd rs1 addr => fmt3 3 rd 0x19 rs1 (altField addr)
  | .LDSHA rd rs1 addr => fmt3 3 rd 0x1A rs1 (altField addr)
  | .LDXA rd rs1 addr => fmt3 3 rd 0x1B rs1 (altField addr)
  | .LDSTUBA rd rs1 addr => fmt3 3 rd 0x1D rs1 (altField addr)
  | .STXA rd rs1 addr => fmt3 3 rd 0x1E rs1 (altField addr)
  | .SWAPA rd rs1 addr => fmt3 3 rd 0x1F rs1 (altField addr)
  | .LDTXA rd rs1 rs2 asi => fmt3 3 rd 0x13 rs1 (0#1 ++ asi ++ rs2)
  | .PREFETCH fcn rs1 op2 => fmt3 3 fcn 0x2D rs1 (regImmField op2)
  | .CASA rd rs1 rs2 asi => fmt3 3 rd 0x3C rs1 (casField asi rs2)
  | .PREFETCHA fcn rs1 addr => fmt3 3 fcn 0x3D rs1 (altField addr)
  | .CASXA rd rs1 rs2 asi => fmt3 3 rd 0x3E rs1 (casField asi rs2)
  | .LDF rd rs1 op2 => fmt3 3 rd 0x20 rs1 (regImmField op2)
  | .LDFSR rs1 op2 => fmt3 3 0 0x21 rs1 (regImmField op2)
  | .LDXFSR rs1 op2 => fmt3 3 1 0x21 rs1 (regImmField op2)
  | .LDXEFSR rs1 op2 => fmt3 3 3 0x21 rs1 (regImmField op2)
  | .LDQF rd rs1 op2 => fmt3 3 (dregField rd) 0x22 rs1 (regImmField op2)
  | .LDDF rd rs1 op2 => fmt3 3 (dregField rd) 0x23 rs1 (regImmField op2)
  | .STF rd rs1 op2 => fmt3 3 rd 0x24 rs1 (regImmField op2)
  | .STFSR rs1 op2 => fmt3 3 0 0x25 rs1 (regImmField op2)
  | .STXFSR rs1 op2 => fmt3 3 1 0x25 rs1 (regImmField op2)
  | .STQF rd rs1 op2 => fmt3 3 (dregField rd) 0x26 rs1 (regImmField op2)
  | .STDF rd rs1 op2 => fmt3 3 (dregField rd) 0x27 rs1 (regImmField op2)
  | .LDFA rd rs1 addr => fmt3 3 rd 0x30 rs1 (altField addr)
  | .LDQFA rd rs1 addr => fmt3 3 (dregField rd) 0x32 rs1 (altField addr)
  | .LDDFA rd rs1 addr => fmt3 3 (dregField rd) 0x33 rs1 (altField addr)
  | .LDBLOCKF rd rs1 rs2 asi => fmt3 3 (dregField rd) 0x33 rs1 (0#1 ++ asi ++ rs2)
  | .LDSHORTF rd rs1 rs2 asi => fmt3 3 (dregField rd) 0x33 rs1 (0#1 ++ asi ++ rs2)
  | .STFA rd rs1 addr => fmt3 3 rd 0x34 rs1 (altField addr)
  | .STQFA rd rs1 addr => fmt3 3 (dregField rd) 0x36 rs1 (altField addr)
  | .STDFA rd rs1 addr => fmt3 3 (dregField rd) 0x37 rs1 (altField addr)
  | .STBLOCKF rd rs1 rs2 asi => fmt3 3 (dregField rd) 0x37 rs1 (0#1 ++ asi ++ rs2)
  | .STPARTIALF rd rs1 rs2 asi => fmt3 3 (dregField rd) 0x37 rs1 (0#1 ++ asi ++ rs2)
  | .STSHORTF rd rs1 rs2 asi => fmt3 3 (dregField rd) 0x37 rs1 (0#1 ++ asi ++ rs2)
  | .FLUSHW => 0x81580000#32
  | .SAVED => fmt3 2 0 0x31 0 0
  | .RESTORED => fmt3 2 1 0x31 0 0
  | .ALLCLEAN => fmt3 2 2 0x31 0 0
  | .OTHERW => fmt3 2 3 0x31 0 0
  | .NORMALW => fmt3 2 4 0x31 0 0
  | .INVALW => fmt3 2 5 0x31 0 0
  | .SAVE rd rs1 op2 => fmt3 2 rd 0x3C rs1 (regImmField op2)
  | .RESTORE rd rs1 op2 => fmt3 2 rd 0x3D rs1 (regImmField op2)
  | .RDY rd => fmt3 2 rd 0x28 0 0
  | .RDCCR rd => fmt3 2 rd 0x28 2 0
  | .RDASI rd => fmt3 2 rd 0x28 3 0
  | .RDTICK rd => fmt3 2 rd 0x28 4 0
  | .RDPC rd => fmt3 2 rd 0x28 5 0
  | .RDFPRS rd => fmt3 2 rd 0x28 6 0
  | .RDGSR rd => fmt3 2 rd 0x28 19 0
  | .RDSOFTINT rd => fmt3 2 rd 0x28 22 0
  | .RDSTICK rd => fmt3 2 rd 0x28 24 0
  | .RDSTICK_CMPR rd => fmt3 2 rd 0x28 25 0
  | .RDCFR rd => fmt3 2 rd 0x28 26 0
  | .RDPR_TPC rd => fmt3 2 rd 0x2A 0 0
  | .RDPR_TNPC rd => fmt3 2 rd 0x2A 1 0
  | .RDPR_TSTATE rd => fmt3 2 rd 0x2A 2 0
  | .RDPR_TT rd => fmt3 2 rd 0x2A 3 0
  | .RDPR_TICK rd => fmt3 2 rd 0x2A 4 0
  | .RDPR_TBA rd => fmt3 2 rd 0x2A 5 0
  | .RDPR_PSTATE rd => fmt3 2 rd 0x2A 6 0
  | .RDPR_TL rd => fmt3 2 rd 0x2A 7 0
  | .RDPR_PIL rd => fmt3 2 rd 0x2A 8 0
  | .RDPR_CWP rd => fmt3 2 rd 0x2A 9 0
  | .RDPR_CANSAVE rd => fmt3 2 rd 0x2A 10 0
  | .RDPR_CANRESTORE rd => fmt3 2 rd 0x2A 11 0
  | .RDPR_CLEANWIN rd => fmt3 2 rd 0x2A 12 0
  | .RDPR_OTHERWIN rd => fmt3 2 rd 0x2A 13 0
  | .RDPR_WSTATE rd => fmt3 2 rd 0x2A 14 0
  | .RDPR_GL rd => fmt3 2 rd 0x2A 16 0
  | .WRY rs1 op2 => fmt3 2 0 0x30 rs1 (regImmField op2)
  | .WRCCR rs1 op2 => fmt3 2 2 0x30 rs1 (regImmField op2)
  | .WRASI rs1 op2 => fmt3 2 3 0x30 rs1 (regImmField op2)
  | .WRFPRS rs1 op2 => fmt3 2 6 0x30 rs1 (regImmField op2)
  | .WRGSR rs1 op2 => fmt3 2 19 0x30 rs1 (regImmField op2)
  | .WRSOFTINT_SET rs1 op2 => fmt3 2 20 0x30 rs1 (regImmField op2)
  | .WRSOFTINT_CLR rs1 op2 => fmt3 2 21 0x30 rs1 (regImmField op2)
  | .WRSOFTINT rs1 op2 => fmt3 2 22 0x30 rs1 (regImmField op2)
  | .WRSTICK_CMPR rs1 op2 => fmt3 2 25 0x30 rs1 (regImmField op2)
  | .WRPAUSE rs1 op2 => fmt3 2 27 0x30 rs1 (regImmField op2)
  | .PAUSE op2 => fmt3 2 27 0x30 0 (regImmField op2)
  | .WRMWAIT rs1 op2 => fmt3 2 28 0x30 rs1 (regImmField op2)
  | .MWAIT op2 => fmt3 2 28 0x30 0 (regImmField op2)
  | .WRPR_TPC rs1 op2 => fmt3 2 0 0x32 rs1 (regImmField op2)
  | .WRPR_TNPC rs1 op2 => fmt3 2 1 0x32 rs1 (regImmField op2)
  | .WRPR_TSTATE rs1 op2 => fmt3 2 2 0x32 rs1 (regImmField op2)
  | .WRPR_TT rs1 op2 => fmt3 2 3 0x32 rs1 (regImmField op2)
  | .WRPR_TBA rs1 op2 => fmt3 2 5 0x32 rs1 (regImmField op2)
  | .WRPR_PSTATE rs1 op2 => fmt3 2 6 0x32 rs1 (regImmField op2)
  | .WRPR_TL rs1 op2 => fmt3 2 7 0x32 rs1 (regImmField op2)
  | .WRPR_PIL rs1 op2 => fmt3 2 8 0x32 rs1 (regImmField op2)
  | .WRPR_CWP rs1 op2 => fmt3 2 9 0x32 rs1 (regImmField op2)
  | .WRPR_CANSAVE rs1 op2 => fmt3 2 10 0x32 rs1 (regImmField op2)
  | .WRPR_CANRESTORE rs1 op2 => fmt3 2 11 0x32 rs1 (regImmField op2)
  | .WRPR_CLEANWIN rs1 op2 => fmt3 2 12 0x32 rs1 (regImmField op2)
  | .WRPR_OTHERWIN rs1 op2 => fmt3 2 13 0x32 rs1 (regImmField op2)
  | .WRPR_WSTATE rs1 op2 => fmt3 2 14 0x32 rs1 (regImmField op2)
  | .WRPR_GL rs1 op2 => fmt3 2 16 0x32 rs1 (regImmField op2)
  | .SIAM mode => fmt3 2 0 0x36 0 (0x081#9 ++ 0#2 ++ mode)
  | .FMOVs rd rs2 => fmtOpf rd 0x34 0 0x1 rs2
  | .FMOVd rd rs2 => fmtOpf (dregField rd) 0x34 0 0x2 (dregField rs2)
  | .FMOVq rd rs2 => fmtOpf (dregField rd) 0x34 0 0x3 (dregField rs2)
  | .FNEGs rd rs2 => fmtOpf rd 0x34 0 0x5 rs2
  | .FNEGd rd rs2 => fmtOpf (dregField rd) 0x34 0 0x6 (dregField rs2)
  | .FNEGq rd rs2 => fmtOpf (dregField rd) 0x34 0 0x7 (dregField rs2)
  | .FABSs rd rs2 => fmtOpf rd 0x34 0 0x9 rs2
  | .FABSd rd rs2 => fmtOpf (dregField rd) 0x34 0 0xA (dregField rs2)
  | .FABSq rd rs2 => fmtOpf (dregField rd) 0x34 0 0xB (dregField rs2)
  | .FSQRTs rd rs2 => fmtOpf rd 0x34 0 0x29 rs2
  | .FSQRTd rd rs2 => fmtOpf (dregField rd) 0x34 0 0x2A (dregField rs2)
  | .FSQRTq rd rs2 => fmtOpf (dregField rd) 0x34 0 0x2B (dregField rs2)
  | .FADDs rd rs1 rs2 => fmtOpf rd 0x34 rs1 0x41 rs2
  | .FADDd rd rs1 rs2 => fmtOpf (dregField rd) 0x34 (dregField rs1) 0x42 (dregField rs2)
  | .FADDq rd rs1 rs2 => fmtOpf (dregField rd) 0x34 (dregField rs1) 0x43 (dregField rs2)
  | .FSUBs rd rs1 rs2 => fmtOpf rd 0x34 rs1 0x45 rs2
  | .FSUBd rd rs1 rs2 => fmtOpf (dregField rd) 0x34 (dregField rs1) 0x46 (dregField rs2)
  | .FSUBq rd rs1 rs2 => fmtOpf (dregField rd) 0x34 (dregField rs1) 0x47 (dregField rs2)
  | .FMULs rd rs1 rs2 => fmtOpf rd 0x34 rs1 0x49 rs2
  | .FMULd rd rs1 rs2 => fmtOpf (dregField rd) 0x34 (dregField rs1) 0x4A (dregField rs2)
  | .FMULq rd rs1 rs2 => fmtOpf (dregField rd) 0x34 (dregField rs1) 0x4B (dregField rs2)
  | .FDIVs rd rs1 rs2 => fmtOpf rd 0x34 rs1 0x4D rs2
  | .FDIVd rd rs1 rs2 => fmtOpf (dregField rd) 0x34 (dregField rs1) 0x4E (dregField rs2)
  | .FDIVq rd rs1 rs2 => fmtOpf (dregField rd) 0x34 (dregField rs1) 0x4F (dregField rs2)
  | .FNADDs rd rs1 rs2 => fmtOpf rd 0x34 rs1 0x51 rs2
  | .FNADDd rd rs1 rs2 => fmtOpf (dregField rd) 0x34 (dregField rs1) 0x52 (dregField rs2)
  | .FNMULs rd rs1 rs2 => fmtOpf rd 0x34 rs1 0x59 rs2
  | .FNMULd rd rs1 rs2 => fmtOpf (dregField rd) 0x34 (dregField rs1) 0x5A (dregField rs2)
  | .FHADDs rd rs1 rs2 => fmtOpf rd 0x34 rs1 0x61 rs2
  | .FHADDd rd rs1 rs2 => fmtOpf (dregField rd) 0x34 (dregField rs1) 0x62 (dregField rs2)
  | .FHSUBs rd rs1 rs2 => fmtOpf rd 0x34 rs1 0x65 rs2
  | .FHSUBd rd rs1 rs2 => fmtOpf (dregField rd) 0x34 (dregField rs1) 0x66 (dregField rs2)
  | .FsMULd rd rs1 rs2 => fmtOpf (dregField rd) 0x34 rs1 0x69 rs2
  | .FdMULq rd rs1 rs2 => fmtOpf (dregField rd) 0x34 (dregField rs1) 0x6E (dregField rs2)
  | .FNHADDs rd rs1 rs2 => fmtOpf rd 0x34 rs1 0x71 rs2
  | .FNHADDd rd rs1 rs2 => fmtOpf (dregField rd) 0x34 (dregField rs1) 0x72 (dregField rs2)
  | .FNsMULd rd rs1 rs2 => fmtOpf (dregField rd) 0x34 rs1 0x79 rs2
  | .FsTOx rd rs2 => fmtOpf (dregField rd) 0x34 0 0x81 rs2
  | .FdTOx rd rs2 => fmtOpf (dregField rd) 0x34 0 0x82 (dregField rs2)
  | .FqTOx rd rs2 => fmtOpf (dregField rd) 0x34 0 0x83 (dregField rs2)
  | .FxTOs rd rs2 => fmtOpf rd 0x34 0 0x84 (dregField rs2)
  | .FxTOd rd rs2 => fmtOpf (dregField rd) 0x34 0 0x88 (dregField rs2)
  | .FxTOq rd rs2 => fmtOpf (dregField rd) 0x34 0 0x8C (dregField rs2)
  | .FiTOs rd rs2 => fmtOpf rd 0x34 0 0xC4 rs2
  | .FdTOs rd rs2 => fmtOpf rd 0x34 0 0xC6 (dregField rs2)
  | .FqTOs rd rs2 => fmtOpf rd 0x34 0 0xC7 (dregField rs2)
  | .FiTOd rd rs2 => fmtOpf (dregField rd) 0x34 0 0xC8 rs2
  | .FsTOd rd rs2 => fmtOpf (dregField rd) 0x34 0 0xC9 rs2
  | .FqTOd rd rs2 => fmtOpf (dregField rd) 0x34 0 0xCB (dregField rs2)
  | .FiTOq rd rs2 => fmtOpf (dregField rd) 0x34 0 0xCC rs2
  | .FsTOq rd rs2 => fmtOpf (dregField rd) 0x34 0 0xCD rs2
  | .FdTOq rd rs2 => fmtOpf (dregField rd) 0x34 0 0xCE (dregField rs2)
  | .FsTOi rd rs2 => fmtOpf rd 0x34 0 0xD1 rs2
  | .FdTOi rd rs2 => fmtOpf rd 0x34 0 0xD2 (dregField rs2)
  | .FqTOi rd rs2 => fmtOpf rd 0x34 0 0xD3 (dregField rs2)
  | .FMOVSfcc0 rd cond rs2 => fmt3 2 rd 0x35 (0#1 ++ fcondField cond) (0x0#3 ++ 0x1#6 ++ rs2)
  | .FMOVDfcc0 rd cond rs2 => fmt3 2 (dregField rd) 0x35 (0#1 ++ fcondField cond) (0x0#3 ++ 0x2#6 ++ (dregField rs2))
  | .FMOVQfcc0 rd cond rs2 => fmt3 2 (dregField rd) 0x35 (0#1 ++ fcondField cond) (0x0#3 ++ 0x3#6 ++ (dregField rs2))
  | .FMOVSfcc1 rd cond rs2 => fmt3 2 rd 0x35 (0#1 ++ fcondField cond) (0x1#3 ++ 0x1#6 ++ rs2)
  | .FMOVDfcc1 rd cond rs2 => fmt3 2 (dregField rd) 0x35 (0#1 ++ fcondField cond) (0x1#3 ++ 0x2#6 ++ (dregField rs2))
  | .FMOVQfcc1 rd cond rs2 => fmt3 2 (dregField rd) 0x35 (0#1 ++ fcondField cond) (0x1#3 ++ 0x3#6 ++ (dregField rs2))
  | .FMOVSfcc2 rd cond rs2 => fmt3 2 rd 0x35 (0#1 ++ fcondField cond) (0x2#3 ++ 0x1#6 ++ rs2)
  | .FMOVDfcc2 rd cond rs2 => fmt3 2 (dregField rd) 0x35 (0#1 ++ fcondField cond) (0x2#3 ++ 0x2#6 ++ (dregField rs2))
  | .FMOVQfcc2 rd cond rs2 => fmt3 2 (dregField rd) 0x35 (0#1 ++ fcondField cond) (0x2#3 ++ 0x3#6 ++ (dregField rs2))
  | .FMOVSfcc3 rd cond rs2 => fmt3 2 rd 0x35 (0#1 ++ fcondField cond) (0x3#3 ++ 0x1#6 ++ rs2)
  | .FMOVDfcc3 rd cond rs2 => fmt3 2 (dregField rd) 0x35 (0#1 ++ fcondField cond) (0x3#3 ++ 0x2#6 ++ (dregField rs2))
  | .FMOVQfcc3 rd cond rs2 => fmt3 2 (dregField rd) 0x35 (0#1 ++ fcondField cond) (0x3#3 ++ 0x3#6 ++ (dregField rs2))
  | .FMOVSicc rd cond rs2 => fmt3 2 rd 0x35 (0#1 ++ icondField cond) (0x4#3 ++ 0x1#6 ++ rs2)
  | .FMOVDicc rd cond rs2 => fmt3 2 (dregField rd) 0x35 (0#1 ++ icondField cond) (0x4#3 ++ 0x2#6 ++ (dregField rs2))
  | .FMOVQicc rd cond rs2 => fmt3 2 (dregField rd) 0x35 (0#1 ++ icondField cond) (0x4#3 ++ 0x3#6 ++ (dregField rs2))
  | .FMOVSxcc rd cond rs2 => fmt3 2 rd 0x35 (0#1 ++ icondField cond) (0x6#3 ++ 0x1#6 ++ rs2)
  | .FMOVDxcc rd cond rs2 => fmt3 2 (dregField rd) 0x35 (0#1 ++ icondField cond) (0x6#3 ++ 0x2#6 ++ (dregField rs2))
  | .FMOVQxcc rd cond rs2 => fmt3 2 (dregField rd) 0x35 (0#1 ++ icondField cond) (0x6#3 ++ 0x3#6 ++ (dregField rs2))
  | .FCMPs cc rs1 rs2 => fmtOpf (0#3 ++ cc) 0x35 rs1 0x51 rs2
  | .FCMPd cc rs1 rs2 => fmtOpf (0#3 ++ cc) 0x35 (dregField rs1) 0x52 (dregField rs2)
  | .FCMPq cc rs1 rs2 => fmtOpf (0#3 ++ cc) 0x35 (dregField rs1) 0x53 (dregField rs2)
  | .FCMPEs cc rs1 rs2 => fmtOpf (0#3 ++ cc) 0x35 rs1 0x55 rs2
  | .FCMPEd cc rs1 rs2 => fmtOpf (0#3 ++ cc) 0x35 (dregField rs1) 0x56 (dregField rs2)
  | .FCMPEq cc rs1 rs2 => fmtOpf (0#3 ++ cc) 0x35 (dregField rs1) 0x57 (dregField rs2)
  | .FMOVRsZ rd rs1 rs2 => fmt3 2 rd 0x35 rs1 (0#1 ++ 0x1#3 ++ 0x5#5 ++ rs2)
  | .FMOVRdZ rd rs1 rs2 => fmt3 2 (dregField rd) 0x35 rs1 (0#1 ++ 0x1#3 ++ 0x6#5 ++ (dregField rs2))
  | .FMOVRqZ rd rs1 rs2 => fmt3 2 (dregField rd) 0x35 rs1 (0#1 ++ 0x1#3 ++ 0x7#5 ++ (dregField rs2))
  | .FMOVRsLEZ rd rs1 rs2 => fmt3 2 rd 0x35 rs1 (0#1 ++ 0x2#3 ++ 0x5#5 ++ rs2)
  | .FMOVRdLEZ rd rs1 rs2 => fmt3 2 (dregField rd) 0x35 rs1 (0#1 ++ 0x2#3 ++ 0x6#5 ++ (dregField rs2))
  | .FMOVRqLEZ rd rs1 rs2 => fmt3 2 (dregField rd) 0x35 rs1 (0#1 ++ 0x2#3 ++ 0x7#5 ++ (dregField rs2))
  | .FMOVRsLZ rd rs1 rs2 => fmt3 2 rd 0x35 rs1 (0#1 ++ 0x3#3 ++ 0x5#5 ++ rs2)
  | .FMOVRdLZ rd rs1 rs2 => fmt3 2 (dregField rd) 0x35 rs1 (0#1 ++ 0x3#3 ++ 0x6#5 ++ (dregField rs2))
  | .FMOVRqLZ rd rs1 rs2 => fmt3 2 (dregField rd) 0x35 rs1 (0#1 ++ 0x3#3 ++ 0x7#5 ++ (dregField rs2))
  | .FMOVRsNZ rd rs1 rs2 => fmt3 2 rd 0x35 rs1 (0#1 ++ 0x5#3 ++ 0x5#5 ++ rs2)
  | .FMOVRdNZ rd rs1 rs2 => fmt3 2 (dregField rd) 0x35 rs1 (0#1 ++ 0x5#3 ++ 0x6#5 ++ (dregField rs2))
  | .FMOVRqNZ rd rs1 rs2 => fmt3 2 (dregField rd) 0x35 rs1 (0#1 ++ 0x5#3 ++ 0x7#5 ++ (dregField rs2))
  | .FMOVRsGZ rd rs1 rs2 => fmt3 2 rd 0x35 rs1 (0#1 ++ 0x6#3 ++ 0x5#5 ++ rs2)
  | .FMOVRdGZ rd rs1 rs2 => fmt3 2 (dregField rd) 0x35 rs1 (0#1 ++ 0x6#3 ++ 0x6#5 ++ (dregField rs2))
  | .FMOVRqGZ rd rs1 rs2 => fmt3 2 (dregField rd) 0x35 rs1 (0#1 ++ 0x6#3 ++ 0x7#5 ++ (dregField rs2))
  | .FMOVRsGEZ rd rs1 rs2 => fmt3 2 rd 0x35 rs1 (0#1 ++ 0x7#3 ++ 0x5#5 ++ rs2)
  | .FMOVRdGEZ rd rs1 rs2 => fmt3 2 (dregField rd) 0x35 rs1 (0#1 ++ 0x7#3 ++ 0x6#5 ++ (dregField rs2))
  | .FMOVRqGEZ rd rs1 rs2 => fmt3 2 (dregField rd) 0x35 rs1 (0#1 ++ 0x7#3 ++ 0x7#5 ++ (dregField rs2))
  | .FLCMPs cc rs1 rs2 => fmtOpf (0#3 ++ cc) 0x36 rs1 0x151 rs2
  | .FLCMPd cc rs1 rs2 => fmtOpf (0#3 ++ cc) 0x36 (dregField rs1) 0x152 (dregField rs2)
  | .FMADDs rd rs1 rs2 rs3 => fmt5 rd 0x37 rs1 rs3 0x1 rs2
  | .FMADDd rd rs1 rs2 rs3 => fmt5 (dregField rd) 0x37 (dregField rs1) (dregField rs3) 0x2 (dregField rs2)
  | .FMSUBs rd rs1 rs2 rs3 => fmt5 rd 0x37 rs1 rs3 0x5 rs2
  | .FMSUBd rd rs1 rs2 rs3 => fmt5 (dregField rd) 0x37 (dregField rs1) (dregField rs3) 0x6 (dregField rs2)
  | .FNMSUBs rd rs1 rs2 rs3 => fmt5 rd 0x37 rs1 rs3 0x9 rs2
  | .FNMSUBd rd rs1 rs2 rs3 => fmt5 (dregField rd) 0x37 (dregField rs1) (dregField rs3) 0xA (dregField rs2)
  | .FNMADDs rd rs1 rs2 rs3 => fmt5 rd 0x37 rs1 rs3 0xD rs2
  | .FNMADDd rd rs1 rs2 rs3 => fmt5 (dregField rd) 0x37 (dregField rs1) (dregField rs3) 0xE (dregField rs2)
  | .EDGE8cc rd rs1 rs2 => fmtOpf rd 0x36 rs1 0x0 rs2
  | .EDGE8N rd rs1 rs2 => fmtOpf rd 0x36 rs1 0x1 rs2
  | .EDGE8Lcc rd rs1 rs2 => fmtOpf rd 0x36 rs1 0x2 rs2
  | .EDGE8LN rd rs1 rs2 => fmtOpf rd 0x36 rs1 0x3 rs2
  | .EDGE16cc rd rs1 rs2 => fmtOpf rd 0x36 rs1 0x4 rs2
  | .EDGE16N rd rs1 rs2 => fmtOpf rd 0x36 rs1 0x5 rs2
  | .EDGE16Lcc rd rs1 rs2 => fmtOpf rd 0x36 rs1 0x6 rs2
  | .EDGE16LN rd rs1 rs2 => fmtOpf rd 0x36 rs1 0x7 rs2
  | .EDGE32cc rd rs1 rs2 => fmtOpf rd 0x36 rs1 0x8 rs2
  | .EDGE32N rd rs1 rs2 => fmtOpf rd 0x36 rs1 0x9 rs2
  | .EDGE32Lcc rd rs1 rs2 => fmtOpf rd 0x36 rs1 0xA rs2
  | .EDGE32LN rd rs1 rs2 => fmtOpf rd 0x36 rs1 0xB rs2
  | .ARRAY8 rd rs1 rs2 => fmtOpf rd 0x36 rs1 0x10 rs2
  | .ARRAY16 rd rs1 rs2 => fmtOpf rd 0x36 rs1 0x12 rs2
  | .ARRAY32 rd rs1 rs2 => fmtOpf rd 0x36 rs1 0x14 rs2
  | .ALIGNADDRESS rd rs1 rs2 => fmtOpf rd 0x36 rs1 0x18 rs2
  | .BMASK rd rs1 rs2 => fmtOpf rd 0x36 rs1 0x19 rs2
  | .ALIGNADDRESS_LITTLE rd rs1 rs2 => fmtOpf rd 0x36 rs1 0x1A rs2
  | .CMASK8 rs2 => fmtOpf 0 0x36 0 0x1B rs2
  | .CMASK16 rs2 => fmtOpf 0 0x36 0 0x1D rs2
  | .CMASK32 rs2 => fmtOpf 0 0x36 0 0x1F rs2
  | .FPCMPLE16 rd rs1 rs2 => fmtOpf rd 0x36 (dregField rs1) 0x20 (dregField rs2)
  | .FSLL16 rd rs1 rs2 => fmtOpf (dregField rd) 0x36 (dregField rs1) 0x21 (dregField rs2)
  | .FPCMPNE16 rd rs1 rs2 => fmtOpf rd 0x36 (dregField rs1) 0x22 (dregField rs2)
  | .FSRL16 rd rs1 rs2 => fmtOpf (dregField rd) 0x36 (dregField rs1) 0x23 (dregField rs2)
  | .FPCMPLE32 rd rs1 rs2 => fmtOpf rd 0x36 (dregField rs1) 0x24 (dregField rs2)
  | .FSLL32 rd rs1 rs2 => fmtOpf (dregField rd) 0x36 (dregField rs1) 0x25 (dregField rs2)
  | .FPCMPNE32 rd rs1 rs2 => fmtOpf rd 0x36 (dregField rs1) 0x26 (dregField rs2)
  | .FSRL32 rd rs1 rs2 => fmtOpf (dregField rd) 0x36 (dregField rs1) 0x27 (dregField rs2)
  | .FPCMPGT16 rd rs1 rs2 => fmtOpf rd 0x36 (dregField rs1) 0x28 (dregField rs2)
  | .FSLAS16 rd rs1 rs2 => fmtOpf (dregField rd) 0x36 (dregField rs1) 0x29 (dregField rs2)
  | .FPCMPEQ16 rd rs1 rs2 => fmtOpf rd 0x36 (dregField rs1) 0x2A (dregField rs2)
  | .FSRA16 rd rs1 rs2 => fmtOpf (dregField rd) 0x36 (dregField rs1) 0x2B (dregField rs2)
  | .FPCMPGT32 rd rs1 rs2 => fmtOpf rd 0x36 (dregField rs1) 0x2C (dregField rs2)
  | .FSLAS32 rd rs1 rs2 => fmtOpf (dregField rd) 0x36 (dregField rs1) 0x2D (dregField rs2)
  | .FPCMPEQ32 rd rs1 rs2 => fmtOpf rd 0x36 (dregField rs1) 0x2E (dregField rs2)
  | .FSRA32 rd rs1 rs2 => fmtOpf (dregField rd) 0x36 (dregField rs1) 0x2F (dregField rs2)
  | .FMUL8x16 rd rs1 rs2 => fmtOpf (dregField rd) 0x36 rs1 0x31 (dregField rs2)
  | .FMUL8x16AU rd rs1 rs2 => fmtOpf (dregField rd) 0x36 rs1 0x33 rs2
  | .FPCMPLE8 rd rs1 rs2 => fmtOpf rd 0x36 (dregField rs1) 0x34 (dregField rs2)
  | .FMUL8x16AL rd rs1 rs2 => fmtOpf (dregField rd) 0x36 rs1 0x35 rs2
  | .FMUL8SUx16 rd rs1 rs2 => fmtOpf (dregField rd) 0x36 (dregField rs1) 0x36 (dregField rs2)
  | .FMUL8ULx16 rd rs1 rs2 => fmtOpf (dregField rd) 0x36 (dregField rs1) 0x37 (dregField rs2)
  | .FMULD8SUx16 rd rs1 rs2 => fmtOpf (dregField rd) 0x36 rs1 0x38 rs2
  | .FMULD8ULx16 rd rs1 rs2 => fmtOpf (dregField rd) 0x36 rs1 0x39 rs2
  | .FPACK32 rd rs1 rs2 => fmtOpf (dregField rd) 0x36 (dregField rs1) 0x3A (dregField rs2)
  | .FPACK16 rd rs2 => fmtOpf rd 0x36 0 0x3B (dregField rs2)
  | .FPCMPGT8 rd rs1 rs2 => fmtOpf rd 0x36 (dregField rs1) 0x3C (dregField rs2)
  | .FPACKFIX rd rs2 => fmtOpf rd 0x36 0 0x3D (dregField rs2)
  | .PDIST rd rs1 rs2 => fmtOpf (dregField rd) 0x36 (dregField rs1) 0x3E (dregField rs2)
  | .PDISTN rd rs1 rs2 => fmtOpf rd 0x36 (dregField rs1) 0x3F (dregField rs2)
  | .FMEAN16 rd rs1 rs2 => fmtOpf (dregField rd) 0x36 (dregField rs1) 0x40 (dregField rs2)
  | .FPADD64 rd rs1 rs2 => fmtOpf (dregField rd) 0x36 (dregField rs1) 0x42 (dregField rs2)
  | .FCHKSM16 rd rs1 rs2 => fmtOpf (dregField rd) 0x36 (dregField rs1) 0x44 (dregField rs2)
  | .FPSUB64 rd rs1 rs2 => fmtOpf (dregField rd) 0x36 (dregField rs1) 0x46 (dregField rs2)
  | .FALIGNDATAg rd rs1 rs2 => fmtOpf (dregField rd) 0x36 (dregField rs1) 0x48 (dregField rs2)
  | .FALIGNDATAi rd rs1 rs2 => fmtOpf (dregField rd) 0x36 rs1 0x49 (dregField rs2)
  | .FPMERGE rd rs1 rs2 => fmtOpf (dregField rd) 0x36 rs1 0x4B rs2
  | .BSHUFFLE rd rs1 rs2 => fmtOpf (dregField rd) 0x36 (dregField rs1) 0x4C (dregField rs2)
  | .FEXPAND rd rs2 => fmtOpf (dregField rd) 0x36 0 0x4D rs2
  | .FPADD16 rd rs1 rs2 => fmtOpf (dregField rd) 0x36 (dregField rs1) 0x50 (dregField rs2)
  | .FPADD16s rd rs1 rs2 => fmtOpf rd 0x36 rs1 0x51 rs2
  | .FPADD32 rd rs1 rs2 => fmtOpf (dregField rd) 0x36 (dregField rs1) 0x52 (dregField rs2)
  | .FPADD32s rd rs1 rs2 => fmtOpf rd 0x36 rs1 0x53 rs2
  | .FPSUB16 rd rs1 rs2 => fmtOpf (dregField rd) 0x36 (dregField rs1) 0x54 (dregField rs2)
  | .FPSUB16s rd rs1 rs2 => fmtOpf rd 0x36 rs1 0x55 rs2
  | .FPSUB32 rd rs1 rs2 => fmtOpf (dregField rd) 0x36 (dregField rs1) 0x56 (dregField rs2)
  | .FPSUB32s rd rs1 rs2 => fmtOpf rd 0x36 rs1 0x57 rs2
  | .FPADDS16 rd rs1 rs2 => fmtOpf (dregField rd) 0x36 (dregField rs1) 0x58 (dregField rs2)
  | .FPADDS16s rd rs1 rs2 => fmtOpf rd 0x36 rs1 0x59 rs2
  | .FPADDS32 rd rs1 rs2 => fmtOpf (dregField rd) 0x36 (dregField rs1) 0x5A (dregField rs2)
  | .FPADDS32s rd rs1 rs2 => fmtOpf rd 0x36 rs1 0x5B rs2
  | .FPSUBS16 rd rs1 rs2 => fmtOpf (dregField rd) 0x36 (dregField rs1) 0x5C (dregField rs2)
  | .FPSUBS16s rd rs1 rs2 => fmtOpf rd 0x36 rs1 0x5D rs2
  | .FPSUBS32 rd rs1 rs2 => fmtOpf (dregField rd) 0x36 (dregField rs1) 0x5E (dregField rs2)
  | .FPSUBS32s rd rs1 rs2 => fmtOpf rd 0x36 rs1 0x5F rs2
  | .FZEROd rd => fmtOpf (dregField rd) 0x36 0 0x60 0
  | .FZEROs rd => fmtOpf rd 0x36 0 0x61 0
  | .FNORd rd rs1 rs2 => fmtOpf (dregField rd) 0x36 (dregField rs1) 0x62 (dregField rs2)
  | .FNORs rd rs1 rs2 => fmtOpf rd 0x36 rs1 0x63 rs2
  | .FANDNOT2d rd rs1 rs2 => fmtOpf (dregField rd) 0x36 (dregField rs1) 0x64 (dregField rs2)
  | .FANDNOT2s rd rs1 rs2 => fmtOpf rd 0x36 rs1 0x65 rs2
  | .FNOT2d rd rs2 => fmtOpf (dregField rd) 0x36 0 0x66 (dregField rs2)
  | .FNOT2s rd rs2 => fmtOpf rd 0x36 0 0x67 rs2
  | .FANDNOT1d rd rs1 rs2 => fmtOpf (dregField rd) 0x36 (dregField rs1) 0x68 (dregField rs2)
  | .FANDNOT1s rd rs1 rs2 => fmtOpf rd 0x36 rs1 0x69 rs2
  | .FNOT1d rd rs1 => fmtOpf (dregField rd) 0x36 (dregField rs1) 0x6A 0
  | .FNOT1s rd rs1 => fmtOpf rd 0x36 rs1 0x6B 0
  | .FXORd rd rs1 rs2 => fmtOpf (dregField rd) 0x36 (dregField rs1) 0x6C (dregField rs2)
  | .FXORs rd rs1 rs2 => fmtOpf rd 0x36 rs1 0x6D rs2
  | .FNANDd rd rs1 rs2 => fmtOpf (dregField rd) 0x36 (dregField rs1) 0x6E (dregField rs2)
  | .FNANDs rd rs1 rs2 => fmtOpf rd 0x36 rs1 0x6F rs2
  | .FANDd rd rs1 rs2 => fmtOpf (dregField rd) 0x36 (dregField rs1) 0x70 (dregField rs2)
  | .FANDs rd rs1 rs2 => fmtOpf rd 0x36 rs1 0x71 rs2
  | .FXNORd rd rs1 rs2 => fmtOpf (dregField rd) 0x36 (dregField rs1) 0x72 (dregField rs2)
  | .FXNORs rd rs1 rs2 => fmtOpf rd 0x36 rs1 0x73 rs2
  | .FSRC1d rd rs1 => fmtOpf (dregField rd) 0x36 (dregField rs1) 0x74 0
  | .FSRC1s rd rs1 => fmtOpf rd 0x36 rs1 0x75 0
  | .FORNOT2d rd rs1 rs2 => fmtOpf (dregField rd) 0x36 (dregField rs1) 0x76 (dregField rs2)
  | .FORNOT2s rd rs1 rs2 => fmtOpf rd 0x36 rs1 0x77 rs2
  | .FSRC2d rd rs2 => fmtOpf (dregField rd) 0x36 0 0x78 (dregField rs2)
  | .FSRC2s rd rs2 => fmtOpf rd 0x36 0 0x79 rs2
  | .FORNOT1d rd rs1 rs2 => fmtOpf (dregField rd) 0x36 (dregField rs1) 0x7A (dregField rs2)
  | .FORNOT1s rd rs1 rs2 => fmtOpf rd 0x36 rs1 0x7B rs2
  | .FORd rd rs1 rs2 => fmtOpf (dregField rd) 0x36 (dregField rs1) 0x7C (dregField rs2)
  | .FORs rd rs1 rs2 => fmtOpf rd 0x36 rs1 0x7D rs2
  | .FONEd rd => fmtOpf (dregField rd) 0x36 0 0x7E 0
  | .FONEs rd => fmtOpf rd 0x36 0 0x7F 0
  | .MOVdTOx rd rs2 => fmtOpf rd 0x36 0 0x110 (dregField rs2)
  | .MOVsTOuw rd rs2 => fmtOpf rd 0x36 0 0x111 rs2
  | .MOVsTOsw rd rs2 => fmtOpf rd 0x36 0 0x113 rs2
  | .MOVxTOd rd rs2 => fmtOpf (dregField rd) 0x36 0 0x118 rs2
  | .MOVwTOs rd rs2 => fmtOpf rd 0x36 0 0x119 rs2
  | .FPMIN8 rd rs1 rs2 => fmtOpf (dregField rd) 0x36 (dregField rs1) 0x11A (dregField rs2)
  | .FPMIN16 rd rs1 rs2 => fmtOpf (dregField rd) 0x36 (dregField rs1) 0x11B (dregField rs2)
  | .FPMIN32 rd rs1 rs2 => fmtOpf (dregField rd) 0x36 (dregField rs1) 0x11C (dregField rs2)
  | .FPMAX8 rd rs1 rs2 => fmtOpf (dregField rd) 0x36 (dregField rs1) 0x11D (dregField rs2)
  | .FPMAX16 rd rs1 rs2 => fmtOpf (dregField rd) 0x36 (dregField rs1) 0x11E (dregField rs2)
  | .FPMAX32 rd rs1 rs2 => fmtOpf (dregField rd) 0x36 (dregField rs1) 0x11F (dregField rs2)
  | .FPCMPULE8 rd rs1 rs2 => fmtOpf rd 0x36 (dregField rs1) 0x120 (dregField rs2)
  | .FPCMPNE8 rd rs1 rs2 => fmtOpf rd 0x36 (dregField rs1) 0x122 (dregField rs2)
  | .FPADDUS16 rd rs1 rs2 => fmtOpf (dregField rd) 0x36 (dregField rs1) 0x123 (dregField rs2)
  | .FPADD8 rd rs1 rs2 => fmtOpf (dregField rd) 0x36 (dregField rs1) 0x124 (dregField rs2)
  | .FPADDS8 rd rs1 rs2 => fmtOpf (dregField rd) 0x36 (dregField rs1) 0x126 (dregField rs2)
  | .FPADDUS8 rd rs1 rs2 => fmtOpf (dregField rd) 0x36 (dregField rs1) 0x127 (dregField rs2)
  | .FPCMPUGT8 rd rs1 rs2 => fmtOpf rd 0x36 (dregField rs1) 0x128 (dregField rs2)
  | .FPCMPEQ8 rd rs1 rs2 => fmtOpf rd 0x36 (dregField rs1) 0x12A (dregField rs2)
  | .FPCMPUGT16 rd rs1 rs2 => fmtOpf rd 0x36 (dregField rs1) 0x12B (dregField rs2)
  | .FPCMPUGT32 rd rs1 rs2 => fmtOpf rd 0x36 (dregField rs1) 0x12C (dregField rs2)
  | .FPCMPULE16 rd rs1 rs2 => fmtOpf rd 0x36 (dregField rs1) 0x12E (dregField rs2)
  | .FPCMPULE32 rd rs1 rs2 => fmtOpf rd 0x36 (dregField rs1) 0x12F (dregField rs2)
  | .FPSUBUS16 rd rs1 rs2 => fmtOpf (dregField rd) 0x36 (dregField rs1) 0x153 (dregField rs2)
  | .FPSUB8 rd rs1 rs2 => fmtOpf (dregField rd) 0x36 (dregField rs1) 0x154 (dregField rs2)
  | .FPSUBS8 rd rs1 rs2 => fmtOpf (dregField rd) 0x36 (dregField rs1) 0x156 (dregField rs2)
  | .FPSUBUS8 rd rs1 rs2 => fmtOpf (dregField rd) 0x36 (dregField rs1) 0x157 (dregField rs2)
  | .FPMINU8 rd rs1 rs2 => fmtOpf (dregField rd) 0x36 (dregField rs1) 0x15A (dregField rs2)
  | .FPMINU16 rd rs1 rs2 => fmtOpf (dregField rd) 0x36 (dregField rs1) 0x15B (dregField rs2)
  | .FPMINU32 rd rs1 rs2 => fmtOpf (dregField rd) 0x36 (dregField rs1) 0x15C (dregField rs2)
  | .FPMAXU8 rd rs1 rs2 => fmtOpf (dregField rd) 0x36 (dregField rs1) 0x15D (dregField rs2)
  | .FPMAXU16 rd rs1 rs2 => fmtOpf (dregField rd) 0x36 (dregField rs1) 0x15E (dregField rs2)
  | .FPMAXU32 rd rs1 rs2 => fmtOpf (dregField rd) 0x36 (dregField rs1) 0x15F (dregField rs2)
  | .FPMADDX rd rs1 rs2 rs3 => fmt5 (dregField rd) 0x37 (dregField rs1) (dregField rs3) 0x0 (dregField rs2)
  | .FPMADDXHI rd rs1 rs2 rs3 => fmt5 (dregField rd) 0x37 (dregField rs1) (dregField rs3) 0x4 (dregField rs2)
  | .AES_KEXPAND0 rd rs1 rs2 => fmtOpf (dregField rd) 0x36 (dregField rs1) 0x130 (dregField rs2)
  | .AES_KEXPAND2 rd rs1 rs2 => fmtOpf (dregField rd) 0x36 (dregField rs1) 0x131 (dregField rs2)
  | .DES_IP rd rs1 => fmtOpf (dregField rd) 0x36 (dregField rs1) 0x134 0
  | .DES_IIP rd rs1 => fmtOpf (dregField rd) 0x36 (dregField rs1) 0x135 0
  | .DES_KEXPAND rd rs1 imm5 => fmtOpf (dregField rd) 0x36 (dregField rs1) 0x136 imm5
  | .CAMELLIA_FL rd rs1 rs2 => fmtOpf (dregField rd) 0x36 (dregField rs1) 0x13C (dregField rs2)
  | .CAMELLIA_FLI rd rs1 rs2 => fmtOpf (dregField rd) 0x36 (dregField rs1) 0x13D (dregField rs2)
  | .MD5 => 0x81B02800#32
  | .SHA1 => 0x81B02820#32
  | .SHA256 => 0x81B02840#32
  | .SHA512 => 0x81B02860#32
  | .CRC32C rd rs1 rs2 => fmtOpf (dregField rd) 0x36 (dregField rs1) 0x147 (dregField rs2)
  | .MPMUL imm5 => fmtOpf 0 0x36 0 0x148 imm5
  | .XMPMUL imm5 => fmtOpf 1 0x36 0 0x148 imm5
  | .MONTMUL imm5 => fmtOpf 0 0x36 0 0x149 imm5
  | .XMONTMUL imm5 => fmtOpf 1 0x36 0 0x149 imm5
  | .MONTSQR imm5 => fmtOpf 0 0x36 0 0x14A imm5
  | .XMONTSQR imm5 => fmtOpf 1 0x36 0 0x14A imm5
  | .AES_EROUND01 rd rs1 rs2 rs3 => fmt5 (dregField rd) 0x19 (dregField rs1) (dregField rs3) 0x0 (dregField rs2)
  | .AES_EROUND23 rd rs1 rs2 rs3 => fmt5 (dregField rd) 0x19 (dregField rs1) (dregField rs3) 0x1 (dregField rs2)
  | .AES_DROUND01 rd rs1 rs2 rs3 => fmt5 (dregField rd) 0x19 (dregField rs1) (dregField rs3) 0x2 (dregField rs2)
  | .AES_DROUND23 rd rs1 rs2 rs3 => fmt5 (dregField rd) 0x19 (dregField rs1) (dregField rs3) 0x3 (dregField rs2)
  | .AES_EROUND01_LAST rd rs1 rs2 rs3 => fmt5 (dregField rd) 0x19 (dregField rs1) (dregField rs3) 0x4 (dregField rs2)
  | .AES_EROUND23_LAST rd rs1 rs2 rs3 => fmt5 (dregField rd) 0x19 (dregField rs1) (dregField rs3) 0x5 (dregField rs2)
  | .AES_DROUND01_LAST rd rs1 rs2 rs3 => fmt5 (dregField rd) 0x19 (dregField rs1) (dregField rs3) 0x6 (dregField rs2)
  | .AES_DROUND23_LAST rd rs1 rs2 rs3 => fmt5 (dregField rd) 0x19 (dregField rs1) (dregField rs3) 0x7 (dregField rs2)
  | .DES_ROUND rd rs1 rs2 rs3 => fmt5 (dregField rd) 0x19 (dregField rs1) (dregField rs3) 0x9 (dregField rs2)
  | .CAMELLIA_F rd rs1 rs2 rs3 => fmt5 (dregField rd) 0x19 (dregField rs1) (dregField rs3) 0xC (dregField rs2)
  | .AES_KEXPAND1 rd rs1 rs2 imm5 => fmt5 (dregField rd) 0x19 (dregField rs1) imm5 0x8 (dregField rs2)

end Sys2Proof
end

