-- ==== Sys2Proof/Machine/CryptoPrimitives.lean ====
section
/-!
DEFINITION. The functions of external standards that the cryptographic instructions name (spec file 48, R498 to
R517). The spec supplies them from general knowledge of the standards (log entry 13).
-/

namespace Sys2Proof.Machine

open Sys2Proof

/-! ## Bytes (R498) -/

/-- Byte `i` of `x`, byte 0 the most significant (R498). -/
def byteAt {n : Nat} (x : BitVec n) (i : Nat) : Byte := field x (n - 8 - 8 * i) 8

/-- The bytes of `x`, the most significant first (R498). -/
def bytesOf {n : Nat} (x : BitVec n) : List Byte := (List.range (n / 8)).map (byteAt x)

/-- The number whose digits to the base 2^w are the words of a list, the most significant first. -/
def joinWords {w : Nat} (n : Nat) (l : List (BitVec w)) : BitVec n :=
  BitVec.ofNat n (l.foldl (fun acc x => acc * 2 ^ w + x.toNat) 0)

/-- The `count` words of width `w` of `x`, the most significant first. -/
def splitWords {n : Nat} (w count : Nat) (x : BitVec n) : List (BitVec w) :=
  (List.range count).map fun i => field x (n - w - w * i) w

/-- The entry `x` of a table of 256 bytes, given as sixteen rows of sixteen bytes. -/
def tableByte (rows : List Word128) (x : Byte) : Byte := byteAt (rows.getD (x.toNat / 16) 0) (x.toNat % 16)

/-! ## AES (R499 to R504) -/

/-- SBOX (R500), sixteen entries a row. -/
def aesSbox : List Word128 :=
  [0x637C777BF26B6FC53001672BFED7AB76, 0xCA82C97DFA5947F0ADD4A2AF9CA472C0]
  ++ [0xB7FD9326363FF7CC34A5E5F171D83115, 0x04C723C31896059A071280E2EB27B275]
  ++ [0x09832C1A1B6E5AA0523BD6B329E32F84, 0x53D100ED20FCB15B6ACBBE394A4C58CF]
  ++ [0xD0EFAAFB434D338545F9027F503C9FA8, 0x51A3408F929D38F5BCB6DA2110FFF3D2]
  ++ [0xCD0C13EC5F974417C4A77E3D645D1973, 0x60814FDC222A908846EEB814DE5E0BDB]
  ++ [0xE0323A0A4906245CC2D3AC629195E479, 0xE7C8376D8DD54EA96C56F4EA657AAE08]
  ++ [0xBA78252E1CA6B4C6E8DD741F4BBD8B8A, 0x703EB5664803F60E613557B986C11D9E]
  ++ [0xE1F8981169D98E949B1E87E9CE5528DF, 0x8CA1890DBFE6426841992D0FB054BB16]

/-- INV_SBOX (R500), sixteen entries a row. -/
def aesInvSbox : List Word128 :=
  [0x52096AD53036A538BF40A39E81F3D7FB, 0x7CE339829B2FFF87348E4344C4DEE9CB]
  ++ [0x547B9432A6C2233DEE4C950B42FAC34E, 0x082EA16628D924B2765BA2496D8BD125]
  ++ [0x72F8F66486689816D4A45CCC5D65B692, 0x6C704850FDEDB9DA5E154657A78D9D84]
  ++ [0x90D8AB008CBCD30AF7E45805B8B34506, 0xD02C1E8FCA3F0F02C1AFBD0301138A6B]
  ++ [0x3A9111414F67DCEA97F2CFCEF0B4E673, 0x96AC7422E7AD3585E2F937E81C75DF6E]
  ++ [0x47F11A711D29C5896FB7620EAA18BE1B, 0xFC563E4BC6D279209ADBC0FE78CD5AF4]
  ++ [0x1FDDA8338807C731B11210592780EC5F, 0x60517FA919B54A0D2DE57A9F93C99CEF]
  ++ [0xA0E03B4DAE2AF5B0C8EBBB3C83539961, 0x172B047EBA77D626E169146355210C7D]

/-- Multiplication by x in GF(2^8) (R499). -/
def xtime (b : Byte) : Byte := if bit b 7 then b <<< 1 ^^^ 0x1B else b <<< 1

/-- Multiplication in GF(2^8) (R499): `k` bits of `b` remain. -/
def gmulBits (a b : Byte) : Nat → Byte
  | 0 => 0
  | k + 1 => (if bit b 0 then a else 0) ^^^ gmulBits (xtime a) (b >>> 1) k

/-- Multiplication in GF(2^8) (R499). -/
def gmul (a b : Byte) : Byte := gmulBits a b 8

/-- SubBytes on any number of bytes (R501). -/
def subBytes (l : List Byte) : List Byte := l.map (tableByte aesSbox)

/-- InvSubBytes (R501). -/
def invSubBytes (l : List Byte) : List Byte := l.map (tableByte aesInvSbox)

/-- ShiftRows on the sixteen bytes of a state (R502). -/
def shiftRows (l : List Byte) : List Byte :=
  (List.range 16).map fun i => l.getD (i % 4 + 4 * ((i / 4 + i % 4) % 4)) 0

/-- InvShiftRows (R502). -/
def invShiftRows (l : List Byte) : List Byte :=
  (List.range 16).map fun i => l.getD (i % 4 + 4 * ((i / 4 + 4 - i % 4) % 4)) 0

/-- One column times the circulant matrix whose first row is `m0 m1 m2 m3` (R503). -/
def mixColumn (m0 m1 m2 m3 a0 a1 a2 a3 : Byte) : List Byte :=
  [gmul m0 a0 ^^^ gmul m1 a1 ^^^ gmul m2 a2 ^^^ gmul m3 a3,
   gmul m3 a0 ^^^ gmul m0 a1 ^^^ gmul m1 a2 ^^^ gmul m2 a3,
   gmul m2 a0 ^^^ gmul m3 a1 ^^^ gmul m0 a2 ^^^ gmul m1 a3,
   gmul m1 a0 ^^^ gmul m2 a1 ^^^ gmul m3 a2 ^^^ gmul m0 a3]

/-- MixColumns on any number of columns (R503). -/
def mixColumns : List Byte → List Byte
  | a0 :: a1 :: a2 :: a3 :: l => mixColumn 2 3 1 1 a0 a1 a2 a3 ++ mixColumns l
  | _ => []

/-- InvMixColumns on any number of columns (R503). -/
def invMixColumns : List Byte → List Byte
  | a0 :: a1 :: a2 :: a3 :: l => mixColumn 0x0E 0x0B 0x0D 0x09 a0 a1 a2 a3 ++ invMixColumns l
  | _ => []

/-- RotWord (R504). -/
def rotWord (w : Word32) : Word32 := w.rotateLeft 8

/-- SubBytes on a word (R501). -/
def subWord (w : Word32) : Word32 := joinWords 32 (subBytes (bytesOf w))

/-- The two columns of a state that the "01" (`first`) and the "23" instructions take (R418, R419). -/
def columns (first : Bool) (l : List Byte) : List Byte := if first then l.take 8 else l.drop 8

/-- An encryption round on the columns chosen by `first` (R418, R419, R422, R423). -/
def aesEncrypt (first last : Bool) (key hi lo : Word64) : Word64 :=
  let sr := shiftRows (subBytes (bytesOf (hi ++ lo)))
  joinWords 64 (columns first (if last then sr else mixColumns sr)) ^^^ key

/-- A decryption round on the columns chosen by `first` (R420, R421, R424, R425). -/
def aesDecrypt (first last : Bool) (key hi lo : Word64) : Word64 :=
  let sb := invSubBytes (invShiftRows (bytesOf (hi ++ lo)))
  let ark : Word64 := joinWords 64 (columns first sb) ^^^ key
  if last then ark else joinWords 64 (invMixColumns (bytesOf ark))

/-- rcon (R426). -/
def rcon (imm5 : BitVec 5) : Word32 :=
  if imm5.toNat < 8 then 0x01000000 <<< imm5.toNat
  else if imm5 = 8 then 0x1B000000 else if imm5 = 9 then 0x36000000 else 0

/-- The two words of key material from the first word `x` of the step (R426 to R428). -/
def keyStep (x : Word32) (key : Word64) : Word64 :=
  let hi := x ^^^ field key 32 32
  hi ++ (hi ^^^ field key 0 32)

/-! ## Camellia (R505 to R507) -/

/-- SBOX1 (R505), sixteen entries a row. -/
def camelliaSbox : List Word128 :=
  [0x70822CECB327C0E5E4855735EA0CAE41, 0x23EF6B934519A521ED0E4F4E1D6592BD]
  ++ [0x86B8AF8F7CEB1FCE3E30DC5F5EC50B1A, 0xA6E139CAD5475D3DD9015AD651566C4D]
  ++ [0x8B0D9A66FBCCB02D74122B20F0B18499, 0xDF4CCBC2347E76056DB7A931D11704D7]
  ++ [0x14583A61DE1B111C320F9C165318F222, 0xFE44CFB2C3B57A912408E8A860FC6950]
  ++ [0xAAD0A07DA1896297545B1E95E0FF64D2, 0x10C40048A3F775DB8A03E6DA093FDD94]
  ++ [0x875C8302CD4A90337367F6F39D7FBFE2, 0x529BD826C837C63B81966F4B13BE632E]
  ++ [0xE979A78C9F6EBC8E29F5F9B62FFDB459, 0x7898066AE74671BAD425AB4288A28DFA]
  ++ [0x7207B955F8EEAC0A36492A683C38F1A4, 0x4028D37BBBC943C115E3ADF477C7809E]

/-- SBOX1 (R505). -/
def camelliaS1 (x : Byte) : Byte := tableByte camelliaSbox x

/-- SBOX2 (R505). -/
def camelliaS2 (x : Byte) : Byte := (camelliaS1 x).rotateLeft 1

/-- SBOX3 (R505). -/
def camelliaS3 (x : Byte) : Byte := (camelliaS1 x).rotateLeft 7

/-- SBOX4 (R505). -/
def camelliaS4 (x : Byte) : Byte := camelliaS1 (x.rotateLeft 1)

/-- camellia_F (R506). -/
def camelliaF (data key : Word64) : Word64 :=
  let x := data ^^^ key
  let t1 := camelliaS1 (byteAt x 0)
  let t2 := camelliaS2 (byteAt x 1)
  let t3 := camelliaS3 (byteAt x 2)
  let t4 := camelliaS4 (byteAt x 3)
  let t5 := camelliaS2 (byteAt x 4)
  let t6 := camelliaS3 (byteAt x 5)
  let t7 := camelliaS4 (byteAt x 6)
  let t8 := camelliaS1 (byteAt x 7)
  (t1 ^^^ t3 ^^^ t4 ^^^ t6 ^^^ t7 ^^^ t8) ++ (t1 ^^^ t2 ^^^ t4 ^^^ t5 ^^^ t7 ^^^ t8)
    ++ (t1 ^^^ t2 ^^^ t3 ^^^ t5 ^^^ t6 ^^^ t8) ++ (t2 ^^^ t3 ^^^ t4 ^^^ t5 ^^^ t6 ^^^ t7)
    ++ (t1 ^^^ t2 ^^^ t6 ^^^ t7 ^^^ t8) ++ (t2 ^^^ t3 ^^^ t5 ^^^ t7 ^^^ t8)
    ++ (t3 ^^^ t4 ^^^ t5 ^^^ t6 ^^^ t8) ++ (t1 ^^^ t4 ^^^ t5 ^^^ t6 ^^^ t7)

/-- camellia_FL (R507). -/
def camelliaFL (data key : Word64) : Word64 :=
  let x1 := field data 32 32
  let x2 := field data 0 32 ^^^ (x1 &&& field key 32 32).rotateLeft 1
  (x1 ^^^ (x2 ||| field key 0 32)) ++ x2

/-- camellia_FLI (R507). -/
def camelliaFLI (data key : Word64) : Word64 :=
  let y1 := field data 32 32 ^^^ (field data 0 32 ||| field key 0 32)
  y1 ++ (field data 0 32 ^^^ (y1 &&& field key 32 32).rotateLeft 1)

/-! ## DES (R508 to R511) -/

/-- The permutation operator: DES bit `i` of the result is DES bit `T[i]` of `v` (R508). -/
def permute {n : Nat} (m : Nat) (table : List Nat) (v : BitVec n) : BitVec m :=
  BitVec.ofNat m (table.foldl (fun acc t => 2 * acc + (bit v (n - t)).toNat) 0)

/-- IP_T (R508). -/
def desIpTable : List Nat :=
  [58, 50, 42, 34, 26, 18, 10, 2]
  ++ [60, 52, 44, 36, 28, 20, 12, 4]
  ++ [62, 54, 46, 38, 30, 22, 14, 6]
  ++ [64, 56, 48, 40, 32, 24, 16, 8]
  ++ [57, 49, 41, 33, 25, 17, 9, 1]
  ++ [59, 51, 43, 35, 27, 19, 11, 3]
  ++ [61, 53, 45, 37, 29, 21, 13, 5]
  ++ [63, 55, 47, 39, 31, 23, 15, 7]

/-- FP_T (R508). -/
def desFpTable : List Nat :=
  [40, 8, 48, 16, 56, 24, 64, 32]
  ++ [39, 7, 47, 15, 55, 23, 63, 31]
  ++ [38, 6, 46, 14, 54, 22, 62, 30]
  ++ [37, 5, 45, 13, 53, 21, 61, 29]
  ++ [36, 4, 44, 12, 52, 20, 60, 28]
  ++ [35, 3, 43, 11, 51, 19, 59, 27]
  ++ [34, 2, 42, 10, 50, 18, 58, 26]
  ++ [33, 1, 41, 9, 49, 17, 57, 25]

/-- E_T (R509). -/
def desETable : List Nat :=
  [32, 1, 2, 3, 4, 5]
  ++ [4, 5, 6, 7, 8, 9]
  ++ [8, 9, 10, 11, 12, 13]
  ++ [12, 13, 14, 15, 16, 17]
  ++ [16, 17, 18, 19, 20, 21]
  ++ [20, 21, 22, 23, 24, 25]
  ++ [24, 25, 26, 27, 28, 29]
  ++ [28, 29, 30, 31, 32, 1]

/-- P_T (R509). -/
def desPTable : List Nat :=
  [16, 7, 20, 21, 29, 12, 28, 17]
  ++ [1, 15, 23, 26, 5, 18, 31, 10]
  ++ [2, 8, 24, 14, 32, 27, 3, 9]
  ++ [19, 13, 30, 6, 22, 11, 4, 25]

/-- PC1_T (R510). -/
def desPc1Table : List Nat :=
  [57, 49, 41, 33, 25, 17, 9, 1]
  ++ [58, 50, 42, 34, 26, 18, 10, 2]
  ++ [59, 51, 43, 35, 27, 19, 11, 3]
  ++ [60, 52, 44, 36, 63, 55, 47, 39]
  ++ [31, 23, 15, 7, 62, 54, 46, 38]
  ++ [30, 22, 14, 6, 61, 53, 45, 37]
  ++ [29, 21, 13, 5, 28, 20, 12, 4]

/-- PC2_T (R510). -/
def desPc2Table : List Nat :=
  [14, 17, 11, 24, 1, 5]
  ++ [3, 28, 15, 6, 21, 10]
  ++ [23, 19, 12, 4, 26, 8]
  ++ [16, 7, 27, 20, 13, 2]
  ++ [41, 52, 31, 37, 47, 55]
  ++ [30, 40, 51, 45, 33, 48]
  ++ [44, 49, 39, 56, 34, 53]
  ++ [46, 42, 50, 36, 29, 32]

/-- S1 to S8 (R509): for each its four rows, one hexadecimal digit a column. -/
def desSboxes : List Word64 :=
  [0xE4D12FB83A6C5907, 0x0F74E2D1A6CB9538, 0x41E8D62BFC973A50, 0xFC8249175B3EA06D]
  ++ [0xF18E6B34972DC05A, 0x3D47F28EC01A69B5, 0x0E7BA4D158C6932F, 0xD8A13F42B67C05E9]
  ++ [0xA09E63F51DC7B428, 0xD709346A285ECBF1, 0xD6498F30B12C5AE7, 0x1AD069874FE3B52C]
  ++ [0x7DE3069A1285BC4F, 0xD8B56F03472C1AE9, 0xA690CB7DF13E5284, 0x3F06A1D8945BC72E]
  ++ [0x2C417AB6853FD0E9, 0xEB2C47D150FA3986, 0x421BAD78F9C5630E, 0xB8C71E2D6F09A453]
  ++ [0xC1AF92680D34E75B, 0xAF427C9561DE0B38, 0x9EF528C3704A1DB6, 0x432C95FABE17608D]
  ++ [0x4B2EF08D3C975A61, 0xD0B7491AE35C2F86, 0x14BDC37EAF680592, 0x6BD814A7950FE23C]
  ++ [0xD2846FB1A93E50C7, 0x1FD8A374C56B0E92, 0x7B419CE206ADF358, 0x21E74A8DFC90356B]

/-- S_{i+1} of six bits (R509). -/
def desSbox (i : Nat) (b : BitVec 6) : BitVec 4 :=
  let row := (flag (bit b 5) ++ flag (bit b 0)).toNat
  field (desSboxes.getD (4 * i + row) 0) (60 - 4 * (field b 1 4).toNat) 4

/-- des_f (R509). -/
def desF (r : Word32) (k : BitVec 48) : Word32 :=
  let x : BitVec 48 := permute 48 desETable r ^^^ k
  permute 32 desPTable (joinWords 32 ((List.range 8).map fun i => desSbox i (field x (42 - 6 * i) 6)))

/-- des_pc1 (R510). -/
def desPc1 (key : Word64) : BitVec 56 := permute 56 desPc1Table key

/-- des_pc2 (R510). -/
def desPc2 (cd : BitVec 56) : BitVec 48 := permute 48 desPc2Table cd

/-- One round on L :: R with the shifted key C :: D (R511). -/
def desRound (key text : Word64) : Word64 :=
  let r := field text 0 32
  r ++ (field text 32 32 ^^^ desF r (desPc2 (field key 0 56)))

/-- des_two_rounds (R511). -/
def desTwoRounds (k1 k2 text : Word64) : Word64 := desRound k2 (desRound k1 text)

/-- Both 28-bit halves of C :: D rotated left by `n` (R436). -/
def desRotate (cd : BitVec 56) (n : Nat) : Word64 :=
  zext64 ((field cd 28 28).rotateLeft n ++ (field cd 0 28).rotateLeft n)

/-! ## MD5 (R512, R513) -/

/-- The bytes of a word in reverse order, `le32` of R512. -/
def byteReverse (w : Word32) : Word32 := joinWords 32 (bytesOf w).reverse

/-- Constants that repeat with period 4. -/
def everyFourth (a b c d i : Nat) : Nat := if i % 4 = 0 then a else if i % 4 = 1 then b else if i % 4 = 2 then c else d

/-- The shift amount of MD5 step `i` (R513). -/
def md5Shift (i : Nat) : Nat :=
  if i < 16 then everyFourth 7 12 17 22 i
  else if i < 32 then everyFourth 5 9 14 20 i
  else if i < 48 then everyFourth 4 11 16 23 i
  else everyFourth 6 10 15 21 i

/-- The message word of MD5 step `i` (R513). -/
def md5Index (i : Nat) : Nat :=
  if i < 16 then i else if i < 32 then (5 * i + 1) % 16 else if i < 48 then (3 * i + 5) % 16 else 7 * i % 16

/-- The function of MD5 step `i` (R513). -/
def md5Function (i : Nat) (b c d : Word32) : Word32 :=
  if i < 16 then (b &&& c) ||| (~~~b &&& d)
  else if i < 32 then (d &&& b) ||| (~~~d &&& c)
  else if i < 48 then b ^^^ c ^^^ d
  else c ^^^ (b ||| ~~~d)

/-- T[0..63] of MD5 (R513). -/
def md5Constants : List Word32 :=
  [0xD76AA478, 0xE8C7B756, 0x242070DB, 0xC1BDCEEE, 0xF57C0FAF, 0x4787C62A, 0xA8304613, 0xFD469501]
  ++ [0x698098D8, 0x8B44F7AF, 0xFFFF5BB1, 0x895CD7BE, 0x6B901122, 0xFD987193, 0xA679438E, 0x49B40821]
  ++ [0xF61E2562, 0xC040B340, 0x265E5A51, 0xE9B6C7AA, 0xD62F105D, 0x02441453, 0xD8A1E681, 0xE7D3FBC8]
  ++ [0x21E1CDE6, 0xC33707D6, 0xF4D50D87, 0x455A14ED, 0xA9E3E905, 0xFCEFA3F8, 0x676F02D9, 0x8D2A4C8A]
  ++ [0xFFFA3942, 0x8771F681, 0x6D9D6122, 0xFDE5380C, 0xA4BEEA44, 0x4BDECFA9, 0xF6BB4B60, 0xBEBFBC70]
  ++ [0x289B7EC6, 0xEAA127FA, 0xD4EF3085, 0x04881D05, 0xD9D4D039, 0xE6DB99E5, 0x1FA27CF8, 0xC4AC5665]
  ++ [0xF4292244, 0x432AFF97, 0xAB9423A7, 0xFC93A039, 0x655B59C3, 0x8F0CCC92, 0xFFEFF47D, 0x85845DD1]
  ++ [0x6FA87E4F, 0xFE2CE6E0, 0xA3014314, 0x4E0811A1, 0xF7537E82, 0xBD3AF235, 0x2AD7D2BB, 0xEB86D391]

/-- The steps of MD5 from step `i` on, one for each constant (R513). -/
def md5Steps (x : List Word32) : List Word32 → Nat → Word32 → Word32 → Word32 → Word32 → List Word32
  | [], _, a, b, c, d => [a, b, c, d]
  | t :: ts, i, a, b, c, d =>
    let sum := a + md5Function i b c d + t + x.getD (md5Index i) 0
    md5Steps x ts (i + 1) d (b + sum.rotateLeft (md5Shift i)) b c

/-- MD5_block (R513); `order` takes words out of the registers and puts them back (R512). -/
def md5Block (order : Word32 → Word32) (iv : Word128) (data : BitVec 512) : Word128 :=
  let h := (splitWords 32 4 iv).map order
  let out := md5Steps ((splitWords 32 16 data).map order) md5Constants 0 (h.getD 0 0) (h.getD 1 0) (h.getD 2 0)
    (h.getD 3 0)
  joinWords 128 ((h.zipWith (· + ·) out).map order)

/-! ## SHA (R514 to R516) -/

/-- Ch (R514 to R516). -/
def shaCh {w : Nat} (x y z : BitVec w) : BitVec w := (x &&& y) ^^^ (~~~x &&& z)

/-- Maj (R514 to R516). -/
def shaMaj {w : Nat} (x y z : BitVec w) : BitVec w := (x &&& y) ^^^ (x &&& z) ^^^ (y &&& z)

/-- The function of b, c, d and the constant of SHA-1 step `t` (R514). -/
def sha1Term (t : Nat) (b c d : Word32) : Word32 :=
  if t < 20 then shaCh b c d + 0x5A827999
  else if t < 40 then (b ^^^ c ^^^ d) + 0x6ED9EBA1
  else if t < 60 then shaMaj b c d + 0x8F1BBCDC
  else (b ^^^ c ^^^ d) + 0xCA62C1D6

/-- The last `n` of the 80 steps of SHA-1; `w` is W[t] to W[t+15] (R514). -/
def sha1Steps : Nat → List Word32 → Word32 → Word32 → Word32 → Word32 → Word32 → List Word32
  | 0, _, a, b, c, d, e => [a, b, c, d, e]
  | n + 1, w, a, b, c, d, e =>
    let new := (w.getD 13 0 ^^^ w.getD 8 0 ^^^ w.getD 2 0 ^^^ w.getD 0 0).rotateLeft 1
    let sum := a.rotateLeft 5 + sha1Term (79 - n) b c d + e + w.getD 0 0
    sha1Steps n (w.tail ++ [new]) sum a (b.rotateLeft 30) c d

/-- SHA1_block (R514). -/
def sha1Block (iv : BitVec 160) (data : BitVec 512) : BitVec 160 :=
  let h := splitWords 32 5 iv
  joinWords 160 (h.zipWith (· + ·) (sha1Steps 80 (splitWords 32 16 data) (h.getD 0 0) (h.getD 1 0) (h.getD 2 0)
    (h.getD 3 0) (h.getD 4 0)))

/-- The rotations of the SHA-2 functions: three rotations, or two and a shift (R515, R516). -/
structure Sha2Sigma where
  r1 : Nat
  r2 : Nat
  r3 : Nat
deriving DecidableEq, Repr

/-- BSIG (R515, R516). -/
def Sha2Sigma.big {w : Nat} (k : Sha2Sigma) (x : BitVec w) : BitVec w :=
  x.rotateRight k.r1 ^^^ x.rotateRight k.r2 ^^^ x.rotateRight k.r3

/-- SSIG (R515, R516). -/
def Sha2Sigma.small {w : Nat} (k : Sha2Sigma) (x : BitVec w) : BitVec w :=
  x.rotateRight k.r1 ^^^ x.rotateRight k.r2 ^^^ x >>> k.r3

/-- The four functions of one SHA-2 hash. -/
structure Sha2Functions where
  bsig0 : Sha2Sigma
  bsig1 : Sha2Sigma
  ssig0 : Sha2Sigma
  ssig1 : Sha2Sigma
deriving DecidableEq, Repr

/-- The functions of SHA-256 (R515). -/
def sha256Functions : Sha2Functions := ⟨⟨2, 13, 22⟩, ⟨6, 11, 25⟩, ⟨7, 18, 3⟩, ⟨17, 19, 10⟩⟩

/-- The functions of SHA-512 (R516). -/
def sha512Functions : Sha2Functions := ⟨⟨28, 34, 39⟩, ⟨14, 18, 41⟩, ⟨1, 8, 7⟩, ⟨19, 61, 6⟩⟩

/-- The eight working variables of a SHA-2 hash. -/
structure Sha2Vars (w : Nat) where
  a : BitVec w
  b : BitVec w
  c : BitVec w
  d : BitVec w
  e : BitVec w
  f : BitVec w
  g : BitVec w
  h : BitVec w
deriving DecidableEq, Repr

/-- One step (R515, R516). -/
def sha2Step {w : Nat} (fs : Sha2Functions) (k m : BitVec w) (v : Sha2Vars w) : Sha2Vars w :=
  let t1 := v.h + fs.bsig1.big v.e + shaCh v.e v.f v.g + k + m
  let t2 := fs.bsig0.big v.a + shaMaj v.a v.b v.c
  ⟨t1 + t2, v.a, v.b, v.c, v.d + t1, v.e, v.f, v.g⟩

/-- The steps of a SHA-2 hash, one for each constant; `m` is W[t] to W[t+15] (R515, R516). -/
def sha2Steps {w : Nat} (fs : Sha2Functions) : List (BitVec w) → List (BitVec w) → Sha2Vars w → List (BitVec w)
  | [], _, v => [v.a, v.b, v.c, v.d, v.e, v.f, v.g, v.h]
  | k :: ks, m, v =>
    let new := fs.ssig1.small (m.getD 14 0) + m.getD 9 0 + fs.ssig0.small (m.getD 1 0) + m.getD 0 0
    sha2Steps fs ks (m.tail ++ [new]) (sha2Step fs k (m.getD 0 0) v)

/-- The block function of a SHA-2 hash with words of `w` bits on the words of IV and Data (R515, R516). -/
def sha2Block {w : Nat} (fs : Sha2Functions) (ks h m : List (BitVec w)) : List (BitVec w) :=
  h.zipWith (· + ·) (sha2Steps fs ks m
    ⟨h.getD 0 0, h.getD 1 0, h.getD 2 0, h.getD 3 0, h.getD 4 0, h.getD 5 0, h.getD 6 0, h.getD 7 0⟩)

/-- K[0..63] of SHA-256 (R515). -/
def sha256Constants : List Word32 :=
  [0x428A2F98, 0x71374491, 0xB5C0FBCF, 0xE9B5DBA5, 0x3956C25B, 0x59F111F1, 0x923F82A4, 0xAB1C5ED5]
  ++ [0xD807AA98, 0x12835B01, 0x243185BE, 0x550C7DC3, 0x72BE5D74, 0x80DEB1FE, 0x9BDC06A7, 0xC19BF174]
  ++ [0xE49B69C1, 0xEFBE4786, 0x0FC19DC6, 0x240CA1CC, 0x2DE92C6F, 0x4A7484AA, 0x5CB0A9DC, 0x76F988DA]
  ++ [0x983E5152, 0xA831C66D, 0xB00327C8, 0xBF597FC7, 0xC6E00BF3, 0xD5A79147, 0x06CA6351, 0x14292967]
  ++ [0x27B70A85, 0x2E1B2138, 0x4D2C6DFC, 0x53380D13, 0x650A7354, 0x766A0ABB, 0x81C2C92E, 0x92722C85]
  ++ [0xA2BFE8A1, 0xA81A664B, 0xC24B8B70, 0xC76C51A3, 0xD192E819, 0xD6990624, 0xF40E3585, 0x106AA070]
  ++ [0x19A4C116, 0x1E376C08, 0x2748774C, 0x34B0BCB5, 0x391C0CB3, 0x4ED8AA4A, 0x5B9CCA4F, 0x682E6FF3]
  ++ [0x748F82EE, 0x78A5636F, 0x84C87814, 0x8CC70208, 0x90BEFFFA, 0xA4506CEB, 0xBEF9A3F7, 0xC67178F2]

/-- K[0..79] of SHA-512 (R516). -/
def sha512Constants : List Word64 :=
  [0x428A2F98D728AE22, 0x7137449123EF65CD, 0xB5C0FBCFEC4D3B2F, 0xE9B5DBA58189DBBC]
  ++ [0x3956C25BF348B538, 0x59F111F1B605D019, 0x923F82A4AF194F9B, 0xAB1C5ED5DA6D8118]
  ++ [0xD807AA98A3030242, 0x12835B0145706FBE, 0x243185BE4EE4B28C, 0x550C7DC3D5FFB4E2]
  ++ [0x72BE5D74F27B896F, 0x80DEB1FE3B1696B1, 0x9BDC06A725C71235, 0xC19BF174CF692694]
  ++ [0xE49B69C19EF14AD2, 0xEFBE4786384F25E3, 0x0FC19DC68B8CD5B5, 0x240CA1CC77AC9C65]
  ++ [0x2DE92C6F592B0275, 0x4A7484AA6EA6E483, 0x5CB0A9DCBD41FBD4, 0x76F988DA831153B5]
  ++ [0x983E5152EE66DFAB, 0xA831C66D2DB43210, 0xB00327C898FB213F, 0xBF597FC7BEEF0EE4]
  ++ [0xC6E00BF33DA88FC2, 0xD5A79147930AA725, 0x06CA6351E003826F, 0x142929670A0E6E70]
  ++ [0x27B70A8546D22FFC, 0x2E1B21385C26C926, 0x4D2C6DFC5AC42AED, 0x53380D139D95B3DF]
  ++ [0x650A73548BAF63DE, 0x766A0ABB3C77B2A8, 0x81C2C92E47EDAEE6, 0x92722C851482353B]
  ++ [0xA2BFE8A14CF10364, 0xA81A664BBC423001, 0xC24B8B70D0F89791, 0xC76C51A30654BE30]
  ++ [0xD192E819D6EF5218, 0xD69906245565A910, 0xF40E35855771202A, 0x106AA07032BBD1B8]
  ++ [0x19A4C116B8D2D0C8, 0x1E376C085141AB53, 0x2748774CDF8EEB99, 0x34B0BCB5E19B48A8]
  ++ [0x391C0CB3C5C95A63, 0x4ED8AA4AE3418ACB, 0x5B9CCA4F7763E373, 0x682E6FF3D6B2B8A3]
  ++ [0x748F82EE5DEFB2FC, 0x78A5636F43172F60, 0x84C87814A1F0AB72, 0x8CC702081A6439EC]
  ++ [0x90BEFFFA23631E28, 0xA4506CEBDE82BDE9, 0xBEF9A3F7B2C67915, 0xC67178F2E372532B]
  ++ [0xCA273ECEEA26619C, 0xD186B8C721C0C207, 0xEADA7DD6CDE0EB1E, 0xF57D4F7FEE6ED178]
  ++ [0x06F067AA72176FBA, 0x0A637DC5A2C898A6, 0x113F9804BEF90DAE, 0x1B710B35131C471B]
  ++ [0x28DB77F523047D84, 0x32CAAB7B40C72493, 0x3C9EBE0A15C9BEBC, 0x431D67C49C100D4C]
  ++ [0x4CC5D4BECB3E42B6, 0x597F299CFC657E2A, 0x5FCB6FAB3AD6FAEC, 0x6C44198C4A475817]

/-! ## CRC32C (R517) -/

/-- The bits of every byte reversed (R517). -/
def reverseBits (v : Word32) : Word32 :=
  joinWords 32 ((bytesOf v).map fun (b : Byte) =>
    (BitVec.ofNat 8 ((List.range 8).foldl (fun acc k => 2 * acc + (bit b k).toNat) 0) : Byte))

/-- `n` shifts of the polynomial division (R517). -/
def crcShifts : Nat → Word32 → Word32
  | 0, v => v
  | n + 1, v => crcShifts n (if bit v 31 then v <<< 1 ^^^ 0x1EDC6F41 else v <<< 1)

/-- CRC32c (R517), the default of the parameter CRC32C_FN (log entry 13). -/
def crc32c (iv data : Word32) : Word32 := reverseBits (crcShifts 32 (reverseBits iv ^^^ reverseBits data))

end Sys2Proof.Machine
end

