-- ==== Sys2Proof/Config.lean ====
section
/-!
DEFINITION. What an Oracle SPARC Architecture 2015 implementation fixes. The three sizes the spec fixes for
OSA 2015 are numbers here; the parameters to which spec rule R4 gives only a default are the record `Params`,
which the machine's state carries and no step changes; the values the spec leaves undefined are the opaque
constants at the end, of which nothing can be proved.
-/

namespace Sys2Proof.Config

/-- N_REG_WINDOWS, the number of register windows (R4). -/
def nRegWindows : Nat := 8

/-- MAXPGL, the highest global level (R4, R62). -/
def maxPgl : Nat := 2

/-- MAXPTL, the highest privileged trap level (R4, R60). -/
def maxPtl : Nat := 2

/-- HTRAP_POLICY (R456): what happens to a trap delivered to hyperprivileged mode. -/
inductive HtrapPolicy where
  /-- The strand stops with the terminal event. -/
  | exit
  /-- The trap is delivered through the privileged trap table. -/
  | reflect
deriving DecidableEq, Repr

/-- STBI_LINE_EFFECT (R80): the other bytes of the line of a block-initialising store. -/
inductive StbiLineEffect where
  | unchanged
  | unspecified
deriving DecidableEq, Repr

/-- MD5_WORD_ORDER (R512): how MD5 takes its 32-bit words out of its registers. -/
inductive Md5WordOrder where
  | byteString
  | registerWords
deriving DecidableEq, Repr

/-- CRC32C_FN (R517): the step function of CRC32C. -/
inductive Crc32cFn where
  /-- The function of R517. -/
  | iscsi
  /-- Another function of the same data flow. -/
  | other
deriving DecidableEq, Repr

/-- Instruction words that agree with `value` in the bits of `mask`. -/
structure OpcodePattern where
  mask : Word32
  value : Word32
deriving DecidableEq, Repr

/-- The operations on whose pages unfinished_FPop may occur (R351): FADD, FSUB, FMUL, FDIV, FSQRT, the four kinds of
FMAf, FNADD, FNMUL, and the conversions to integers (R330, R331) and FsTOd, FdTOs, FdTOq and FqTOd. -/
inductive FpOperation where
  | add
  | subtract
  | multiply
  | divide
  | squareRoot
  | multiplyAdd
  | multiplySubtract
  | negativeMultiplySubtract
  | negativeMultiplyAdd
  | negativeAdd
  | negativeMultiply
  | convertInteger
  | convertFormat
deriving DecidableEq, Repr

/-- When an operation is unfinished (R351). -/
inductive UnfinishedWhen where
  | subnormalOperand
  | subnormalResult
  /-- On the operands that the implementation chooses: any of them, #3-V8 (log entry 5). -/
  | chosenOperands
deriving DecidableEq, Repr

/-- A case of UNFINISHED_FPOP_CASES (R351): an operation, the widths of its sources and of its destination, and when it
is unfinished. -/
structure UnfinishedCase where
  operation : FpOperation
  source : Nat
  destination : Nat
  condition : UnfinishedWhen
deriving DecidableEq, Repr

/-- What asks for a translation (R101). -/
inductive Access where
  | fetch
  | load
  | store
  /-- An atomic load-store, which wants read and write permission (R106). -/
  | atomic
deriving DecidableEq, Repr

/-- A translation table entry (R103): its tag word and its data word. -/
structure Tte where
  tag : Word64
  data : Word64
deriving DecidableEq, Repr

/-- A translation that `translate` knows (R101): its TTE, the bits 21:13 of the page's virtual address, which the tag
does not hold (R103), and the accesses it serves. -/
structure Mapping where
  tte : Tte
  index : BitVec 9
  accesses : List Access
deriving DecidableEq, Repr

/-- A translation storage buffer (R105): the real address of its first entry, its `2 ^ logEntries` entries, the number
of page-offset bits by which it is indexed, and the accesses it serves. -/
structure Tsb where
  base : Nat
  logEntries : Nat
  pageShift : Nat
  accesses : List Access
deriving DecidableEq, Repr

/-- A range of real addresses with the attributes `real_attr` gives it (R101). -/
structure RealRegion where
  base : Nat
  size : Nat
  /-- Invert endianness. -/
  ie : Bool
  /-- Side effect. -/
  e : Bool
  /-- Cacheable. -/
  cp : Bool
deriving DecidableEq, Repr

/-- A range of watched virtual addresses (R491). -/
structure WatchRange where
  base : Nat
  size : Nat
  loads : Bool
  stores : Bool
deriving DecidableEq, Repr

/-- An implementation-dependent ASR (R29, IMPL_ASRS): its number, and whether it is privileged (#9-V8-Cs20). -/
structure ImplAsr where
  number : BitVec 5
  privileged : Bool
deriving DecidableEq, Repr

/-- The implementation parameters of R4 that have a default and are not fixed for OSA 2015; and, last, five questions
that two places of the spec answer differently and 90_conflicts.md does not settle: each answer is one value of a
parameter. -/
structure Params where
  /-- HTRAP_POLICY. -/
  htrapPolicy : HtrapPolicy
  /-- HAS_FPU. -/
  hasFpu : Bool
  /-- HAS_NS_MODE: whether FSR.ns exists (R24, R349). -/
  hasNsMode : Bool
  /-- OPTIONAL_INSNS: whether the quad FPops and LDQF, STQF, LDQFA, STQFA are in hardware (R339). -/
  hasQuad : Bool
  /-- OPTIONAL_INSNS: the other instruction words that are left to software (R132, R463). -/
  emulated : List OpcodePattern
  /-- UNFINISHED_FPOP_CASES. -/
  unfinishedCases : List UnfinishedCase
  /-- FSR_VER. -/
  fsrVer : BitVec 3
  /-- HAS_TCT. -/
  hasTct : Bool
  /-- DONE_RETRY_MASKS_PC. -/
  doneRetryMasksPc : Bool
  /-- TICK_NPT. -/
  tickNpt : Bool
  /-- TICK_PRIV_DIS. -/
  tickPrivDis : Bool
  /-- STICK_NPT. -/
  stickNpt : Bool
  /-- STICK_PRIV_DIS. -/
  stickPrivDis : Bool
  /-- STICK_M, the least significant implemented bit of STICK. -/
  stickM : Nat
  /-- STICK_CMPR_N, the least significant implemented bit of STICK_CMPR. -/
  stickCmprN : Nat
  /-- PAUSE_BITS. -/
  pauseBits : Nat
  /-- MWAIT_BITS. -/
  mwaitBits : Nat
  /-- CFR_VALUE, bits 14:0. -/
  cfr : BitVec 15
  /-- CONTEXT_BITS. -/
  contextBits : Nat
  /-- VA_BITS. -/
  vaBits : Nat
  /-- RA_BITS. -/
  raBits : Nat
  /-- PAGE_SIZES: the supported values of TTE.sz (R104). -/
  pageSizes : List Nat
  /-- OPTIONAL_ASIS: the optional ASIs that are not implemented (R75). -/
  absentAsis : List (BitVec 8)
  /-- OPTIONAL_ASIS: the block-initialising store ASIs that are not implemented (R75, R80). -/
  absentStbi : List (BitVec 8)
  /-- IMPL_ASRS: the implementation-dependent ASRs that exist (R29, D8). -/
  implAsrs : List ImplAsr
  /-- IMPL_ASIS: the implementation-dependent ASIs that exist (R75, D9). -/
  implAsis : List (BitVec 8)
  /-- SCRATCHPAD_4_7: whether scratchpad registers 4 to 7 are accessible. -/
  scratchpad47 : Bool
  /-- QUEUE_TAIL_WRITABLE. -/
  queueTailWritable : Bool
  /-- QUEUE_MAX_OFFSET. -/
  queueMaxOffset : Nat
  /-- PIC_COUNT, at most 4. -/
  picCount : Nat
  /-- The width of a performance counter, 32 to 64 bits (PIC width, R490). -/
  picBits : Nat
  /-- FLUSH_USES_MMU. -/
  flushUsesMmu : Bool
  /-- STBI_LINE_EFFECT. -/
  stbiLineEffect : StbiLineEffect
  /-- CACHE_LINE, in bytes. -/
  cacheLine : Nat
  /-- MD5_WORD_ORDER. -/
  md5WordOrder : Md5WordOrder
  /-- CRC32C_FN. -/
  crc32cFn : Crc32cFn
  /-- The translations that `translate` knows without memory (R101). -/
  mappings : List Mapping
  /-- The translation storage buffers in which `translate` looks an address up after them (R101, R105). -/
  tsbs : List Tsb
  /-- Whether `translate` maps an address that no TTE maps onto itself (the default platform of R101). -/
  identityMap : Bool
  /-- `real_attr` (R101): ranges whose attributes differ from memory's {0, 0, 1}. -/
  realRegions : List RealRegion
  /-- `watch_data` (R491). -/
  watchData : List WatchRange
  /-- `watch_insn` (R491). -/
  watchInsn : List WatchRange
  /-- Whether the platform's predicates `watch_data` and `watch_insn` watch further accesses (R491). -/
  watchOther : Bool
  /-- SOFTINT bit 0 holds what is written: R38, R39, R298 and the vectors V-SR-11 and V-SR-12. Else it reads 0 and
  ignores writes: R10, R37 (log entry 14). -/
  softintBit0 : Bool
  /-- WRPR %tick in nonprivileged mode: `some true` for illegal_instruction, the order of R299; `some false` for
  privileged_opcode, R33; `none` where it is not known which of the two the implementation raises (log entry 40). -/
  wrprTickIllegal : Option Bool
  /-- A partial store at an address that is 4 modulo 8 raises STDF_mem_address_not_aligned: R281. Else
  mem_address_not_aligned: R82 (log entry 41). -/
  partialStdf : Bool
  /-- LDDFA with ASI 0xE0 or 0xE1 and a misaligned rd raises illegal_instruction: R266. Else DAE_invalid_asi after the
  alignment checks: the row 255-U3-Cs10 of file 93 (log entry 17). -/
  commitLoadIllegal : Bool
  /-- PREFETCHA with a privileged or invalid ASI is a NOP: R244. Else it raises privileged_action or DAE_invalid_asi:
  R73, R76, R79, R81 to R83, R91, R465 (log entry 34). -/
  prefetchaNop : Bool
deriving DecidableEq, Repr

/-- The defaults of R4. QUEUE_MAX_OFFSET has none: DESIGN CHOICE 0xFFC0 (log entry 5, unsafe). The last five have none:
DESIGN CHOICE. What WRPR %tick raises in nonprivileged mode is left open, safe (log entry 40). The other four have a
value, unsafe: the reserved field of R10 and D7 reads 0, the row of file 93 is followed for LDDFA, and else the rule
that describes the instruction (log entries 14, 17, 34, 41). -/
def Params.default : Params where
  htrapPolicy := .exit
  hasFpu := true
  hasNsMode := false
  hasQuad := false
  emulated := []
  unfinishedCases := []
  fsrVer := 0
  hasTct := true
  doneRetryMasksPc := true
  tickNpt := false
  tickPrivDis := false
  stickNpt := false
  stickPrivDis := false
  stickM := 0
  stickCmprN := 0
  pauseBits := 13
  mwaitBits := 13
  cfr := 0x7FFB
  contextBits := 16
  vaBits := 64
  raBits := 56
  pageSizes := [0, 1, 2, 3, 4, 5, 6, 7]
  absentAsis := []
  absentStbi := []
  implAsrs := []
  implAsis := []
  scratchpad47 := true
  queueTailWritable := false
  queueMaxOffset := 0xFFC0
  picCount := 4
  picBits := 32
  flushUsesMmu := false
  stbiLineEffect := .unchanged
  cacheLine := 64
  md5WordOrder := .byteString
  crc32cFn := .iscsi
  mappings := []
  tsbs := []
  identityMap := true
  realRegions := []
  watchData := []
  watchInsn := []
  watchOther := false
  softintBit0 := false
  wrprTickIllegal := none
  partialStdf := true
  commitLoadIllegal := false
  prefetchaNop := true

/-- The value of the `n`-th undefined result of a run (log entry 8): nothing constrains it. -/
opaque freeWord : Nat → Word64

/-- The operands, as bit patterns, on which an implementation leaves an operation unfinished, by the operation and the
widths of its sources and destination (R351, #3-V8, log entry 5). -/
opaque unfinishedChoice : FpOperation → Nat → Nat → List Nat → Bool

/-- The further data accesses that `watch_data` watches: by virtual address, size, and whether they store (R491, log
entry 23). -/
opaque watchesData : Nat → Nat → Bool → Bool

/-- The further instructions that `watch_insn` watches, by virtual address (R491, log entry 23). -/
opaque watchesInsn : Nat → Bool

/-- How many instruction boundaries pass before a disrupting trap that has become pending is taken (R497, R453, log
entry 15): some number of them, of which nothing else is known. -/
opaque freeDelay : Nat → Nat

/-- How many steps pass before the `n`-th free tick of the environment (R497, log entry 7). -/
opaque freeGap : Nat → Nat

/-- The nanoseconds of the `n`-th free tick beyond the first (R497, log entry 7). -/
opaque freeNanos : Nat → Nat

/-- The strand cycles of the `n`-th free tick (R497, log entry 7). -/
opaque freeCycles : Nat → Nat

/-- The step function of CRC32C where CRC32C_FN is not that of R517 (log entry 5). -/
opaque otherCrc32c : Word32 → Word32 → Word32

/-- Whether WRPR %tick raises illegal_instruction in nonprivileged mode, as R299 orders its checks, and not
privileged_opcode, as R33 has it, where the parameter does not say (log entry 40). -/
opaque wrprTickOpen : Bool

/-- Whether nonstandard mode treats a subnormal source as zero, by its format's width and its bits (R349, log entry
39). -/
opaque nsZeroSource : Nat → Nat → Bool

/-- Whether nonstandard mode replaces a subnormal result by zero, by its format's width and its bits (R349, log entry
39). -/
opaque nsZeroResult : Nat → Nat → Bool

/-- Whether nonstandard mode replaces a subnormal intermediate value of a conversion by zero, by the widths of its
source and destination and the bits of its source (R349, log entry 39). -/
opaque nsZeroIntermediate : Nat → Nat → Nat → Bool

/-- Whether treating a subnormal source as zero signals inexact, by its format's width and its bits (R349, log entry
39). -/
opaque nsSourceInexact : Nat → Nat → Bool

end Sys2Proof.Config
end

