-- ==== Sys2Proof/Machine/State.lean ====
section
/-!
DEFINITION. The state of one virtual processor and its memory (spec file 10, 20 R64, R84 to R88, 60 R488, R490),
the reasons a step can stop, and the start state of R493. A register with reserved bits is held as its
implemented fields alone: a reserved bit reads zero and a write to it is ignored (R10).
-/

namespace Sys2Proof.Machine

open Sys2Proof

/-- Why a step stops with a fault. -/
inductive Fault where
  /-- The terminal event `hyperprivileged_trap(TT, PC, NPC)` of R456: raised by every trap delivered to
  hyperprivileged mode under the policy exit, by a trap at TL = MAXPTL, by htrap_instruction and by a condition
  that has no trap type (`none`). Safe: the spec's own end of the run. -/
  | hyperprivilegedTrap (tt : Option (BitVec 9)) (pc npc : Word64)
  /-- DONE or RETRY executed with NPC ≠ PC + 4, that is in a delay slot: undefined, stuck (R209, R215, 93
  section 4). Raised by DONE and RETRY. Safe. -/
  | returnInDelaySlot
  /-- SAVED in a window state the spec calls undefined: stuck (R292). Raised by SAVED. Safe. -/
  | savedUndefined
  /-- RESTORED in a window state the spec calls undefined: stuck (R290). Raised by RESTORED. Safe. -/
  | restoredUndefined
  /-- Nonprivileged mode with TL > 0: undefined, stuck (R60, R450). Raised by the step. Safe. -/
  | nonprivilegedAtTrapLevel
  /-- Two different translations of one address, a multiple tag hit: undefined (R102). Raised by fetches and by
  data accesses. Safe. -/
  | multipleTranslations
deriving DecidableEq, Repr

/-- Why a step gives an instruction no meaning. -/
inductive Refusal where
  /-- The instruction has no meaning in this model yet. Raised by `exec` alone. Safe. -/
  | notModelled (mnemonic : String)
deriving DecidableEq, Repr

/-- One set of integer condition codes (R31). -/
structure Cc where
  n : Bool
  z : Bool
  v : Bool
  c : Bool
deriving DecidableEq, Repr

/-- CCR (R31). -/
structure Ccr where
  xcc : Cc
  icc : Cc
deriving DecidableEq, Repr

/-- The IEEE exceptions, as in FSR.tem, FSR.aexc and FSR.cexc (R23, R27, R28). -/
structure IeeeFlags where
  nv : Bool
  of : Bool
  uf : Bool
  dz : Bool
  nx : Bool
deriving DecidableEq, Repr

/-- FSR (R20) without ver (a parameter) and qne (which reads 0). -/
structure Fsr where
  /-- Nonstandard mode: 0 without HAS_NS_MODE (R24). -/
  ns : Bool
  fcc3 : BitVec 2
  fcc2 : BitVec 2
  fcc1 : BitVec 2
  fcc0 : BitVec 2
  rd : BitVec 2
  tem : IeeeFlags
  ftt : BitVec 3
  aexc : IeeeFlags
  cexc : IeeeFlags
deriving DecidableEq, Repr

/-- FPRS (R35). -/
structure Fprs where
  fef : Bool
  du : Bool
  dl : Bool
deriving DecidableEq, Repr

/-- GSR (R36). -/
structure Gsr where
  mask : BitVec 32
  im : Bool
  irnd : BitVec 2
  scale : BitVec 5
  align : BitVec 3
deriving DecidableEq, Repr

/-- STICK_CMPR (R41); `cmpr` is bits 62:0 of the register. -/
structure StickCmpr where
  intDis : Bool
  cmpr : BitVec 63
deriving DecidableEq, Repr

/-- PSTATE (R58); mm reads 0 (R95). -/
structure PState where
  tct : Bool
  cle : Bool
  tle : Bool
  pef : Bool
  am : Bool
  priv : Bool
  ie : Bool
deriving DecidableEq, Repr

/-- TSTATE (R55). -/
structure TState where
  gl : BitVec 3
  ccr : Ccr
  asi : BitVec 8
  pstate : PState
  cwp : BitVec 5
deriving DecidableEq, Repr

/-- WSTATE (R51). -/
structure WState where
  other : BitVec 3
  normal : BitVec 3
deriving DecidableEq, Repr

/-- The entry of the trap stack for one trap level (R53 to R56). -/
structure TrapEntry where
  tpc : Word64
  tnpc : Word64
  tstate : TState
  tt : BitVec 9
deriving DecidableEq, Repr

/-- The four interrupt queues (R488). -/
inductive Queue where
  | cpuMondo
  | devMondo
  | resumable
  | nonresumable
deriving DecidableEq, Repr

/-- One 64-bit value for each interrupt queue (R88). -/
structure QueueRegs where
  cpuMondo : Word64
  devMondo : Word64
  resumable : Word64
  nonresumable : Word64
deriving DecidableEq, Repr

/-- A pair of context registers, 0 and 1 (R87). -/
structure Contexts where
  id0 : BitVec 16
  id1 : BitVec 16
deriving DecidableEq, Repr

/-- A word of memory as the instruction side once held it (R63 item 5, R99). -/
structure CodeCopy where
  /-- The real address of the word. -/
  ra : Nat
  word : Word32
  /-- Fetches take this copy rather than memory. -/
  used : Bool
deriving DecidableEq, Repr

/-- One thing that the environment may do between two instructions (R99, R486, R497, R293). -/
inductive EnvEvent where
  /-- `ns` nanoseconds, at least one, and `cycles` strand cycles pass. -/
  | tick (ns cycles : Nat)
  /-- An agent sets SOFTINT bits 15:1, given as bits 14:0. -/
  | request (levels : BitVec 15)
  /-- An agent appends an entry to a queue: its tail advances by 64 bytes. -/
  | enqueue (q : Queue)
  /-- Another strand stores the low `2 ^ log` bytes of a value at a real address that is a multiple of `2 ^ log`, at one
  instant (R68, R93). -/
  | remoteStore (ra : Nat) (log : Fin 4) (value : Word64)
  /-- The instruction side takes a copy of the word at a real address (R63 item 5, R99). -/
  | copyCode (ra : Nat)
  /-- Fetches begin or cease to take the `n`-th copy (R99). -/
  | useCode (n : Nat) (used : Bool)
deriving DecidableEq, Repr

/-- Memory (R64): the bytes that differ from what an unlisted address reads as, by rising real address. -/
abbrev Memory := List Host.Cell

/-- The state of the machine. -/
structure State where
  /-- The globals, `G[gl][n]` at index `8 * gl + n` (R11). -/
  g : Vector Word64 24
  /-- The windowed registers `W[0..127]` (R11, R13). -/
  w : Vector Word64 128
  /-- The F registers `F32[0..63]` (R16). -/
  f : Vector Word32 64
  fsr : Fsr
  /-- Y{31:0} (R30). -/
  y : BitVec 32
  ccr : Ccr
  asi : BitVec 8
  /-- TICK.counter (R33). -/
  tick : BitVec 63
  pc : Word64
  npc : Word64
  fprs : Fprs
  gsr : Gsr
  /-- SOFTINT{16:0} (R37 to R39, log entry 14). -/
  softint : BitVec 17
  /-- STICK.counter (R40). -/
  stick : BitVec 63
  stickCmpr : StickCmpr
  /-- PAUSE.pause_count (R43). -/
  pause : Nat
  /-- MWAIT.mwait_count (R44). -/
  mwait : Nat
  /-- The line, as its first real address, that the last Load-Monitor read, while it is armed (R44, R84). -/
  monitor : Option Nat
  cwp : BitVec 3
  cansave : BitVec 3
  canrestore : BitVec 3
  cleanwin : BitVec 3
  otherwin : BitVec 3
  wstate : WState
  /-- The trap stack entry of TL = 1. -/
  trap1 : TrapEntry
  /-- The trap stack entry of TL = 2. -/
  trap2 : TrapEntry
  /-- TBA{63:15} (R57). -/
  tba : BitVec 49
  pstate : PState
  tl : Fin 3
  pil : BitVec 4
  gl : Fin 3
  scratchpad : Vector Word64 8
  primary : Contexts
  secondary : Contexts
  queueHead : QueueRegs
  queueTail : QueueRegs
  /-- The performance counters (R490), of `par.picBits` bits. -/
  pic : Vector Word64 4
  mem : Memory
  /-- The words that instruction buffers and caches hold and that stores do not reach (R63 item 5, R99). -/
  code : List CodeCopy
  /-- The parameters of the instance and its platform (R4); no step changes them. -/
  par : Config.Params
  /-- The model's own: the environment events to come, one list for each gap between two instructions (log entry
  7). -/
  env : List (List EnvEvent)
  /-- The model's own: once `env` is used up, the gaps that pass before the next free tick (log entry 7). -/
  gap : Nat
  /-- The model's own: the instruction boundaries that pass before the pending disrupting trap is taken; `none` while no
  delay has been drawn for one (R453, R497, log entry 15). -/
  trapDelay : Option Nat
  /-- The model's own: how many free values have been drawn (log entry 8). -/
  freeCount : Nat
deriving DecidableEq, Repr

/-- Condition codes all clear. -/
def Cc.zero : Cc := ⟨false, false, false, false⟩

/-- CCR = 0. -/
def Ccr.zero : Ccr := ⟨.zero, .zero⟩

/-- No IEEE exception. -/
def IeeeFlags.none : IeeeFlags := ⟨false, false, false, false, false⟩

/-- The PSTATE of the start state (R493): privileged, FPU enabled, the rest 0. -/
def PState.start : PState := ⟨false, false, false, true, false, true, false⟩

/-- PSTATE = 0. -/
def PState.zero : PState := ⟨false, false, false, false, false, false, false⟩

/-- A trap stack entry that nothing has written: DESIGN CHOICE 0 (log entry 2, unsafe). -/
def TrapEntry.zero : TrapEntry := ⟨0, 0, ⟨0, .zero, 0, .zero, 0⟩, 0⟩

/-- All four queue registers 0 (R493). -/
def QueueRegs.zero : QueueRegs := ⟨0, 0, 0, 0⟩

/-- The start state of R493. Every register to which R493 gives no value is 0, and so are PC, TICK and
STICK: DESIGN CHOICE (log entries 1, 2 and 3, unsafe). -/
def State.reset : State where
  g := Vector.replicate 24 0
  w := Vector.replicate 128 0
  f := Vector.replicate 64 0
  fsr := ⟨false, 0, 0, 0, 0, 0, .none, 0, .none, .none⟩
  y := 0
  ccr := .zero
  asi := 0
  tick := 0
  pc := 0
  npc := 4
  fprs := ⟨true, false, false⟩
  gsr := ⟨0, false, 0, 0, 0⟩
  softint := 0
  stick := 0
  stickCmpr := ⟨true, 0⟩
  pause := 0
  mwait := 0
  monitor := none
  cwp := 0
  cansave := 6
  canrestore := 0
  cleanwin := 7
  otherwin := 0
  wstate := ⟨0, 0⟩
  trap1 := .zero
  trap2 := .zero
  tba := 0
  pstate := .start
  tl := 0
  pil := 0
  gl := 0
  scratchpad := Vector.replicate 8 0
  primary := ⟨0, 0⟩
  secondary := ⟨0, 0⟩
  queueHead := .zero
  queueTail := .zero
  pic := Vector.replicate 4 0
  mem := []
  code := []
  par := .default
  env := []
  gap := 0
  trapDelay := none
  freeCount := 0

end Sys2Proof.Machine
end

