-- ==== Sys2Proof/Machine/Ops.lean ====
section
/-!
DEFINITION. The named operations over registers and program counters, the images of the structured registers,
the exceptions, taking a trap and returning from one. Spec file 10 (registers), 41 R199, R200 (program
counters), 60 R455 to R459 (traps).
-/

namespace Sys2Proof.Machine

open Sys2Proof

/-- What a step answers. -/
abbrev Out := Host.Outcome State Fault Refusal

/-! ## R registers -/

/-- The place of global `n` of the set GL (R11, R13). -/
def globalSlot (gl : Fin 3) (n : Reg) : Fin 24 :=
  ⟨(8 * gl.val + n.toNat) % 24, Nat.mod_lt _ (by decide)⟩

/-- The place of R[n], 8 ≤ n ≤ 31, of window `cwp` in the windowed registers (R13). -/
def windowSlot (cwp : BitVec 3) (n : Reg) : Fin 128 :=
  let offset := if n.toNat < 16 then n.toNat + 8 else if n.toNat < 24 then n.toNat - 8 else n.toNat - 24
  ⟨(16 * cwp.toNat + offset) % 128, Nat.mod_lt _ (by decide)⟩

/-- R[n] (R12, R13): R[0] reads zero. -/
def readR (s : State) (n : Reg) : Word64 :=
  if n.toNat = 0 then 0
  else if n.toNat < 8 then s.g[globalSlot s.gl n]
  else s.w[windowSlot s.cwp n]

/-- `R[n] ← v` (R12, R13): a write to R[0] has no effect. -/
def writeR (s : State) (n : Reg) (v : Word64) : State :=
  if n.toNat = 0 then s
  else if n.toNat < 8 then { s with g := s.g.set (globalSlot s.gl n) v }
  else { s with w := s.w.set (windowSlot s.cwp n) v }

/-! ## F registers -/

/-- The number of the first 32-bit word of F_D[2k] (R17). -/
def dSlot (k : DReg) : Fin 64 := ⟨2 * k.toNat % 64, Nat.mod_lt _ (by decide)⟩

/-- The number of the second 32-bit word of F_D[2k] (R17). -/
def dSlotLow (k : DReg) : Fin 64 := ⟨(2 * k.toNat + 1) % 64, Nat.mod_lt _ (by decide)⟩

/-- The number of the 32-bit word of F_S[n] (R16). -/
def sSlot (n : FReg) : Fin 64 := ⟨n.toNat % 64, Nat.mod_lt _ (by decide)⟩

/-- F_S[n] (R16). -/
def readFS (s : State) (n : FReg) : Word32 := s.f[sSlot n]

/-- F_D[2k] (R17). -/
def readFD (s : State) (k : DReg) : Word64 := s.f[dSlot k] ++ s.f[dSlotLow k]

/-- F_Q[2k], `k` even (R17). -/
def readFQ (s : State) (k : DReg) : Word128 := readFD s (k &&& 0b11110) ++ readFD s (k ||| 0b00001)

/-- FPRS.dl or FPRS.du after a write to an F register of that half (R35). -/
def Fprs.dirty (x : Fprs) (upper : Bool) : Fprs := { x with du := x.du || upper, dl := x.dl || !upper }

/-- `F_S[n] ← v` (R16, R35). -/
def writeFS (s : State) (n : FReg) (v : Word32) : State :=
  { s with f := s.f.set (sSlot n) v, fprs := s.fprs.dirty false }

/-- `F_D[2k] ← v` (R17, R35). -/
def writeFD (s : State) (k : DReg) (v : Word64) : State :=
  { s with
    f := (s.f.set (dSlot k) (field v 32 32)).set (dSlotLow k) (field v 0 32)
    fprs := s.fprs.dirty (decide (16 ≤ k.toNat)) }

/-- `F_Q[2k] ← v`, `k` even (R17, R35). -/
def writeFQ (s : State) (k : DReg) (v : Word128) : State :=
  writeFD (writeFD s (k &&& 0b11110) (field v 64 64)) (k ||| 0b00001) (field v 0 64)

/-- The FPU is enabled (R338). -/
def fpuEnabled (s : State) : Bool := s.par.hasFpu && s.pstate.pef && s.fprs.fef

/-! ## Images of the structured registers -/

/-- The four bits n z v c (R31). -/
def Cc.bits (x : Cc) : BitVec 4 := flag x.n ++ flag x.z ++ flag x.v ++ flag x.c

/-- Condition codes from their four bits (R31). -/
def Cc.ofBits (x : BitVec 4) : Cc := ⟨bit x 3, bit x 2, bit x 1, bit x 0⟩

/-- CCR as its 8 bits (R31). -/
def Ccr.bits (x : Ccr) : BitVec 8 := x.xcc.bits ++ x.icc.bits

/-- CCR from its 8 bits (R31). -/
def Ccr.ofBits (x : BitVec 8) : Ccr := ⟨.ofBits (field x 4 4), .ofBits (field x 0 4)⟩

/-- The five bits nv of uf dz nx (R23, R27, R28). -/
def IeeeFlags.bits (x : IeeeFlags) : BitVec 5 :=
  flag x.nv ++ flag x.of ++ flag x.uf ++ flag x.dz ++ flag x.nx

/-- IEEE flags from their five bits. -/
def IeeeFlags.ofBits (x : BitVec 5) : IeeeFlags := ⟨bit x 4, bit x 3, bit x 2, bit x 1, bit x 0⟩

/-- The union of two sets of IEEE exceptions. -/
def IeeeFlags.or (x y : IeeeFlags) : IeeeFlags :=
  ⟨x.nv || y.nv, x.of || y.of, x.uf || y.uf, x.dz || y.dz, x.nx || y.nx⟩

/-- FSR as its 64 bits (R20); qne reads 0, ver is the parameter FSR_VER. -/
def Fsr.bits (x : Fsr) (ver : BitVec 3) : Word64 :=
  (0 : BitVec 26) ++ x.fcc3 ++ x.fcc2 ++ x.fcc1 ++ x.rd ++ (0 : BitVec 2) ++ x.tem.bits ++ flag x.ns ++ (0 : BitVec 2)
    ++ ver ++ x.ftt ++ (0 : BitVec 2) ++ x.fcc0 ++ x.aexc.bits ++ x.cexc.bits

/-- FPRS as its 3 bits (R35). -/
def Fprs.bits (x : Fprs) : BitVec 3 := flag x.fef ++ flag x.du ++ flag x.dl

/-- FPRS from its 3 bits (R35). -/
def Fprs.ofBits (x : BitVec 3) : Fprs := ⟨bit x 2, bit x 1, bit x 0⟩

/-- GSR as its 64 bits (R36). -/
def Gsr.bits (x : Gsr) : Word64 :=
  x.mask ++ (0 : BitVec 4) ++ flag x.im ++ x.irnd ++ (0 : BitVec 17) ++ x.scale ++ x.align

/-- GSR from its 64 bits (R36). -/
def Gsr.ofBits (v : Word64) : Gsr := ⟨field v 32 32, bit v 27, field v 25 2, field v 3 5, field v 0 3⟩

/-- PSTATE as its 13 bits (R58). -/
def PState.bits (x : PState) : BitVec 13 :=
  flag x.tct ++ (0 : BitVec 2) ++ flag x.cle ++ flag x.tle ++ (0 : BitVec 3) ++ flag x.pef ++ flag x.am
    ++ flag x.priv ++ flag x.ie ++ (0 : BitVec 1)

/-- PSTATE from its 13 bits; tct and pef exist only with their features (R58, R95). -/
def PState.ofBits (par : Config.Params) (v : BitVec 13) : PState where
  tct := par.hasTct && bit v 12
  cle := bit v 9
  tle := bit v 8
  pef := par.hasFpu && bit v 4
  am := bit v 3
  priv := bit v 2
  ie := bit v 1

/-- TSTATE as its 64 bits (R55). -/
def TState.bits (x : TState) : Word64 :=
  (0 : BitVec 21) ++ x.gl ++ x.ccr.bits ++ x.asi ++ (0 : BitVec 3) ++ x.pstate.bits ++ (0 : BitVec 3) ++ x.cwp

/-- TSTATE from its 64 bits (R55). -/
def TState.ofBits (par : Config.Params) (v : Word64) : TState where
  gl := field v 40 3
  ccr := .ofBits (field v 32 8)
  asi := field v 24 8
  pstate := .ofBits par (field v 8 13)
  cwp := field v 0 5

/-- The bits that SOFTINT keeps of a value (R37): whether bit 0 is among them, the spec answers both ways (log entry
14). -/
def softintKept (par : Config.Params) (v : BitVec 17) : BitVec 17 := if par.softintBit0 then v else v &&& 0x1FFFE

/-- SOFTINT as 64 bits (R37). -/
def softintBits (s : State) : Word64 := zext64 (softintKept s.par s.softint)

/-- The bits of the counter TICK or STICK below the least significant implemented one read 0 (R40). -/
def clearLow {n : Nat} (x : BitVec n) (m : Nat) : BitVec n := (x >>> m) <<< m

/-- A register level number saturated at 2 (R60, R62). -/
def saturate2 (v : BitVec 3) : Fin 3 :=
  if v.toNat = 0 then 0 else if v.toNat = 1 then 1 else 2

/-! ## Program counters -/

/-- Sequential execution (R199). -/
def advance (s : State) : State := { s with pc := s.npc, npc := s.npc + 4 }

/-- A delayed transfer to `ea` (R200). -/
def jumpDelayed (s : State) (ea : Word64) : State := { s with pc := s.npc, npc := ea }

/-- A transfer to `ea` with no delay instruction (R200). -/
def jumpNow (s : State) (ea : Word64) : State := { s with pc := ea, npc := ea + 4 }

/-- The delay instruction is annulled and nothing is transferred to (R200). -/
def annul (s : State) : State := { s with pc := s.npc + 4, npc := s.npc + 8 }

/-! ## Exceptions -/

/-- The exceptions of R455 that this machine can raise, and the two conditions that have no trap type. -/
inductive Exc where
  | iaePrivilegeViolation | iaeUnauthAccess | iaeNfoPage
  | illegalInstruction | privilegedOpcode | unimplementedLdtw | unimplementedSttw | compatibilityFeature
  | daeInvalidAsi | daePrivilegeViolation | daeNcPage | daeNfoPage | daeSideEffectPage
  | fpDisabled
  /-- fp_exception_ieee_754 with the cexc it leaves (R467). -/
  | fpIeee (cexc : IeeeFlags)
  /-- fp_exception_other with the ftt it leaves (R468). -/
  | fpOther (ftt : BitVec 3)
  | tagOverflow | cleanWindow | divisionByZero
  | memAddressNotAligned | lddfNotAligned | stdfNotAligned | ldqfNotAligned | stqfNotAligned
  | privilegedAction | controlTransfer | vaWatchpoint | instructionVaWatchpoint
  | interruptLevel (n : BitVec 4)
  | cpuMondo | devMondo | resumableError | nonresumableError
  | spill (other : Bool) (n : BitVec 3)
  | fill (other : Bool) (n : BitVec 3)
  | trapInstruction (n : BitVec 7)
  | htrapInstruction (n : BitVec 7)
  /-- A condition handed to hyperprivileged software for which no trap type is named (R456 case c). -/
  | unnamed
deriving DecidableEq, Repr

/-- The trap type (R455). -/
def Exc.tt : Exc → Option (BitVec 9)
  | .iaePrivilegeViolation => some 0x008
  | .iaeUnauthAccess => some 0x00B
  | .iaeNfoPage => some 0x00C
  | .illegalInstruction => some 0x010
  | .privilegedOpcode => some 0x011
  | .unimplementedLdtw => some 0x012
  | .unimplementedSttw => some 0x013
  | .compatibilityFeature => some 0x02F
  | .daeInvalidAsi => some 0x014
  | .daePrivilegeViolation => some 0x015
  | .daeNcPage => some 0x016
  | .daeNfoPage => some 0x017
  | .daeSideEffectPage => some 0x030
  | .fpDisabled => some 0x020
  | .fpIeee _ => some 0x021
  | .fpOther _ => some 0x022
  | .tagOverflow => some 0x023
  | .cleanWindow => some 0x024
  | .divisionByZero => some 0x028
  | .memAddressNotAligned => some 0x034
  | .lddfNotAligned => some 0x035
  | .stdfNotAligned => some 0x036
  | .ldqfNotAligned => some 0x038
  | .stqfNotAligned => some 0x039
  | .privilegedAction => some 0x037
  | .controlTransfer => some 0x074
  | .vaWatchpoint => some 0x062
  | .instructionVaWatchpoint => some 0x075
  | .interruptLevel n => some ((0b00100 : BitVec 5) ++ n)
  | .cpuMondo => some 0x07C
  | .devMondo => some 0x07D
  | .resumableError => some 0x07E
  | .nonresumableError => some 0x07F
  | .spill other n => some ((0b010 : BitVec 3) ++ flag other ++ n ++ (0 : BitVec 2))
  | .fill other n => some ((0b011 : BitVec 3) ++ flag other ++ n ++ (0 : BitVec 2))
  | .trapInstruction n => some ((0b10 : BitVec 2) ++ n)
  | .htrapInstruction n => some ((0b11 : BitVec 2) ++ n)
  | .unnamed => none

/-- Whether R455 delivers the exception to hyperprivileged mode. -/
def Exc.toHyper : Exc → Bool
  | .iaePrivilegeViolation | .iaeUnauthAccess | .iaeNfoPage | .illegalInstruction | .compatibilityFeature
  | .unimplementedLdtw | .unimplementedSttw
  | .daeInvalidAsi | .daePrivilegeViolation | .daeNcPage | .daeNfoPage | .daeSideEffectPage
  | .memAddressNotAligned | .lddfNotAligned | .stdfNotAligned | .ldqfNotAligned | .stqfNotAligned
  | .privilegedAction | .htrapInstruction _ | .unnamed => true
  | .privilegedOpcode | .fpDisabled | .fpIeee _ | .fpOther _ | .tagOverflow | .cleanWindow | .divisionByZero
  | .controlTransfer | .vaWatchpoint | .instructionVaWatchpoint | .interruptLevel _ | .cpuMondo | .devMondo
  | .resumableError | .nonresumableError | .spill _ _ | .fill _ _ | .trapInstruction _ => false

/-- Whether the exception always ends at the terminal event: htrap_instruction and the conditions without a
trap type (R456, R481). -/
def Exc.alwaysExits : Exc → Bool
  | .htrapInstruction _ | .unnamed => true
  | _ => false

/-- The trap stack entry of the current trap level; at TL = 0 there is none and level 1's stands (R53). -/
def trapEntry (s : State) : TrapEntry := if s.tl.val = 2 then s.trap2 else s.trap1

/-- Write the trap stack entry of the current trap level. -/
def setTrapEntry (s : State) (e : TrapEntry) : State :=
  if s.tl.val = 2 then { s with trap2 := e } else { s with trap1 := e }

/-- The address of the handler (R457). -/
def trapVector (s : State) (tt : BitVec 9) : Word64 :=
  s.tba ++ flag (decide (0 < s.tl.val)) ++ tt ++ (0 : BitVec 5)

/-- CWP on entry to the handler (R458, R483). CANRESTORE is 0 at a fill by RESTORE or RETURN; a fill by a
multiple-precision instruction takes it into account (R439, log entry 12). -/
def trapCwp (s : State) (tt : BitVec 9) : BitVec 3 :=
  if tt = 0x024 then s.cwp + 1
  else if 0x080 ≤ tt.toNat ∧ tt.toNat ≤ 0x0BF then s.cwp + s.cansave + 2
  else if 0x0C0 ≤ tt.toNat ∧ tt.toNat ≤ 0x0FF then s.cwp - s.canrestore - 1
  else s.cwp

/-- The trap stack entry a trap writes (R458); a control_transfer_instruction trap saves the full PC and
NPC (R203). -/
def savedEntry (s : State) (tt : BitVec 9) : TrapEntry where
  tpc := if s.pstate.am && tt != 0x074 then low32 s.pc else s.pc
  tnpc := if s.pstate.am && tt != 0x074 then low32 s.npc else s.npc
  tstate := { gl := BitVec.ofNat 3 s.gl.val, ccr := s.ccr, asi := s.asi, pstate := s.pstate,
              cwp := s.cwp.setWidth 5 }
  tt := tt

/-- PSTATE on entry to the handler (R458). -/
def trapPState (s : State) : PState :=
  { tct := false, cle := s.pstate.tle, tle := s.pstate.tle, pef := s.par.hasFpu, am := false, priv := true,
    ie := false }

/-- Normal trap processing for a trap delivered in privileged mode, TL < MAXPTL (R458). A trap also
disarms the Load-Monitor (R44). -/
def enterTrap (s : State) (tt : BitVec 9) : State :=
  let saved := savedEntry s tt
  { s with
    trap1 := if s.tl.val = 0 then saved else s.trap1
    trap2 := if s.tl.val = 0 then s.trap2 else saved
    tl := if s.tl.val = 0 then 1 else 2
    gl := if s.gl.val = 0 then 1 else 2
    pstate := trapPState s
    cwp := trapCwp s tt
    pc := trapVector s tt
    npc := trapVector s tt + 4
    monitor := none }

/-- The fields of FSR that a floating-point exception writes before its trap (R467, R468). -/
def Exc.recordFsr (e : Exc) (x : Fsr) : Fsr :=
  match e with
  | .fpIeee c => { x with ftt := 1, cexc := c }
  | .fpOther t => { x with ftt := t }
  | _ => x

/-- Raise an exception at the instruction at PC (R456, R458): entry to the privileged trap table, or the
terminal event of a trap delivered to hyperprivileged mode. -/
def takeTrap (e : Exc) (s : State) : Out :=
  match e.tt with
  | none => .fault (.hyperprivilegedTrap none s.pc s.npc)
  | some tt =>
    if e.alwaysExits || s.tl.val = Config.maxPtl || (e.toHyper && s.par.htrapPolicy = .exit) then
      .fault (.hyperprivilegedTrap (some tt) s.pc s.npc)
    else
      .next (enterTrap { s with fsr := e.recordFsr s.fsr } tt)

/-! ## Free values -/

/-- The next free value (log entry 8). -/
def freeValue (s : State) : Word64 := Config.freeWord s.freeCount

/-- The state after a free value has been drawn. -/
def drawn (s : State) : State := { s with freeCount := s.freeCount + 1 }

/-! ## Ending an instruction -/

/-- Why an instruction does not complete as its rule says: it raises an exception, the spec leaves it no next step, or
it accesses an address space of the implementation, whose results are implementation dependent (D9, log entry 28). -/
inductive Stop where
  | trap (e : Exc)
  | stuck (f : Fault)
  | implementation
deriving DecidableEq, Repr

/-- A computation that an exception can end, with no state changed (R452: every exception is precise). -/
abbrev Eff := Except Stop

/-- Go on when `ok` holds, raise `e` otherwise. -/
def require (ok : Bool) (e : Exc) : Eff Unit := if ok then .ok () else .error (.trap e)

/-- The outcome of an instruction at state `s` whose computation is `r`; `opened` is the state with what an access to an
address space of the implementation writes into the instruction's registers (log entry 28). -/
def finishOpen (opened s : State) (r : Eff State) : Out :=
  match r with
  | .ok t => .next t
  | .error (.trap e) => takeTrap e s
  | .error (.stuck f) => .fault f
  | .error .implementation => .next (advance opened)

/-- The outcome of an instruction at state `s` whose computation is `r` and that writes no register from an address
space of the implementation. -/
def finish (s : State) (r : Eff State) : Out := finishOpen s s r

/-- The FPU must be enabled, or fp_disabled is raised (R338). -/
def needFpu (s : State) : Eff Unit := require (fpuEnabled s) .fpDisabled

/-- Privileged mode is needed, or privileged_opcode is raised (R462). -/
def needPriv (s : State) : Eff Unit := require s.pstate.priv .privilegedOpcode

/-- A control transfer traps when PSTATE.tct = 1 (R203). -/
def needNoTct (s : State) : Eff Unit := require (!(s.par.hasTct && s.pstate.tct)) .controlTransfer

/-! ## Return from a trap -/

/-- The state DONE or RETRY restores from the trap stack (R209, R215, R459): `pc` and `npc` are the values the
instruction takes from TPC and TNPC. The return synchronises the instruction side with memory (R99). -/
def returnTo (s : State) (pc npc : Word64) : State :=
  let t := (trapEntry s).tstate
  let masked := t.pstate.am && s.par.doneRetryMasksPc
  { s with
    gl := saturate2 t.gl
    ccr := t.ccr
    asi := t.asi
    pstate := t.pstate
    cwp := t.cwp.setWidth 3
    pc := if masked then low32 pc else pc
    npc := if masked then low32 npc else npc
    tl := if s.tl.val = 2 then 1 else 0
    code := [] }

end Sys2Proof.Machine
end

