-- ==== Sys2Proof/Machine/Flags.lean ====
section
/-!
DEFINITION. The condition codes of additions, subtractions, logical operations (R139 to R141), tagged
operations (R182), 32-bit multiplies and divides (R165, R175, R188, R190) and the multiply step (R198).
-/

namespace Sys2Proof.Machine

open Sys2Proof

/-- The sum a + b + cin (R139). -/
def addSum (a b : Word64) (cin : Bool) : Word64 := a + b + (flag cin).setWidth 64

/-- The difference a - b - cin (R140). -/
def subDiff (a b : Word64) (cin : Bool) : Word64 := a - b - (flag cin).setWidth 64

/-- The condition codes of a + b + cin (R139). -/
def addFlags (a b : Word64) (cin : Bool) : Ccr :=
  let sum := addSum a b cin
  { xcc :=
      { n := bit sum 63
        z := sum == 0
        v := (bit a 63 == bit b 63) && (bit sum 63 != bit a 63)
        c := decide (2 ^ 64 ≤ a.toNat + b.toNat + cin.toNat) }
    icc :=
      { n := bit sum 31
        z := field sum 0 32 == 0
        v := (bit a 31 == bit b 31) && (bit sum 31 != bit a 31)
        c := decide (2 ^ 32 ≤ (field a 0 32).toNat + (field b 0 32).toNat + cin.toNat) } }

/-- The condition codes of a - b - cin (R140). -/
def subFlags (a b : Word64) (cin : Bool) : Ccr :=
  let diff := subDiff a b cin
  { xcc :=
      { n := bit diff 63
        z := diff == 0
        v := (bit a 63 != bit b 63) && (bit diff 63 != bit a 63)
        c := decide (a.toNat < b.toNat + cin.toNat) }
    icc :=
      { n := bit diff 31
        z := field diff 0 32 == 0
        v := (bit a 31 != bit b 31) && (bit diff 31 != bit a 31)
        c := decide ((field a 0 32).toNat < (field b 0 32).toNat + cin.toNat) } }

/-- The condition codes of a logical result (R141), also those of a 32-bit multiply's product (R175, R190). -/
def logicFlags (res : Word64) : Ccr :=
  { xcc := { n := bit res 63, z := res == 0, v := false, c := false }
    icc := { n := bit res 31, z := field res 0 32 == 0, v := false, c := false } }

/-- The condition codes of a 32-bit divide with result `res` (R165, R188). -/
def divFlags (res : Word64) (overflow : Bool) : Ccr :=
  { logicFlags res with icc := { (logicFlags res).icc with v := overflow } }

/-- Tag overflow of a tagged addition (R182). -/
def tagAddOverflow (a b : Word64) : Bool :=
  (field a 0 2 != 0) || (field b 0 2 != 0) || (addFlags a b false).icc.v

/-- Tag overflow of a tagged subtraction (R182). -/
def tagSubOverflow (a b : Word64) : Bool :=
  (field a 0 2 != 0) || (field b 0 2 != 0) || (subFlags a b false).icc.v

/-- Condition codes with icc.v replaced (R182). -/
def Ccr.withIccV (x : Ccr) (v : Bool) : Ccr := { x with icc := { x.icc with v := v } }

end Sys2Proof.Machine
end

