-- ==== Sys2Proof/Machine/Operands.lean ====
section
/-!
DEFINITION. The operand forms: register or immediate (R114, R138), shift counts (R167), addresses (R67, R222),
ASIs (R72, R222), branch targets (R201), conditions (R202, R210, R129) and the trap number operand (R217).
-/

namespace Sys2Proof.Machine

open Sys2Proof

/-- R[rs2] or the sign-extended immediate (R114, R138). -/
def operand2 {n : Nat} (s : State) : RegImm n → Word64
  | .reg rs2 => readR s rs2
  | .imm v => sext64 v

/-- R[rs2] or the zero-extended immediate of a Tcc (R114, R217). -/
def trapOperand (s : State) : RegImm 8 → Word64
  | .reg rs2 => readR s rs2
  | .imm v => zext64 v

/-- The shift count of a shift with x = 0 (R167): 0 to 31. -/
def shiftCount32 (s : State) : RegImm 5 → Nat
  | .reg rs2 => (field (readR s rs2) 0 5).toNat
  | .imm v => v.toNat

/-- The shift count of a shift with x = 1 (R167): 0 to 63. -/
def shiftCount64 (s : State) : RegImm 6 → Nat
  | .reg rs2 => (field (readR s rs2) 0 6).toNat
  | .imm v => v.toNat

/-- The effective address R[rs1] + operand (R67). -/
def effAddr (s : State) (rs1 : Reg) (op2 : RegImm 13) : Word64 := readR s rs1 + operand2 s op2

/-- The effective address of an alternate-space access (R222). -/
def altAddr (s : State) (rs1 : Reg) : AltOperand → Word64
  | .immAsi _ rs2 => readR s rs1 + readR s rs2
  | .asiReg simm13 => readR s rs1 + sext64 simm13

/-- The ASI of an alternate-space access (R222). -/
def altAsi (s : State) : AltOperand → BitVec 8
  | .immAsi asi _ => asi
  | .asiReg _ => s.asi

/-- The ASI of CASA and CASXA (R219). -/
def casAsi (s : State) : AsiSource → BitVec 8
  | .imm asi => asi
  | .asiReg => s.asi

/-- The implicit ASI of a data access (R72). -/
def implicitAsi (s : State) : BitVec 8 :=
  if s.tl.val = 0 then (if s.pstate.cle then 0x88 else 0x80)
  else (if s.pstate.cle then 0x0C else 0x04)

/-- A PC-relative target (R201). -/
def branchTarget {n : Nat} (s : State) (disp : BitVec n) : Word64 := s.pc + 4 * sext64 disp

/-- The integer condition tests (R202). -/
def icondTest (c : ICond) (x : Cc) : Bool :=
  match c with
  | .a => true
  | .n => false
  | .ne => !x.z
  | .e => x.z
  | .g => !(x.z || (x.n ^^ x.v))
  | .le => x.z || (x.n ^^ x.v)
  | .ge => !(x.n ^^ x.v)
  | .l => x.n ^^ x.v
  | .gu => !(x.c || x.z)
  | .leu => x.c || x.z
  | .cc => !x.c
  | .cs => x.c
  | .pos => !x.n
  | .neg => x.n
  | .vc => !x.v
  | .vs => x.v

/-- The floating-point condition tests on fcc = 0 equal, 1 less, 2 greater, 3 unordered (R210). -/
def fcondTest (c : FCond) (fcc : BitVec 2) : Bool :=
  let e := fcc = 0
  let l := fcc = 1
  let g := fcc = 2
  let u := fcc = 3
  match c with
  | .a => true
  | .n => false
  | .u => u
  | .g => g
  | .ug => g || u
  | .l => l
  | .ul => l || u
  | .lg => l || g
  | .ne => l || g || u
  | .e => e
  | .ue => e || u
  | .ge => e || g
  | .uge => e || g || u
  | .le => e || l
  | .ule => e || l || u
  | .o => e || l || g

/-- The register tests on a signed 64-bit value (R129, R154). -/
def rcondTest (c : RCond) (v : Word64) : Bool :=
  match c with
  | .z => v == 0
  | .lez => bit v 63 || v == 0
  | .lz => bit v 63
  | .nz => v != 0
  | .gz => !(bit v 63 || v == 0)
  | .gez => !bit v 63

/-- The selected integer condition codes (R130). -/
def selectCc (s : State) : IccSel → Cc
  | .icc => s.ccr.icc
  | .xcc => s.ccr.xcc

/-- FSR.fccn (R130). -/
def readFcc (s : State) (n : BitVec 2) : BitVec 2 :=
  if n = 0 then s.fsr.fcc0 else if n = 1 then s.fsr.fcc1 else if n = 2 then s.fsr.fcc2 else s.fsr.fcc3

/-- FSR with fccn set to `v`. -/
def Fsr.withFcc (x : Fsr) (n v : BitVec 2) : Fsr :=
  if n = 0 then { x with fcc0 := v } else if n = 1 then { x with fcc1 := v }
  else if n = 2 then { x with fcc2 := v } else { x with fcc3 := v }

end Sys2Proof.Machine
end

