-- ==== Sys2Proof/Machine/Control.lean ====
section
/-!
DEFINITION. The control-transfer instructions of spec file 41.
-/

namespace Sys2Proof.Machine

open Sys2Proof

/-- The value of PC as CALL, JMPL and RDPC store it: the upper word is 0 when PSTATE.am = 1 (R59). -/
def linkValue (s : State) : Word64 := if s.pstate.am then low32 s.pc else s.pc

/-- The program counters after a branch (R200): `always` is an unconditional branch, `a` the annul bit. A transfer
traps when PSTATE.tct = 1 (R203). -/
def branchTo (s : State) (always taken a : Bool) (ea : Word64) : Eff State :=
  if taken then do
    needNoTct s
    .ok (if always && a then jumpNow s ea else jumpDelayed s ea)
  else .ok (if a then annul s else advance s)

/-- Branch on integer condition codes (R204, R205). -/
def branchIcc {n : Nat} (cond : ICond) (x : Cc) (a : Bool) (disp : BitVec n) (s : State) : Out :=
  finish s (branchTo s (decide (cond = .a)) (icondTest cond x) a (branchTarget s disp))

/-- Branch on FSR.fccn (R211, R212). -/
def branchFcc {n : Nat} (cond : FCond) (cc : BitVec 2) (a : Bool) (disp : BitVec n) (s : State) : Out :=
  finish s do
    needFpu s
    branchTo s (decide (cond = .a)) (fcondTest cond (readFcc s cc)) a (branchTarget s disp)

/-- Branch on the contents of R[rs1] (R206). -/
def branchReg (c : RCond) (a : Bool) (rs1 : Reg) (d16 : BitVec 16) (s : State) : Out :=
  finish s (branchTo s false (rcondTest c (readR s rs1)) a (branchTarget s d16))

/-- Compare and branch, not delayed (R207). -/
def compareBranch (cond : ICond) (wide : Bool) (rs1 : Reg) (op2 : RegImm 5) (d10 : BitVec 10) (s : State) : Out :=
  let flags := subFlags (readR s rs1) (operand2 s op2) false
  finish s do
    if icondTest cond (if wide then flags.xcc else flags.icc) then
      needNoTct s
      .ok (jumpNow s (branchTarget s d10))
    else .ok (advance s)

/-- The software trap of a Tcc whose sum is `v` (R217): nonprivileged code reaches numbers 0 to 127 only. -/
def softwareTrap (s : State) (v : Word64) : Exc :=
  if s.pstate.priv && bit v 7 then .htrapInstruction (field v 0 7) else .trapInstruction (field v 0 7)

/-- Trap on integer condition codes (R217). -/
def trapIcc (cond : ICond) (cc : IccSel) (rs1 : Reg) (op2 : RegImm 8) (s : State) : Out :=
  finish s do
    if icondTest cond (selectCc s cc) then
      needNoTct s
      .error (.trap (softwareTrap s (readR s rs1 + trapOperand s op2)))
    else .ok (advance s)

/-- The fill exception of RESTORE and RETURN (R289, R483). -/
def fillTrap (s : State) : Exc :=
  if s.otherwin != 0 then .fill true s.wstate.other else .fill false s.wstate.normal

/-- The window state after RESTORE or RETURN (R216, R289). -/
def restoreWindow (s : State) : State :=
  { s with cwp := s.cwp - 1, canrestore := s.canrestore - 1, cansave := s.cansave + 1 }

/-- The checks of DONE and RETRY, in priority order, and then the case the spec leaves undefined: the
instruction is in a delay slot (R209, R215). -/
def returnChecks (s : State) : Eff Unit := do
  needPriv s
  require (decide (0 < s.tl.val)) .illegalInstruction
  needNoTct s
  if s.npc = s.pc + 4 then .ok () else .error (.stuck .returnInDelaySlot)

/-- ILLTRAP (R213). -/
def execILLTRAP (_const22 : BitVec 22) (s : State) : Out := takeTrap .illegalInstruction s

/-! ## Branches -/

/-- BN (R204). -/
def execBN (a : Bool) (disp22 : BitVec 22) (s : State) : Out :=
  branchIcc .n s.ccr.icc a disp22 s

/-- BE (R204). -/
def execBE (a : Bool) (disp22 : BitVec 22) (s : State) : Out :=
  branchIcc .e s.ccr.icc a disp22 s

/-- BLE (R204). -/
def execBLE (a : Bool) (disp22 : BitVec 22) (s : State) : Out :=
  branchIcc .le s.ccr.icc a disp22 s

/-- BL (R204). -/
def execBL (a : Bool) (disp22 : BitVec 22) (s : State) : Out :=
  branchIcc .l s.ccr.icc a disp22 s

/-- BLEU (R204). -/
def execBLEU (a : Bool) (disp22 : BitVec 22) (s : State) : Out :=
  branchIcc .leu s.ccr.icc a disp22 s

/-- BCS (R204). -/
def execBCS (a : Bool) (disp22 : BitVec 22) (s : State) : Out :=
  branchIcc .cs s.ccr.icc a disp22 s

/-- BNEG (R204). -/
def execBNEG (a : Bool) (disp22 : BitVec 22) (s : State) : Out :=
  branchIcc .neg s.ccr.icc a disp22 s

/-- BVS (R204). -/
def execBVS (a : Bool) (disp22 : BitVec 22) (s : State) : Out :=
  branchIcc .vs s.ccr.icc a disp22 s

/-- BA (R204). -/
def execBA (a : Bool) (disp22 : BitVec 22) (s : State) : Out :=
  branchIcc .a s.ccr.icc a disp22 s

/-- BNE (R204). -/
def execBNE (a : Bool) (disp22 : BitVec 22) (s : State) : Out :=
  branchIcc .ne s.ccr.icc a disp22 s

/-- BG (R204). -/
def execBG (a : Bool) (disp22 : BitVec 22) (s : State) : Out :=
  branchIcc .g s.ccr.icc a disp22 s

/-- BGE (R204). -/
def execBGE (a : Bool) (disp22 : BitVec 22) (s : State) : Out :=
  branchIcc .ge s.ccr.icc a disp22 s

/-- BGU (R204). -/
def execBGU (a : Bool) (disp22 : BitVec 22) (s : State) : Out :=
  branchIcc .gu s.ccr.icc a disp22 s

/-- BCC (R204). -/
def execBCC (a : Bool) (disp22 : BitVec 22) (s : State) : Out :=
  branchIcc .cc s.ccr.icc a disp22 s

/-- BPOS (R204). -/
def execBPOS (a : Bool) (disp22 : BitVec 22) (s : State) : Out :=
  branchIcc .pos s.ccr.icc a disp22 s

/-- BVC (R204). -/
def execBVC (a : Bool) (disp22 : BitVec 22) (s : State) : Out :=
  branchIcc .vc s.ccr.icc a disp22 s

/-- BPN (R205). -/
def execBPN (a : Bool) (cc : IccSel) (_p : Bool) (disp19 : BitVec 19) (s : State) : Out :=
  branchIcc .n (selectCc s cc) a disp19 s

/-- BPE (R205). -/
def execBPE (a : Bool) (cc : IccSel) (_p : Bool) (disp19 : BitVec 19) (s : State) : Out :=
  branchIcc .e (selectCc s cc) a disp19 s

/-- BPLE (R205). -/
def execBPLE (a : Bool) (cc : IccSel) (_p : Bool) (disp19 : BitVec 19) (s : State) : Out :=
  branchIcc .le (selectCc s cc) a disp19 s

/-- BPL (R205). -/
def execBPL (a : Bool) (cc : IccSel) (_p : Bool) (disp19 : BitVec 19) (s : State) : Out :=
  branchIcc .l (selectCc s cc) a disp19 s

/-- BPLEU (R205). -/
def execBPLEU (a : Bool) (cc : IccSel) (_p : Bool) (disp19 : BitVec 19) (s : State) : Out :=
  branchIcc .leu (selectCc s cc) a disp19 s

/-- BPCS (R205). -/
def execBPCS (a : Bool) (cc : IccSel) (_p : Bool) (disp19 : BitVec 19) (s : State) : Out :=
  branchIcc .cs (selectCc s cc) a disp19 s

/-- BPNEG (R205). -/
def execBPNEG (a : Bool) (cc : IccSel) (_p : Bool) (disp19 : BitVec 19) (s : State) : Out :=
  branchIcc .neg (selectCc s cc) a disp19 s

/-- BPVS (R205). -/
def execBPVS (a : Bool) (cc : IccSel) (_p : Bool) (disp19 : BitVec 19) (s : State) : Out :=
  branchIcc .vs (selectCc s cc) a disp19 s

/-- BPA (R205). -/
def execBPA (a : Bool) (cc : IccSel) (_p : Bool) (disp19 : BitVec 19) (s : State) : Out :=
  branchIcc .a (selectCc s cc) a disp19 s

/-- BPNE (R205). -/
def execBPNE (a : Bool) (cc : IccSel) (_p : Bool) (disp19 : BitVec 19) (s : State) : Out :=
  branchIcc .ne (selectCc s cc) a disp19 s

/-- BPG (R205). -/
def execBPG (a : Bool) (cc : IccSel) (_p : Bool) (disp19 : BitVec 19) (s : State) : Out :=
  branchIcc .g (selectCc s cc) a disp19 s

/-- BPGE (R205). -/
def execBPGE (a : Bool) (cc : IccSel) (_p : Bool) (disp19 : BitVec 19) (s : State) : Out :=
  branchIcc .ge (selectCc s cc) a disp19 s

/-- BPGU (R205). -/
def execBPGU (a : Bool) (cc : IccSel) (_p : Bool) (disp19 : BitVec 19) (s : State) : Out :=
  branchIcc .gu (selectCc s cc) a disp19 s

/-- BPCC (R205). -/
def execBPCC (a : Bool) (cc : IccSel) (_p : Bool) (disp19 : BitVec 19) (s : State) : Out :=
  branchIcc .cc (selectCc s cc) a disp19 s

/-- BPPOS (R205). -/
def execBPPOS (a : Bool) (cc : IccSel) (_p : Bool) (disp19 : BitVec 19) (s : State) : Out :=
  branchIcc .pos (selectCc s cc) a disp19 s

/-- BPVC (R205). -/
def execBPVC (a : Bool) (cc : IccSel) (_p : Bool) (disp19 : BitVec 19) (s : State) : Out :=
  branchIcc .vc (selectCc s cc) a disp19 s

/-- FBN (R211). -/
def execFBN (a : Bool) (disp22 : BitVec 22) (s : State) : Out :=
  branchFcc .n 0 a disp22 s

/-- FBNE (R211). -/
def execFBNE (a : Bool) (disp22 : BitVec 22) (s : State) : Out :=
  branchFcc .ne 0 a disp22 s

/-- FBLG (R211). -/
def execFBLG (a : Bool) (disp22 : BitVec 22) (s : State) : Out :=
  branchFcc .lg 0 a disp22 s

/-- FBUL (R211). -/
def execFBUL (a : Bool) (disp22 : BitVec 22) (s : State) : Out :=
  branchFcc .ul 0 a disp22 s

/-- FBL (R211). -/
def execFBL (a : Bool) (disp22 : BitVec 22) (s : State) : Out :=
  branchFcc .l 0 a disp22 s

/-- FBUG (R211). -/
def execFBUG (a : Bool) (disp22 : BitVec 22) (s : State) : Out :=
  branchFcc .ug 0 a disp22 s

/-- FBG (R211). -/
def execFBG (a : Bool) (disp22 : BitVec 22) (s : State) : Out :=
  branchFcc .g 0 a disp22 s

/-- FBU (R211). -/
def execFBU (a : Bool) (disp22 : BitVec 22) (s : State) : Out :=
  branchFcc .u 0 a disp22 s

/-- FBA (R211). -/
def execFBA (a : Bool) (disp22 : BitVec 22) (s : State) : Out :=
  branchFcc .a 0 a disp22 s

/-- FBE (R211). -/
def execFBE (a : Bool) (disp22 : BitVec 22) (s : State) : Out :=
  branchFcc .e 0 a disp22 s

/-- FBUE (R211). -/
def execFBUE (a : Bool) (disp22 : BitVec 22) (s : State) : Out :=
  branchFcc .ue 0 a disp22 s

/-- FBGE (R211). -/
def execFBGE (a : Bool) (disp22 : BitVec 22) (s : State) : Out :=
  branchFcc .ge 0 a disp22 s

/-- FBUGE (R211). -/
def execFBUGE (a : Bool) (disp22 : BitVec 22) (s : State) : Out :=
  branchFcc .uge 0 a disp22 s

/-- FBLE (R211). -/
def execFBLE (a : Bool) (disp22 : BitVec 22) (s : State) : Out :=
  branchFcc .le 0 a disp22 s

/-- FBULE (R211). -/
def execFBULE (a : Bool) (disp22 : BitVec 22) (s : State) : Out :=
  branchFcc .ule 0 a disp22 s

/-- FBO (R211). -/
def execFBO (a : Bool) (disp22 : BitVec 22) (s : State) : Out :=
  branchFcc .o 0 a disp22 s

/-- FBPN (R212). -/
def execFBPN (a : Bool) (cc : BitVec 2) (_p : Bool) (disp19 : BitVec 19) (s : State) : Out :=
  branchFcc .n cc a disp19 s

/-- FBPNE (R212). -/
def execFBPNE (a : Bool) (cc : BitVec 2) (_p : Bool) (disp19 : BitVec 19) (s : State) : Out :=
  branchFcc .ne cc a disp19 s

/-- FBPLG (R212). -/
def execFBPLG (a : Bool) (cc : BitVec 2) (_p : Bool) (disp19 : BitVec 19) (s : State) : Out :=
  branchFcc .lg cc a disp19 s

/-- FBPUL (R212). -/
def execFBPUL (a : Bool) (cc : BitVec 2) (_p : Bool) (disp19 : BitVec 19) (s : State) : Out :=
  branchFcc .ul cc a disp19 s

/-- FBPL (R212). -/
def execFBPL (a : Bool) (cc : BitVec 2) (_p : Bool) (disp19 : BitVec 19) (s : State) : Out :=
  branchFcc .l cc a disp19 s

/-- FBPUG (R212). -/
def execFBPUG (a : Bool) (cc : BitVec 2) (_p : Bool) (disp19 : BitVec 19) (s : State) : Out :=
  branchFcc .ug cc a disp19 s

/-- FBPG (R212). -/
def execFBPG (a : Bool) (cc : BitVec 2) (_p : Bool) (disp19 : BitVec 19) (s : State) : Out :=
  branchFcc .g cc a disp19 s

/-- FBPU (R212). -/
def execFBPU (a : Bool) (cc : BitVec 2) (_p : Bool) (disp19 : BitVec 19) (s : State) : Out :=
  branchFcc .u cc a disp19 s

/-- FBPA (R212). -/
def execFBPA (a : Bool) (cc : BitVec 2) (_p : Bool) (disp19 : BitVec 19) (s : State) : Out :=
  branchFcc .a cc a disp19 s

/-- FBPE (R212). -/
def execFBPE (a : Bool) (cc : BitVec 2) (_p : Bool) (disp19 : BitVec 19) (s : State) : Out :=
  branchFcc .e cc a disp19 s

/-- FBPUE (R212). -/
def execFBPUE (a : Bool) (cc : BitVec 2) (_p : Bool) (disp19 : BitVec 19) (s : State) : Out :=
  branchFcc .ue cc a disp19 s

/-- FBPGE (R212). -/
def execFBPGE (a : Bool) (cc : BitVec 2) (_p : Bool) (disp19 : BitVec 19) (s : State) : Out :=
  branchFcc .ge cc a disp19 s

/-- FBPUGE (R212). -/
def execFBPUGE (a : Bool) (cc : BitVec 2) (_p : Bool) (disp19 : BitVec 19) (s : State) : Out :=
  branchFcc .uge cc a disp19 s

/-- FBPLE (R212). -/
def execFBPLE (a : Bool) (cc : BitVec 2) (_p : Bool) (disp19 : BitVec 19) (s : State) : Out :=
  branchFcc .le cc a disp19 s

/-- FBPULE (R212). -/
def execFBPULE (a : Bool) (cc : BitVec 2) (_p : Bool) (disp19 : BitVec 19) (s : State) : Out :=
  branchFcc .ule cc a disp19 s

/-- FBPO (R212). -/
def execFBPO (a : Bool) (cc : BitVec 2) (_p : Bool) (disp19 : BitVec 19) (s : State) : Out :=
  branchFcc .o cc a disp19 s

/-- BRZ (R206). -/
def execBRZ (a _p : Bool) (rs1 : Reg) (d16 : BitVec 16) (s : State) : Out :=
  branchReg .z a rs1 d16 s

/-- BRLEZ (R206). -/
def execBRLEZ (a _p : Bool) (rs1 : Reg) (d16 : BitVec 16) (s : State) : Out :=
  branchReg .lez a rs1 d16 s

/-- BRLZ (R206). -/
def execBRLZ (a _p : Bool) (rs1 : Reg) (d16 : BitVec 16) (s : State) : Out :=
  branchReg .lz a rs1 d16 s

/-- BRNZ (R206). -/
def execBRNZ (a _p : Bool) (rs1 : Reg) (d16 : BitVec 16) (s : State) : Out :=
  branchReg .nz a rs1 d16 s

/-- BRGZ (R206). -/
def execBRGZ (a _p : Bool) (rs1 : Reg) (d16 : BitVec 16) (s : State) : Out :=
  branchReg .gz a rs1 d16 s

/-- BRGEZ (R206). -/
def execBRGEZ (a _p : Bool) (rs1 : Reg) (d16 : BitVec 16) (s : State) : Out :=
  branchReg .gez a rs1 d16 s

/-- CWBE (R207). -/
def execCWBE (rs1 : Reg) (op2 : RegImm 5) (d10 : BitVec 10) (s : State) : Out :=
  compareBranch .e false rs1 op2 d10 s

/-- CWBLE (R207). -/
def execCWBLE (rs1 : Reg) (op2 : RegImm 5) (d10 : BitVec 10) (s : State) : Out :=
  compareBranch .le false rs1 op2 d10 s

/-- CWBL (R207). -/
def execCWBL (rs1 : Reg) (op2 : RegImm 5) (d10 : BitVec 10) (s : State) : Out :=
  compareBranch .l false rs1 op2 d10 s

/-- CWBLEU (R207). -/
def execCWBLEU (rs1 : Reg) (op2 : RegImm 5) (d10 : BitVec 10) (s : State) : Out :=
  compareBranch .leu false rs1 op2 d10 s

/-- CWBCS (R207). -/
def execCWBCS (rs1 : Reg) (op2 : RegImm 5) (d10 : BitVec 10) (s : State) : Out :=
  compareBranch .cs false rs1 op2 d10 s

/-- CWBNEG (R207). -/
def execCWBNEG (rs1 : Reg) (op2 : RegImm 5) (d10 : BitVec 10) (s : State) : Out :=
  compareBranch .neg false rs1 op2 d10 s

/-- CWBVS (R207). -/
def execCWBVS (rs1 : Reg) (op2 : RegImm 5) (d10 : BitVec 10) (s : State) : Out :=
  compareBranch .vs false rs1 op2 d10 s

/-- CWBNE (R207). -/
def execCWBNE (rs1 : Reg) (op2 : RegImm 5) (d10 : BitVec 10) (s : State) : Out :=
  compareBranch .ne false rs1 op2 d10 s

/-- CWBG (R207). -/
def execCWBG (rs1 : Reg) (op2 : RegImm 5) (d10 : BitVec 10) (s : State) : Out :=
  compareBranch .g false rs1 op2 d10 s

/-- CWBGE (R207). -/
def execCWBGE (rs1 : Reg) (op2 : RegImm 5) (d10 : BitVec 10) (s : State) : Out :=
  compareBranch .ge false rs1 op2 d10 s

/-- CWBGU (R207). -/
def execCWBGU (rs1 : Reg) (op2 : RegImm 5) (d10 : BitVec 10) (s : State) : Out :=
  compareBranch .gu false rs1 op2 d10 s

/-- CWBCC (R207). -/
def execCWBCC (rs1 : Reg) (op2 : RegImm 5) (d10 : BitVec 10) (s : State) : Out :=
  compareBranch .cc false rs1 op2 d10 s

/-- CWBPOS (R207). -/
def execCWBPOS (rs1 : Reg) (op2 : RegImm 5) (d10 : BitVec 10) (s : State) : Out :=
  compareBranch .pos false rs1 op2 d10 s

/-- CWBVC (R207). -/
def execCWBVC (rs1 : Reg) (op2 : RegImm 5) (d10 : BitVec 10) (s : State) : Out :=
  compareBranch .vc false rs1 op2 d10 s

/-- CXBE (R207). -/
def execCXBE (rs1 : Reg) (op2 : RegImm 5) (d10 : BitVec 10) (s : State) : Out :=
  compareBranch .e true rs1 op2 d10 s

/-- CXBLE (R207). -/
def execCXBLE (rs1 : Reg) (op2 : RegImm 5) (d10 : BitVec 10) (s : State) : Out :=
  compareBranch .le true rs1 op2 d10 s

/-- CXBL (R207). -/
def execCXBL (rs1 : Reg) (op2 : RegImm 5) (d10 : BitVec 10) (s : State) : Out :=
  compareBranch .l true rs1 op2 d10 s

/-- CXBLEU (R207). -/
def execCXBLEU (rs1 : Reg) (op2 : RegImm 5) (d10 : BitVec 10) (s : State) : Out :=
  compareBranch .leu true rs1 op2 d10 s

/-- CXBCS (R207). -/
def execCXBCS (rs1 : Reg) (op2 : RegImm 5) (d10 : BitVec 10) (s : State) : Out :=
  compareBranch .cs true rs1 op2 d10 s

/-- CXBNEG (R207). -/
def execCXBNEG (rs1 : Reg) (op2 : RegImm 5) (d10 : BitVec 10) (s : State) : Out :=
  compareBranch .neg true rs1 op2 d10 s

/-- CXBVS (R207). -/
def execCXBVS (rs1 : Reg) (op2 : RegImm 5) (d10 : BitVec 10) (s : State) : Out :=
  compareBranch .vs true rs1 op2 d10 s

/-- CXBNE (R207). -/
def execCXBNE (rs1 : Reg) (op2 : RegImm 5) (d10 : BitVec 10) (s : State) : Out :=
  compareBranch .ne true rs1 op2 d10 s

/-- CXBG (R207). -/
def execCXBG (rs1 : Reg) (op2 : RegImm 5) (d10 : BitVec 10) (s : State) : Out :=
  compareBranch .g true rs1 op2 d10 s

/-- CXBGE (R207). -/
def execCXBGE (rs1 : Reg) (op2 : RegImm 5) (d10 : BitVec 10) (s : State) : Out :=
  compareBranch .ge true rs1 op2 d10 s

/-- CXBGU (R207). -/
def execCXBGU (rs1 : Reg) (op2 : RegImm 5) (d10 : BitVec 10) (s : State) : Out :=
  compareBranch .gu true rs1 op2 d10 s

/-- CXBCC (R207). -/
def execCXBCC (rs1 : Reg) (op2 : RegImm 5) (d10 : BitVec 10) (s : State) : Out :=
  compareBranch .cc true rs1 op2 d10 s

/-- CXBPOS (R207). -/
def execCXBPOS (rs1 : Reg) (op2 : RegImm 5) (d10 : BitVec 10) (s : State) : Out :=
  compareBranch .pos true rs1 op2 d10 s

/-- CXBVC (R207). -/
def execCXBVC (rs1 : Reg) (op2 : RegImm 5) (d10 : BitVec 10) (s : State) : Out :=
  compareBranch .vc true rs1 op2 d10 s

/-! ## Calls, jumps and returns -/

/-- CALL (R208). -/
def execCALL (disp30 : BitVec 30) (s : State) : Out :=
  finish s do
    needNoTct s
    .ok (jumpDelayed (writeR s 15 (linkValue s)) (branchTarget s disp30))

/-- JMPL (R214). -/
def execJMPL (rd rs1 : Reg) (op2 : RegImm 13) (s : State) : Out :=
  finish s do
    let target := effAddr s rs1 op2
    require (field target 0 2 == 0) .memAddressNotAligned
    needNoTct s
    .ok (jumpDelayed (writeR s rd (linkValue s)) target)

/-- RETURN (R216). -/
def execRETURN (rs1 : Reg) (op2 : RegImm 13) (s : State) : Out :=
  finish s do
    let target := effAddr s rs1 op2
    require (s.canrestore != 0) (fillTrap s)
    require (field target 0 2 == 0) .memAddressNotAligned
    needNoTct s
    .ok (jumpDelayed (restoreWindow s) target)

/-- DONE (R209). -/
def execDONE (s : State) : Out :=
  finish s do
    returnChecks s
    .ok (returnTo s (trapEntry s).tnpc ((trapEntry s).tnpc + 4))

/-- RETRY (R215). -/
def execRETRY (s : State) : Out :=
  finish s do
    returnChecks s
    .ok (returnTo s (trapEntry s).tpc (trapEntry s).tnpc)

/-! ## Traps on condition -/

/-- TN (R217). -/
def execTN (cc : IccSel) (rs1 : Reg) (op2 : RegImm 8) (s : State) : Out :=
  trapIcc .n cc rs1 op2 s

/-- TE (R217). -/
def execTE (cc : IccSel) (rs1 : Reg) (op2 : RegImm 8) (s : State) : Out :=
  trapIcc .e cc rs1 op2 s

/-- TLE (R217). -/
def execTLE (cc : IccSel) (rs1 : Reg) (op2 : RegImm 8) (s : State) : Out :=
  trapIcc .le cc rs1 op2 s

/-- TL (R217). -/
def execTL (cc : IccSel) (rs1 : Reg) (op2 : RegImm 8) (s : State) : Out :=
  trapIcc .l cc rs1 op2 s

/-- TLEU (R217). -/
def execTLEU (cc : IccSel) (rs1 : Reg) (op2 : RegImm 8) (s : State) : Out :=
  trapIcc .leu cc rs1 op2 s

/-- TCS (R217). -/
def execTCS (cc : IccSel) (rs1 : Reg) (op2 : RegImm 8) (s : State) : Out :=
  trapIcc .cs cc rs1 op2 s

/-- TNEG (R217). -/
def execTNEG (cc : IccSel) (rs1 : Reg) (op2 : RegImm 8) (s : State) : Out :=
  trapIcc .neg cc rs1 op2 s

/-- TVS (R217). -/
def execTVS (cc : IccSel) (rs1 : Reg) (op2 : RegImm 8) (s : State) : Out :=
  trapIcc .vs cc rs1 op2 s

/-- TA (R217). -/
def execTA (cc : IccSel) (rs1 : Reg) (op2 : RegImm 8) (s : State) : Out :=
  trapIcc .a cc rs1 op2 s

/-- TNE (R217). -/
def execTNE (cc : IccSel) (rs1 : Reg) (op2 : RegImm 8) (s : State) : Out :=
  trapIcc .ne cc rs1 op2 s

/-- TG (R217). -/
def execTG (cc : IccSel) (rs1 : Reg) (op2 : RegImm 8) (s : State) : Out :=
  trapIcc .g cc rs1 op2 s

/-- TGE (R217). -/
def execTGE (cc : IccSel) (rs1 : Reg) (op2 : RegImm 8) (s : State) : Out :=
  trapIcc .ge cc rs1 op2 s

/-- TGU (R217). -/
def execTGU (cc : IccSel) (rs1 : Reg) (op2 : RegImm 8) (s : State) : Out :=
  trapIcc .gu cc rs1 op2 s

/-- TCC (R217). -/
def execTCC (cc : IccSel) (rs1 : Reg) (op2 : RegImm 8) (s : State) : Out :=
  trapIcc .cc cc rs1 op2 s

/-- TPOS (R217). -/
def execTPOS (cc : IccSel) (rs1 : Reg) (op2 : RegImm 8) (s : State) : Out :=
  trapIcc .pos cc rs1 op2 s

/-- TVC (R217). -/
def execTVC (cc : IccSel) (rs1 : Reg) (op2 : RegImm 8) (s : State) : Out :=
  trapIcc .vc cc rs1 op2 s

end Sys2Proof.Machine
end

