-- ==== Sys2Proof/Machine/Windows.lean ====
section
/-!
DEFINITION. The register-window instructions of spec file 44. All arithmetic on the window registers is modulo
N_REG_WINDOWS = 8.
-/

namespace Sys2Proof.Machine

open Sys2Proof

/-- N_REG_WINDOWS - 1 (R4). -/
def lastWindow : BitVec 3 := BitVec.ofNat 3 (Config.nRegWindows - 1)

/-- N_REG_WINDOWS - 2 (R4). -/
def maxSavable : BitVec 3 := BitVec.ofNat 3 (Config.nRegWindows - 2)

/-- The spill exception of SAVE and FLUSHW (R285, R291, R483). -/
def spillTrap (s : State) : Exc :=
  if s.otherwin != 0 then .spill true s.wstate.other else .spill false s.wstate.normal

/-- A privileged change of the window state alone. -/
def windowOp (s t : State) : Out :=
  finish s do
    needPriv s
    .ok (advance t)

/-- SAVE (R291). -/
def execSAVE (rd rs1 : Reg) (op2 : RegImm 13) (s : State) : Out :=
  finish s do
    require (s.cansave != 0) (spillTrap s)
    require (s.cleanwin - s.canrestore != 0) .cleanWindow
    .ok (advance (writeR
      { s with cwp := s.cwp + 1, cansave := s.cansave - 1, canrestore := s.canrestore + 1 }
      rd (effAddr s rs1 op2)))

/-- RESTORE (R289). -/
def execRESTORE (rd rs1 : Reg) (op2 : RegImm 13) (s : State) : Out :=
  finish s do
    require (s.canrestore != 0) (fillTrap s)
    .ok (advance (writeR (restoreWindow s) rd (effAddr s rs1 op2)))

/-- FLUSHW (R285). -/
def execFLUSHW (s : State) : Out :=
  finish s do
    require (s.cansave == maxSavable) (spillTrap s)
    .ok (advance s)

/-- ALLCLEAN (R284). -/
def execALLCLEAN (s : State) : Out := windowOp s { s with cleanwin := lastWindow }

/-- INVALW (R286). -/
def execINVALW (s : State) : Out := windowOp s { s with cansave := maxSavable, canrestore := 0, otherwin := 0 }

/-- NORMALW (R287). -/
def execNORMALW (s : State) : Out := windowOp s { s with canrestore := s.otherwin, otherwin := 0 }

/-- OTHERW (R288). -/
def execOTHERW (s : State) : Out := windowOp s { s with otherwin := s.canrestore, canrestore := 0 }

/-- SAVED (R292); a window state the spec calls undefined is stuck. -/
def execSAVED (s : State) : Out :=
  finish s do
    needPriv s
    if maxSavable.toNat ≤ s.cansave.toNat ∨ (s.canrestore = 0 ∧ s.otherwin = 0) then
      .error (.stuck .savedUndefined)
    else if s.otherwin = 0 then
      .ok (advance { s with cansave := s.cansave + 1, canrestore := s.canrestore - 1 })
    else
      .ok (advance { s with cansave := s.cansave + 1, otherwin := s.otherwin - 1 })

/-- CLEANWIN after RESTORED (R290). -/
def cleanOneMore (s : State) : BitVec 3 :=
  if s.cleanwin.toNat < lastWindow.toNat then s.cleanwin + 1 else s.cleanwin

/-- RESTORED (R290); a window state the spec calls undefined is stuck. -/
def execRESTORED (s : State) : Out :=
  finish s do
    needPriv s
    if maxSavable.toNat ≤ s.canrestore.toNat ∨ (s.cansave = 0 ∧ s.otherwin = 0) then
      .error (.stuck .restoredUndefined)
    else if s.otherwin = 0 then
      .ok (advance
        { s with canrestore := s.canrestore + 1, cleanwin := cleanOneMore s, cansave := s.cansave - 1 })
    else
      .ok (advance
        { s with canrestore := s.canrestore + 1, cleanwin := cleanOneMore s, otherwin := s.otherwin - 1 })

end Sys2Proof.Machine
end

