-- ==== Sys2Proof/Machine/MultiPrecision.lean ====
section
/-!
DEFINITION. The arithmetic of the multiple-precision instructions (R439 to R442, R446 to R449): where their
operands stand, exact products of natural numbers with or without carries, and Montgomery multiplication.
-/

namespace Sys2Proof.Machine

open Sys2Proof

/-! ## Where the operands stand -/

/-- The place of one 64-bit word of an operand. -/
inductive MpPlace where
  /-- R[n] of the window `back` windows before the current one. -/
  | reg (back : BitVec 3) (n : Reg)
  /-- F_D[2 k]. -/
  | freg (k : DReg)
deriving DecidableEq, Repr

/-- R[n] to R[n + count - 1] of one window. -/
def regRun (back : BitVec 3) (n count : Nat) : List MpPlace :=
  (List.range count).map fun i => .reg back (BitVec.ofNat 5 (n + i))

/-- F_D[n], F_D[n + 2], …. -/
def fregRun (n count : Nat) : List MpPlace := (List.range count).map fun i => .freg (BitVec.ofNat 5 (n / 2 + i))

/-- The multiplier of MPMUL, word 0 first (R440). -/
def mpMultiplier : List MpPlace :=
  regRun 6 8 6 ++ fregRun 0 2 ++ regRun 6 16 8 ++ regRun 6 24 6 ++ fregRun 4 2 ++ fregRun 8 8

/-- The multiplicand of MPMUL (R440); also A and X of MONTMUL (R441). -/
def mpMultiplicand : List MpPlace :=
  regRun 5 16 8 ++ regRun 5 8 6 ++ fregRun 24 2 ++ fregRun 28 8 ++ fregRun 44 8

/-- The product of MPMUL (R440). -/
def mpProduct : List MpPlace :=
  regRun 4 16 8 ++ regRun 4 8 6 ++ regRun 3 16 8 ++ regRun 3 8 6 ++ regRun 2 16 8 ++ regRun 2 8 6
    ++ regRun 1 16 8 ++ regRun 1 8 6 ++ regRun 0 16 8

/-- M of MONTMUL (R441). -/
def mpMontM : List MpPlace :=
  regRun 6 24 6 ++ fregRun 0 2 ++ regRun 6 16 8 ++ regRun 6 8 6 ++ fregRun 4 2 ++ fregRun 8 8

/-- N of MONTMUL (R441). -/
def mpModulus : List MpPlace :=
  regRun 4 16 8 ++ regRun 4 8 6 ++ regRun 3 16 8 ++ regRun 3 8 6 ++ regRun 2 16 4

/-- B of MONTMUL (R441). -/
def mpMontB : List MpPlace :=
  regRun 2 8 6 ++ regRun 1 16 8 ++ regRun 1 8 6 ++ regRun 0 16 8 ++ regRun 0 8 4

/-- The word at a place. -/
def MpPlace.read (s : State) : MpPlace → Word64
  | .reg back n => readR { s with cwp := s.cwp - back } n
  | .freg k => readFD s k

/-- Write the word at a place. -/
def MpPlace.write (s : State) (v : Word64) : MpPlace → State
  | .reg back n => { writeR { s with cwp := s.cwp - back } n v with cwp := s.cwp }
  | .freg k => writeFD s k v

/-- The words at places, word 0 first. -/
def wordsAt (s : State) (ps : List MpPlace) : List Nat := ps.map fun p => (p.read s).toNat

/-- The number whose words are a list, word 0 the least significant. -/
def joinNat (l : List Nat) : Nat := l.foldr (fun x acc => x + 2 ^ 64 * acc) 0

/-- The operand at places. -/
def readPlaces (s : State) (ps : List MpPlace) : Nat := joinNat (wordsAt s ps)

/-- Write the words of `v` at places. -/
def writePlaces : List MpPlace → Nat → State → State
  | [], _, s => s
  | p :: ps, v, s => writePlaces ps (v / 2 ^ 64) (p.write s (BitVec.ofNat 64 v))

/-! ## Arithmetic with carries (integers) and without (R446) -/

/-- Addition, or XOR. -/
def mpAdd (carry : Bool) (a b : Nat) : Nat := if carry then a + b else a ^^^ b

/-- The XOR product of `a` and the low `n` bits of `b` (R446). -/
def xorMul (a b : Nat) : Nat → Nat
  | 0 => 0
  | n + 1 => xorMul a b n ^^^ (if b.testBit n then a <<< n else 0)

/-- The product of `a` and `b`, where `b` has `n` bits. -/
def wideMul (carry : Bool) (n a b : Nat) : Nat := if carry then a * b else xorMul a b n

/-- The product of two words. -/
def mpMul (carry : Bool) (a b : Nat) : Nat := wideMul carry 64 a b

/-- The sum of `x[j] * y[i - j]` for the `count` values of `j` from `lo` on. -/
def crossSum (carry : Bool) (x y : List Nat) (i lo count : Nat) : Nat :=
  (List.range count).foldl
    (fun acc k => mpAdd carry acc (mpMul carry (x.getD (lo + k) 0) (y.getD (i - (lo + k)) 0))) 0

/-- The terms A[j] x B[I - j] of column `i` (R441, R448). -/
def productPart (carry : Bool) (len : Nat) (a b : List Nat) (i : Nat) : Nat :=
  crossSum carry a b i (i - len) (min i len + 1 - (i - len))

/-- The terms of column `i` of the square of A (R442): cross terms doubled, which XOR cancels (R449). -/
def squarePart (carry : Bool) (len : Nat) (a : List Nat) (i : Nat) : Nat :=
  let cross := if carry then 2 * crossSum true a a i (i - len) ((i + 1) / 2 - (i - len)) else 0
  let middle := if i % 2 = 0 then mpMul carry (a.getD (i / 2) 0) (a.getD (i / 2) 0) else 0
  mpAdd carry cross middle

/-- The first loop of Montgomery multiplication, `fuel` columns from column `i` on: M and the accumulator. -/
def montFirst (carry : Bool) (part : Nat → Nat) (modulus : List Nat) (nPrime : Nat) :
    Nat → Nat → List Nat → Nat → List Nat × Nat
  | 0, _, m, acc => (m, acc)
  | fuel + 1, i, m, acc =>
    let acc := mpAdd carry acc (mpAdd carry (part i) (crossSum carry m modulus i 0 i))
    let mi := mpMul carry (acc % 2 ^ 64) nPrime % 2 ^ 64
    let acc := mpAdd carry acc (mpMul carry mi (modulus.getD 0 0)) / 2 ^ 64
    montFirst carry part modulus nPrime fuel (i + 1) (m ++ [mi]) acc

/-- The second loop, `fuel` columns from column `i` on: the words of X and the accumulator. -/
def montSecond (carry : Bool) (part : Nat → Nat) (modulus m : List Nat) (len : Nat) :
    Nat → Nat → List Nat → Nat → List Nat × Nat
  | 0, _, x, acc => (x, acc)
  | fuel + 1, i, x, acc =>
    let acc := mpAdd carry acc
      (mpAdd carry (part i) (crossSum carry m modulus i (i - len) (len + 1 - (i - len))))
    montSecond carry part modulus m len fuel (i + 1) (x ++ [acc % 2 ^ 64]) (acc / 2 ^ 64)

/-- ModReduction (R441). -/
def modReduction (acc x modulus len : Nat) : Nat :=
  let size := 2 ^ (64 * (len + 1))
  if acc ≠ 0 then (x + size - modulus) % size else if modulus ≤ x then x - modulus else x

/-- M and X of a Montgomery multiplication with Length = `len` (R441, R442, R448, R449). -/
def montgomeryResult (carry : Bool) (part : Nat → Nat) (modulus : List Nat) (nPrime len : Nat) : List Nat × Nat :=
  let first := montFirst carry part modulus nPrime (len + 1) 0 [] 0
  let second := montSecond carry part modulus first.1 len (len + 1) (len + 1) [] first.2
  let x := joinNat second.1
  (first.1, if carry then modReduction second.2 x (joinNat modulus) len else x)

end Sys2Proof.Machine
end

