-- ==== Sys2Proof/Machine/Integer.lean ====
section
/-!
DEFINITION. The integer instructions of spec file 40: arithmetic, logic, shifts, multiplies, divides, conditional
moves and bit counting. Every one reads its sources before it writes its destination and ends with PC and NPC
advanced (R199).
-/

namespace Sys2Proof.Machine

open Sys2Proof

/-- The outcome of an instruction whose one effect is `R[rd] ← v`. -/
def result (s : State) (rd : Reg) (v : Word64) : Out := .next (advance (writeR s rd v))

/-- The outcome of an instruction that writes R[rd] and CCR. -/
def resultCc (s : State) (rd : Reg) (v : Word64) (ccr : Ccr) : Out :=
  .next (advance { writeR s rd v with ccr := ccr })

/-! ## Arithmetic shared by several instructions -/

/-- The low word of a register as a signed number. -/
def signed32 (x : Word64) : Int := (field x 0 32).toInt

/-- The signed 64-bit product of two low words (R174). -/
def smulProduct (a b : Word64) : Word64 := BitVec.ofInt 64 (signed32 a * signed32 b)

/-- The unsigned 64-bit product of two low words (R189). -/
def umulProduct (a b : Word64) : Word64 := low32 a * low32 b

/-- The quotient of a 64-bit by 32-bit signed divide, saturated, and whether it overflowed (R164). -/
def sdivQuotient (y : BitVec 32) (a b : Word64) : Word64 × Bool :=
  let q := (y ++ field a 0 32).toInt.tdiv (signed32 b)
  if 2 ^ 31 ≤ q then (0x000000007FFFFFFF, true)
  else if q ≤ -(2 ^ 31) - 1 then (0xFFFFFFFF80000000, true)
  else (BitVec.ofInt 64 q, false)

/-- The quotient of a 64-bit by 32-bit unsigned divide, saturated, and whether it overflowed (R187). -/
def udivQuotient (y : BitVec 32) (a b : Word64) : Word64 × Bool :=
  let q := (y ++ field a 0 32).toNat / (field b 0 32).toNat
  if 2 ^ 32 ≤ q then (0x00000000FFFFFFFF, true) else (BitVec.ofNat 64 q, false)

/-- A 32-bit divide: division_by_zero, or the quotient written, Y left with a free value, and the condition
codes written by the cc forms (R164, R165, R187, R188). -/
def divide32 (quotient : BitVec 32 → Word64 → Word64 → Word64 × Bool) (cc : Bool) (rd rs1 : Reg)
    (op2 : RegImm 13) (s : State) : Out :=
  let b := operand2 s op2
  finish s do
    require (field b 0 32 != 0) .divisionByZero
    let q := quotient s.y (readR s rs1) b
    .ok (advance
      { writeR (drawn s) rd q.1 with
        y := field (freeValue s) 0 32
        ccr := if cc then divFlags q.1 q.2 else s.ccr })

/-- A 32-bit multiply: the product written, its upper word in Y, and the condition codes written by the cc forms
(R174, R175, R189, R190). -/
def multiply32 (product : Word64 → Word64 → Word64) (cc : Bool) (rd rs1 : Reg) (op2 : RegImm 13)
    (s : State) : Out :=
  let p := product (readR s rs1) (operand2 s op2)
  .next (advance { writeR s rd p with y := field p 32 32, ccr := if cc then logicFlags p else s.ccr })

/-- The XOR (carry-less) product of `a` and the low `n` bits of `b` (R446). -/
def xmulBits (a : Word128) (b : Word64) : Nat → Word128
  | 0 => 0
  | n + 1 => xmulBits a b n ^^^ (if bit b n then a <<< n else 0)

/-- The 128-bit XOR product (R446). -/
def xmul (a b : Word64) : Word128 := xmulBits (a.setWidth 128) b 64

/-- The number of 1 bits among the low `n` bits. -/
def onesBelow (x : Word64) : Nat → Nat
  | 0 => 0
  | n + 1 => onesBelow x n + (bit x n).toNat

/-- The number of consecutive 0 bits from bit `n - 1` downwards. -/
def zerosFrom (x : Word64) : Nat → Nat
  | 0 => 0
  | n + 1 => if bit x n then 0 else zerosFrom x n + 1

/-- The two 32-bit addends of a multiply step (R198). -/
def mulStep (s : State) (a b : Word64) : Word64 × Word64 :=
  let x := (flag (s.ccr.icc.n ^^ s.ccr.icc.v) ++ field a 1 31).setWidth 64
  let y := if bit s.y 0 then low32 b else 0
  (x, y)

/-- A conditional move on integer condition codes (R153). -/
def moveIcc (x : Cc) (rd : Reg) (cond : ICond) (op2 : RegImm 11) (s : State) : Out :=
  .next (advance (if icondTest cond x then writeR s rd (operand2 s op2) else s))

/-- A conditional move on FSR.fccn, which needs the FPU (R153). -/
def moveFcc (n : BitVec 2) (rd : Reg) (cond : FCond) (op2 : RegImm 11) (s : State) : Out :=
  finish s do
    needFpu s
    .ok (advance (if fcondTest cond (readFcc s n) then writeR s rd (operand2 s op2) else s))

/-- A conditional move on the contents of R[rs1] (R154). -/
def moveReg (c : RCond) (rd rs1 : Reg) (op2 : RegImm 10) (s : State) : Out :=
  .next (advance (if rcondTest c (readR s rs1) then writeR s rd (operand2 s op2) else s))

/-! ## Addition and subtraction -/

/-- ADD (R142): the sum. -/
def execADD (rd rs1 : Reg) (op2 : RegImm 13) (s : State) : Out :=
  result s rd (addSum (readR s rs1) (operand2 s op2) false)

/-- ADDcc (R143): the sum, and CCR. -/
def execADDcc (rd rs1 : Reg) (op2 : RegImm 13) (s : State) : Out :=
  resultCc s rd (addSum (readR s rs1) (operand2 s op2) false)
    (addFlags (readR s rs1) (operand2 s op2) false)

/-- ADDC (R144): the sum with icc.c. -/
def execADDC (rd rs1 : Reg) (op2 : RegImm 13) (s : State) : Out :=
  result s rd (addSum (readR s rs1) (operand2 s op2) s.ccr.icc.c)

/-- ADDCcc (R145): the sum with icc.c, and CCR. -/
def execADDCcc (rd rs1 : Reg) (op2 : RegImm 13) (s : State) : Out :=
  resultCc s rd (addSum (readR s rs1) (operand2 s op2) s.ccr.icc.c)
    (addFlags (readR s rs1) (operand2 s op2) s.ccr.icc.c)

/-- ADDXC (R146): the sum with xcc.c. -/
def execADDXC (rd rs1 rs2 : Reg) (s : State) : Out :=
  result s rd (addSum (readR s rs1) (readR s rs2) s.ccr.xcc.c)

/-- ADDXCcc (R147): the sum with xcc.c, and CCR. -/
def execADDXCcc (rd rs1 rs2 : Reg) (s : State) : Out :=
  resultCc s rd (addSum (readR s rs1) (readR s rs2) s.ccr.xcc.c)
    (addFlags (readR s rs1) (readR s rs2) s.ccr.xcc.c)

/-- SUB (R176): the difference. -/
def execSUB (rd rs1 : Reg) (op2 : RegImm 13) (s : State) : Out :=
  result s rd (subDiff (readR s rs1) (operand2 s op2) false)

/-- SUBcc (R177): the difference, and CCR. -/
def execSUBcc (rd rs1 : Reg) (op2 : RegImm 13) (s : State) : Out :=
  resultCc s rd (subDiff (readR s rs1) (operand2 s op2) false)
    (subFlags (readR s rs1) (operand2 s op2) false)

/-- SUBC (R178): the difference less icc.c. -/
def execSUBC (rd rs1 : Reg) (op2 : RegImm 13) (s : State) : Out :=
  result s rd (subDiff (readR s rs1) (operand2 s op2) s.ccr.icc.c)

/-- SUBCcc (R179): the difference less icc.c, and CCR. -/
def execSUBCcc (rd rs1 : Reg) (op2 : RegImm 13) (s : State) : Out :=
  resultCc s rd (subDiff (readR s rs1) (operand2 s op2) s.ccr.icc.c)
    (subFlags (readR s rs1) (operand2 s op2) s.ccr.icc.c)

/-- SUBXC (R180): the difference less xcc.c. -/
def execSUBXC (rd rs1 rs2 : Reg) (s : State) : Out :=
  result s rd (subDiff (readR s rs1) (readR s rs2) s.ccr.xcc.c)

/-- SUBXCcc (R181): the difference less xcc.c, and CCR. -/
def execSUBXCcc (rd rs1 rs2 : Reg) (s : State) : Out :=
  resultCc s rd (subDiff (readR s rs1) (readR s rs2) s.ccr.xcc.c)
    (subFlags (readR s rs1) (readR s rs2) s.ccr.xcc.c)

/-! ## Tagged arithmetic -/

/-- TADDcc (R183): the sum; icc.v is the tag overflow. -/
def execTADDcc (rd rs1 : Reg) (op2 : RegImm 13) (s : State) : Out :=
  resultCc s rd (addSum (readR s rs1) (operand2 s op2) false)
    ((addFlags (readR s rs1) (operand2 s op2) false).withIccV (tagAddOverflow (readR s rs1) (operand2 s op2)))

/-- TSUBcc (R185): the difference; icc.v is the tag overflow. -/
def execTSUBcc (rd rs1 : Reg) (op2 : RegImm 13) (s : State) : Out :=
  resultCc s rd (subDiff (readR s rs1) (operand2 s op2) false)
    ((subFlags (readR s rs1) (operand2 s op2) false).withIccV (tagSubOverflow (readR s rs1) (operand2 s op2)))

/-- TADDccTV (R184): tag_overflow, or the sum with icc.v = 0. -/
def execTADDccTV (rd rs1 : Reg) (op2 : RegImm 13) (s : State) : Out :=
  finish s do
    require (!tagAddOverflow (readR s rs1) (operand2 s op2)) .tagOverflow
    .ok (advance
      { writeR s rd (addSum (readR s rs1) (operand2 s op2) false) with
        ccr := (addFlags (readR s rs1) (operand2 s op2) false).withIccV false })

/-- TSUBccTV (R186): tag_overflow, or the difference with icc.v = 0. -/
def execTSUBccTV (rd rs1 : Reg) (op2 : RegImm 13) (s : State) : Out :=
  finish s do
    require (!tagSubOverflow (readR s rs1) (operand2 s op2)) .tagOverflow
    .ok (advance
      { writeR s rd (subDiff (readR s rs1) (operand2 s op2) false) with
        ccr := (subFlags (readR s rs1) (operand2 s op2) false).withIccV false })

/-! ## Logical operations -/

/-- AND (R148): conjunction. -/
def execAND (rd rs1 : Reg) (op2 : RegImm 13) (s : State) : Out :=
  result s rd (readR s rs1 &&& operand2 s op2)

/-- ANDcc (R149): conjunction, and CCR. -/
def execANDcc (rd rs1 : Reg) (op2 : RegImm 13) (s : State) : Out :=
  resultCc s rd (readR s rs1 &&& operand2 s op2) (logicFlags (readR s rs1 &&& operand2 s op2))

/-- ANDN (R150): conjunction with the complement. -/
def execANDN (rd rs1 : Reg) (op2 : RegImm 13) (s : State) : Out :=
  result s rd (readR s rs1 &&& ~~~operand2 s op2)

/-- ANDNcc (R151): conjunction with the complement, and CCR. -/
def execANDNcc (rd rs1 : Reg) (op2 : RegImm 13) (s : State) : Out :=
  resultCc s rd (readR s rs1 &&& ~~~operand2 s op2) (logicFlags (readR s rs1 &&& ~~~operand2 s op2))

/-- OR (R159): disjunction. -/
def execOR (rd rs1 : Reg) (op2 : RegImm 13) (s : State) : Out :=
  result s rd (readR s rs1 ||| operand2 s op2)

/-- ORcc (R160): disjunction, and CCR. -/
def execORcc (rd rs1 : Reg) (op2 : RegImm 13) (s : State) : Out :=
  resultCc s rd (readR s rs1 ||| operand2 s op2) (logicFlags (readR s rs1 ||| operand2 s op2))

/-- ORN (R161): disjunction with the complement. -/
def execORN (rd rs1 : Reg) (op2 : RegImm 13) (s : State) : Out :=
  result s rd (readR s rs1 ||| ~~~operand2 s op2)

/-- ORNcc (R162): disjunction with the complement, and CCR. -/
def execORNcc (rd rs1 : Reg) (op2 : RegImm 13) (s : State) : Out :=
  resultCc s rd (readR s rs1 ||| ~~~operand2 s op2) (logicFlags (readR s rs1 ||| ~~~operand2 s op2))

/-- XOR (R194): exclusive or. -/
def execXOR (rd rs1 : Reg) (op2 : RegImm 13) (s : State) : Out :=
  result s rd (readR s rs1 ^^^ operand2 s op2)

/-- XORcc (R195): exclusive or, and CCR. -/
def execXORcc (rd rs1 : Reg) (op2 : RegImm 13) (s : State) : Out :=
  resultCc s rd (readR s rs1 ^^^ operand2 s op2) (logicFlags (readR s rs1 ^^^ operand2 s op2))

/-- XNOR (R196): complement of the exclusive or. -/
def execXNOR (rd rs1 : Reg) (op2 : RegImm 13) (s : State) : Out :=
  result s rd (~~~(readR s rs1 ^^^ operand2 s op2))

/-- XNORcc (R197): complement of the exclusive or, and CCR. -/
def execXNORcc (rd rs1 : Reg) (op2 : RegImm 13) (s : State) : Out :=
  resultCc s rd (~~~(readR s rs1 ^^^ operand2 s op2)) (logicFlags (~~~(readR s rs1 ^^^ operand2 s op2)))

/-! ## Shifts -/

/-- SLL (R168): all 64 bits shifted left by 0 to 31. -/
def execSLL (rd rs1 : Reg) (count : RegImm 5) (s : State) : Out :=
  result s rd (readR s rs1 <<< shiftCount32 s count)

/-- SRL (R169): the low word shifted right, zero-extended. -/
def execSRL (rd rs1 : Reg) (count : RegImm 5) (s : State) : Out :=
  result s rd (zext64 (field (readR s rs1) 0 32 >>> shiftCount32 s count))

/-- SRA (R170): the low word shifted right arithmetically, sign-extended. -/
def execSRA (rd rs1 : Reg) (count : RegImm 5) (s : State) : Out :=
  result s rd (sext64 ((field (readR s rs1) 0 32).sshiftRight (shiftCount32 s count)))

/-- SLLX (R171): 64 bits shifted left by 0 to 63. -/
def execSLLX (rd rs1 : Reg) (count : RegImm 6) (s : State) : Out :=
  result s rd (readR s rs1 <<< shiftCount64 s count)

/-- SRLX (R172): 64 bits shifted right. -/
def execSRLX (rd rs1 : Reg) (count : RegImm 6) (s : State) : Out :=
  result s rd (readR s rs1 >>> shiftCount64 s count)

/-- SRAX (R173): 64 bits shifted right arithmetically. -/
def execSRAX (rd rs1 : Reg) (count : RegImm 6) (s : State) : Out :=
  result s rd ((readR s rs1).sshiftRight (shiftCount64 s count))

/-! ## Multiplication and division -/

/-- MULX (R155): the low 64 bits of the product. -/
def execMULX (rd rs1 : Reg) (op2 : RegImm 13) (s : State) : Out :=
  result s rd (readR s rs1 * operand2 s op2)

/-- UMULXHI (R191): the high 64 bits of the unsigned product. -/
def execUMULXHI (rd rs1 rs2 : Reg) (s : State) : Out :=
  result s rd (BitVec.ofNat 64 ((readR s rs1).toNat * (readR s rs2).toNat / 2 ^ 64))

/-- XMULX (R192): the low 64 bits of the XOR product. -/
def execXMULX (rd rs1 rs2 : Reg) (s : State) : Out :=
  result s rd (field (xmul (readR s rs1) (readR s rs2)) 0 64)

/-- XMULXHI (R193): the high 64 bits of the XOR product. -/
def execXMULXHI (rd rs1 rs2 : Reg) (s : State) : Out :=
  result s rd (field (xmul (readR s rs1) (readR s rs2)) 64 64)

/-- SDIVX (R156): division_by_zero, or the signed quotient truncated toward zero. -/
def execSDIVX (rd rs1 : Reg) (op2 : RegImm 13) (s : State) : Out :=
  finish s do
    require (operand2 s op2 != 0) .divisionByZero
    .ok (advance (writeR s rd (BitVec.ofInt 64 ((readR s rs1).toInt.tdiv (operand2 s op2).toInt))))

/-- UDIVX (R157): division_by_zero, or the unsigned quotient. -/
def execUDIVX (rd rs1 : Reg) (op2 : RegImm 13) (s : State) : Out :=
  finish s do
    require (operand2 s op2 != 0) .divisionByZero
    .ok (advance (writeR s rd (BitVec.ofNat 64 ((readR s rs1).toNat / (operand2 s op2).toNat))))

/-- SMUL (R174): the signed product of the low words. -/
def execSMUL (rd rs1 : Reg) (op2 : RegImm 13) (s : State) : Out :=
  multiply32 smulProduct false rd rs1 op2 s

/-- SMULcc (R175): the signed product of the low words, and CCR. -/
def execSMULcc (rd rs1 : Reg) (op2 : RegImm 13) (s : State) : Out :=
  multiply32 smulProduct true rd rs1 op2 s

/-- UMUL (R189): the unsigned product of the low words. -/
def execUMUL (rd rs1 : Reg) (op2 : RegImm 13) (s : State) : Out :=
  multiply32 umulProduct false rd rs1 op2 s

/-- UMULcc (R190): the unsigned product of the low words, and CCR. -/
def execUMULcc (rd rs1 : Reg) (op2 : RegImm 13) (s : State) : Out :=
  multiply32 umulProduct true rd rs1 op2 s

/-- SDIV (R164): division_by_zero, or the saturated signed quotient. -/
def execSDIV (rd rs1 : Reg) (op2 : RegImm 13) (s : State) : Out :=
  divide32 sdivQuotient false rd rs1 op2 s

/-- SDIVcc (R165): as SDIV, and CCR. -/
def execSDIVcc (rd rs1 : Reg) (op2 : RegImm 13) (s : State) : Out :=
  divide32 sdivQuotient true rd rs1 op2 s

/-- UDIV (R187): division_by_zero, or the saturated unsigned quotient. -/
def execUDIV (rd rs1 : Reg) (op2 : RegImm 13) (s : State) : Out :=
  divide32 udivQuotient false rd rs1 op2 s

/-- UDIVcc (R188): as UDIV, and CCR. -/
def execUDIVcc (rd rs1 : Reg) (op2 : RegImm 13) (s : State) : Out :=
  divide32 udivQuotient true rd rs1 op2 s

/-- MULScc (R198): one step of a multiplication. The upper word of R[rd] and xcc follow the spec's choice D29. -/
def execMULScc (rd rs1 : Reg) (op2 : RegImm 13) (s : State) : Out :=
  let m := mulStep s (readR s rs1) (operand2 s op2)
  .next (advance
    { writeR s rd (m.1 + m.2) with
      y := flag (bit (readR s rs1) 0) ++ field s.y 1 31
      ccr := addFlags m.1 m.2 false })

/-! ## Bit counting, constants -/

/-- POPC (R163): the number of 1 bits. -/
def execPOPC (rd : Reg) (op2 : RegImm 13) (s : State) : Out :=
  result s rd (BitVec.ofNat 64 (onesBelow (operand2 s op2) 64))

/-- LZCNT (R152): the number of leading 0 bits. -/
def execLZCNT (rd rs2 : Reg) (s : State) : Out :=
  result s rd (BitVec.ofNat 64 (zerosFrom (readR s rs2) 64))

/-- SETHI (R166): bits 31:10 of R[rd], the rest 0. -/
def execSETHI (rd : Reg) (imm22 : BitVec 22) (s : State) : Out :=
  result s rd (zext64 (imm22 ++ (0 : BitVec 10)))

/-- NOP (R158). -/
def execNOP (s : State) : Out := .next (advance s)

/-! ## Conditional moves -/

/-- MOVicc (R153): on CCR.icc. -/
def execMOVicc (rd : Reg) (cond : ICond) (op2 : RegImm 11) (s : State) : Out :=
  moveIcc s.ccr.icc rd cond op2 s

/-- MOVxcc (R153): on CCR.xcc. -/
def execMOVxcc (rd : Reg) (cond : ICond) (op2 : RegImm 11) (s : State) : Out :=
  moveIcc s.ccr.xcc rd cond op2 s

/-- MOVfcc0 (R153): on FSR.fcc0. -/
def execMOVfcc0 (rd : Reg) (cond : FCond) (op2 : RegImm 11) (s : State) : Out :=
  moveFcc 0 rd cond op2 s

/-- MOVfcc1 (R153): on FSR.fcc1. -/
def execMOVfcc1 (rd : Reg) (cond : FCond) (op2 : RegImm 11) (s : State) : Out :=
  moveFcc 1 rd cond op2 s

/-- MOVfcc2 (R153): on FSR.fcc2. -/
def execMOVfcc2 (rd : Reg) (cond : FCond) (op2 : RegImm 11) (s : State) : Out :=
  moveFcc 2 rd cond op2 s

/-- MOVfcc3 (R153): on FSR.fcc3. -/
def execMOVfcc3 (rd : Reg) (cond : FCond) (op2 : RegImm 11) (s : State) : Out :=
  moveFcc 3 rd cond op2 s

/-- MOVRZ (R154): when R[rs1] is zero. -/
def execMOVRZ (rd rs1 : Reg) (op2 : RegImm 10) (s : State) : Out :=
  moveReg .z rd rs1 op2 s

/-- MOVRLEZ (R154): when R[rs1] is not positive. -/
def execMOVRLEZ (rd rs1 : Reg) (op2 : RegImm 10) (s : State) : Out :=
  moveReg .lez rd rs1 op2 s

/-- MOVRLZ (R154): when R[rs1] is negative. -/
def execMOVRLZ (rd rs1 : Reg) (op2 : RegImm 10) (s : State) : Out :=
  moveReg .lz rd rs1 op2 s

/-- MOVRNZ (R154): when R[rs1] is not zero. -/
def execMOVRNZ (rd rs1 : Reg) (op2 : RegImm 10) (s : State) : Out :=
  moveReg .nz rd rs1 op2 s

/-- MOVRGZ (R154): when R[rs1] is positive. -/
def execMOVRGZ (rd rs1 : Reg) (op2 : RegImm 10) (s : State) : Out :=
  moveReg .gz rd rs1 op2 s

/-- MOVRGEZ (R154): when R[rs1] is not negative. -/
def execMOVRGEZ (rd rs1 : Reg) (op2 : RegImm 10) (s : State) : Out :=
  moveReg .gez rd rs1 op2 s

end Sys2Proof.Machine
end

