-- ==== Sys2Proof/Machine/Vis.lean ====
section
/-!
DEFINITION. The VIS instructions of spec file 47. None is an FPop: none changes FSR. All but the EDGE and ARRAY
instructions need the FPU. A register is taken as lanes of one width, lane 0 the least significant.
-/

namespace Sys2Proof.Machine

open Sys2Proof

/-! ## Lanes -/

/-- A register of `n` bits whose lane `k` of width `w` is `g k`. -/
def buildLanes (n w count : Nat) (g : Nat → BitVec w) : BitVec n :=
  BitVec.ofNat n ((List.range count).foldr (fun k acc => (g k).toNat + 2 ^ w * acc) 0)

/-- Lane `k` of width `w`. -/
def lane {n : Nat} (w k : Nat) (x : BitVec n) : BitVec w := field x (w * k) w

/-- A function of two lanes of width `w`, applied to every pair of lanes. -/
def zipLanes {n : Nat} (w : Nat) (f : BitVec w → BitVec w → BitVec w) (a b : BitVec n) : BitVec n :=
  buildLanes n w (n / w) fun k => f (lane w k a) (lane w k b)

/-- `x` moved into the range `lo` to `hi`. -/
def clip (lo hi x : Int) : Int := if x < lo then lo else if hi < x then hi else x

/-- A sum or difference saturated as a signed lane (R391, R401). -/
def signedSat (w : Nat) (x : Int) : BitVec w :=
  BitVec.ofInt w (clip (-(2 ^ (w - 1))) (2 ^ (w - 1) - 1) x)

/-- A sum or difference saturated as an unsigned lane (R392, R402). -/
def unsignedSat (w : Nat) (x : Int) : BitVec w := BitVec.ofInt w (clip 0 (2 ^ w - 1) x)

/-- Signed addition with saturation (R391). -/
def addSat {w : Nat} (a b : BitVec w) : BitVec w := signedSat w (a.toInt + b.toInt)

/-- Signed subtraction with saturation (R401). -/
def subSat {w : Nat} (a b : BitVec w) : BitVec w := signedSat w (a.toInt - b.toInt)

/-- Unsigned addition with saturation (R392). -/
def addUsat {w : Nat} (a b : BitVec w) : BitVec w := unsignedSat w ((a.toNat : Int) + (b.toNat : Int))

/-- Unsigned subtraction with saturation (R402). -/
def subUsat {w : Nat} (a b : BitVec w) : BitVec w := unsignedSat w ((a.toNat : Int) - (b.toNat : Int))

/-- The larger or smaller of two lanes: `lt a b` says that `a` is below `b` (R397, R399). -/
def pickMax {w : Nat} (lt : BitVec w → BitVec w → Bool) (a b : BitVec w) : BitVec w := if lt a b then b else a

/-- The smaller of two lanes (R399). -/
def pickMin {w : Nat} (lt : BitVec w → BitVec w → Bool) (a b : BitVec w) : BitVec w := if lt a b then a else b

/-- One's-complement addition (R377). -/
def checksumAdd (a b : BitVec 16) : BitVec 16 :=
  let t := a.toNat + b.toNat
  BitVec.ofNat 16 (t % 2 ^ 16 + t / 2 ^ 16)

/-- The mean of two lanes: an arithmetic shift of a + b + 1 (R379). -/
def meanLane (a b : BitVec 16) : BitVec 16 := BitVec.ofInt 16 ((a.toInt + b.toInt + 1) / 2)

/-- A product rounded at bit 8, half up (R380, R383). -/
def roundedHigh8 (p : Int) : BitVec 16 := BitVec.ofInt 16 ((p + 0x80) / 2 ^ 8)

/-- A product rounded at bit 16, half up (R384). -/
def roundedHigh16 (p : Int) : BitVec 16 := BitVec.ofInt 16 ((p + 0x8000) / 2 ^ 16)

/-- Left shift of a lane by the low bits of another lane (R409): the count is modulo the width. -/
def shiftLane {w : Nat} (f : BitVec w → Nat → BitVec w) (a b : BitVec w) : BitVec w := f a (b.toNat % w)

/-- FSLAS (R409): a left shift that saturates. -/
def shiftLeftSat {w : Nat} (a : BitVec w) (n : Nat) : BitVec w := signedSat w (a.toInt * 2 ^ n)

/-- A comparison of every pair of lanes, lane `k` to bit `k` (R393, R394). -/
def compareLanes (w : Nat) (cmp : BitVec w → BitVec w → Bool) (a b : Word64) : Word64 :=
  buildLanes 64 1 (64 / w) fun k => flag (cmp (lane w k a) (lane w k b))

/-- Signed lanes: a > b. -/
def sgt {w : Nat} (a b : BitVec w) : Bool := b.slt a

/-- Unsigned lanes: a > b. -/
def ugt {w : Nat} (a b : BitVec w) : Bool := b.ult a

/-- The sum of the absolute differences of the eight bytes (R415, R416). -/
def pixelDistance (a b : Word64) : Word64 :=
  BitVec.ofNat 64 ((List.range 8).foldl
    (fun acc k => acc + ((lane 8 k a).toNat - (lane 8 k b).toNat) + ((lane 8 k b).toNat - (lane 8 k a).toNat)) 0)

/-! ## Forms -/

/-- The outcome of an instruction that needs the FPU and writes F_D[rd]. -/
def toFD (rd : DReg) (v : Word64) (s : State) : Out :=
  finish s do
    needFpu s
    .ok (advance (writeFD s rd v))

/-- The outcome of an instruction that needs the FPU and writes F_S[rd]. -/
def toFS (rd : FReg) (v : Word32) (s : State) : Out :=
  finish s do
    needFpu s
    .ok (advance (writeFS s rd v))

/-- The outcome of an instruction that needs the FPU and writes R[rd]. -/
def toR (rd : Reg) (v : Word64) (s : State) : Out :=
  finish s do
    needFpu s
    .ok (advance (writeR s rd v))

/-- The outcome of an instruction that needs the FPU and writes R[rd] and GSR. -/
def toRGsr (rd : Reg) (v : Word64) (gsr : Gsr) (s : State) : Out :=
  finish s do
    needFpu s
    .ok (advance { writeR s rd v with gsr := gsr })

/-- The outcome of an instruction that needs the FPU and writes GSR.mask. -/
def toMask (mask : BitVec 32) (s : State) : Out :=
  finish s do
    needFpu s
    .ok (advance { s with gsr := { s.gsr with mask := mask } })

/-- Two double sources and a double destination. -/
def fd2 (f : Word64 → Word64 → Word64) (rd rs1 rs2 : DReg) (s : State) : Out :=
  toFD rd (f (readFD s rs1) (readFD s rs2)) s

/-- Two single sources and a single destination. -/
def fs2 (f : Word32 → Word32 → Word32) (rd rs1 rs2 : FReg) (s : State) : Out :=
  toFS rd (f (readFS s rs1) (readFS s rs2)) s

/-- Two double sources and an integer destination. -/
def fdToR (f : Word64 → Word64 → Word64) (rd : Reg) (rs1 rs2 : DReg) (s : State) : Out :=
  toR rd (f (readFD s rs1) (readFD s rs2)) s

/-! ## Address and edge computations -/

/-- The blocked address of ARRAY8 (R354); `n` is the size code, 0 to 5. -/
def blockedAddress (a : Word64) (n : Nat) : Word64 :=
  let x := (field a 11 11).toNat
  let y := (field a 33 11).toNat
  let z := (field a 55 9).toNat
  BitVec.ofNat 64 (x % 4 + y % 4 * 2 ^ 2 + z % 2 * 2 ^ 4 + x / 4 % 16 * 2 ^ 5 + y / 4 % 16 * 2 ^ 9
    + z / 2 % 16 * 2 ^ 13 + x / 64 % 2 ^ n * 2 ^ 17 + y / 64 % 2 ^ n * 2 ^ (17 + n) + z / 32 * 2 ^ (17 + 2 * n))

/-- ARRAY8, ARRAY16 and ARRAY32 (R354 to R356): a size code above 5 leaves a free value in R[rd]. -/
def arrayAddress (shift : Nat) (rd rs1 rs2 : Reg) (s : State) : Out :=
  let n := (readR s rs2).toNat
  if n ≤ 5 then result s rd (blockedAddress (readR s rs1) n <<< shift)
  else result (drawn s) rd (freeValue s)

/-- The mask of pixels from the one at `a1` onwards (R362). -/
def leftMask (size : Nat) (little : Bool) (a1 : Word64) : Nat :=
  let e := a1.toNat % 8 / (size / 8)
  if little then 2 ^ (64 / size) - 2 ^ e else 2 ^ (64 / size - e) - 1

/-- The mask of pixels up to the one at `a2` (R362). -/
def rightMask (size : Nat) (little : Bool) (a2 : Word64) : Nat :=
  let e := a2.toNat % 8 / (size / 8)
  if little then 2 ^ (e + 1) - 1 else 2 ^ (64 / size) - 2 ^ (64 / size - 1 - e)

/-- The edge mask (R362); `am` is PSTATE.am. -/
def edgeMask (size : Nat) (little am : Bool) (a1 a2 : Word64) : Word64 :=
  let same := if am then field a1 3 29 == field a2 3 29 else field a1 3 61 == field a2 3 61
  BitVec.ofNat 64 (if same then rightMask size little a2 &&& leftMask size little a1 else leftMask size little a1)

/-- An EDGE instruction that leaves the condition codes (R363 to R368). -/
def edge (size : Nat) (little : Bool) (rd rs1 rs2 : Reg) (s : State) : Out :=
  result s rd (edgeMask size little s.pstate.am (readR s rs1) (readR s rs2))

/-- An EDGE instruction that sets the condition codes of a subtraction (R369 to R374). -/
def edgeCc (size : Nat) (little : Bool) (rd rs1 rs2 : Reg) (s : State) : Out :=
  resultCc s rd (edgeMask size little s.pstate.am (readR s rs1) (readR s rs2))
    (subFlags (readR s rs1) (readR s rs2) false)

/-- Bytes `k` to `k + 7` of `hi :: lo`, byte 0 the most significant (R375). -/
def alignBytes (hi lo : Word64) (k : Nat) : Word64 := field (hi ++ lo) (8 * (8 - k)) 64

/-- BSHUFFLE (R358): each nibble of the mask names a byte of `hi :: lo`, byte 0 the most significant. -/
def shuffleBytes (mask : BitVec 32) (hi lo : Word64) : Word64 :=
  buildLanes 64 8 8 fun j => lane 8 (15 - (lane 4 j mask).toNat) (hi ++ lo)

/-- A byte shuffle mask made of one of two values for each element (R359 to R361): bit `j` of `x` chooses
`first - step * j` or `second - step * j`. -/
def chooseMask (w : Nat) (ones zeros : Nat → BitVec w) (x : Word64) : BitVec 32 :=
  buildLanes 32 w (32 / w) fun j => if bit x j then ones j else zeros j

/-! ## Packing -/

/-- A signed lane scaled, shifted and clipped (R387 to R389). -/
def packed {n : Nat} (m : Nat) (x : BitVec n) (scale point : Nat) (lo hi : Int) : BitVec m :=
  BitVec.ofInt m (clip lo hi (x.toInt * 2 ^ scale / 2 ^ point))

/-- FPACK16 (R387): only GSR.scale{3:0} is used. -/
def pack16 (scale : BitVec 5) (x : Word64) : Word32 :=
  buildLanes 32 8 4 fun k => packed 8 (lane 16 k x) (scale.toNat % 16) 7 0 255

/-- FPACK32 (R388). -/
def pack32 (scale : BitVec 5) (a x : Word64) : Word64 :=
  buildLanes 64 32 2 fun k => field (lane 32 k a) 0 24 ++ packed 8 (lane 32 k x) scale.toNat 23 0 255

/-- FPACKFIX (R389). -/
def packFix (scale : BitVec 5) (x : Word64) : Word32 :=
  buildLanes 32 16 2 fun k => packed 16 (lane 32 k x) scale.toNat 16 (-32768) 32767

/-- A product of four unsigned bytes and four signed 16-bit multipliers (R380 to R382). -/
def byteProducts (a : Word32) (b : Nat → BitVec 16) : Word64 :=
  buildLanes 64 16 4 fun k => roundedHigh8 (((lane 8 k a).toNat : Int) * (b k).toInt)

/-- FPMERGE (R398). -/
def mergeBytes (a b : Word32) : Word64 :=
  buildLanes 64 8 8 fun k => if k % 2 = 1 then lane 8 (k / 2) a else lane 8 (k / 2) b

/-- FEXPAND (R378). -/
def expandBytes (x : Word32) : Word64 := buildLanes 64 16 4 fun k => (lane 8 k x).setWidth 16 <<< 4

/-! ## Address, mask and edge instructions -/

/-- ALIGNADDRESS (R352). -/
def execALIGNADDRESS (rd rs1 rs2 : Reg) (s : State) : Out :=
  let sum := readR s rs1 + readR s rs2
  toRGsr rd (sum &&& ~~~7) { s.gsr with align := field sum 0 3 } s

/-- ALIGNADDRESS_LITTLE (R353). -/
def execALIGNADDRESS_LITTLE (rd rs1 rs2 : Reg) (s : State) : Out :=
  let sum := readR s rs1 + readR s rs2
  toRGsr rd (sum &&& ~~~7) { s.gsr with align := -(field sum 0 3) } s

/-- ARRAY8 (R354). -/
def execARRAY8 (rd rs1 rs2 : Reg) (s : State) : Out :=
  arrayAddress 0 rd rs1 rs2 s

/-- ARRAY16 (R355). -/
def execARRAY16 (rd rs1 rs2 : Reg) (s : State) : Out :=
  arrayAddress 1 rd rs1 rs2 s

/-- ARRAY32 (R356). -/
def execARRAY32 (rd rs1 rs2 : Reg) (s : State) : Out :=
  arrayAddress 2 rd rs1 rs2 s

/-- BMASK (R357). -/
def execBMASK (rd rs1 rs2 : Reg) (s : State) : Out :=
  let sum := readR s rs1 + readR s rs2
  toRGsr rd sum { s.gsr with mask := field sum 0 32 } s

/-- BSHUFFLE (R358). -/
def execBSHUFFLE (rd rs1 rs2 : DReg) (s : State) : Out :=
  fd2 (shuffleBytes s.gsr.mask) rd rs1 rs2 s

/-- CMASK8 (R359). -/
def execCMASK8 (rs2 : Reg) (s : State) : Out :=
  toMask (chooseMask 4 (fun j => BitVec.ofNat 4 (7 - j)) (fun j => BitVec.ofNat 4 (15 - j)) (readR s rs2)) s

/-- CMASK16 (R360). -/
def execCMASK16 (rs2 : Reg) (s : State) : Out :=
  toMask (chooseMask 8 (fun j => BitVec.ofNat 8 (0x67 - 0x22 * j)) (fun j => BitVec.ofNat 8 (0xEF - 0x22 * j))
    (readR s rs2)) s

/-- CMASK32 (R361). -/
def execCMASK32 (rs2 : Reg) (s : State) : Out :=
  toMask (chooseMask 16 (fun j => BitVec.ofNat 16 (0x4567 - 0x4444 * j))
    (fun j => BitVec.ofNat 16 (0xCDEF - 0x4444 * j)) (readR s rs2)) s

/-- EDGE8N (R363). -/
def execEDGE8N (rd rs1 rs2 : Reg) (s : State) : Out :=
  edge 8 false rd rs1 rs2 s

/-- EDGE8LN (R364). -/
def execEDGE8LN (rd rs1 rs2 : Reg) (s : State) : Out :=
  edge 8 true rd rs1 rs2 s

/-- EDGE16N (R365). -/
def execEDGE16N (rd rs1 rs2 : Reg) (s : State) : Out :=
  edge 16 false rd rs1 rs2 s

/-- EDGE16LN (R366). -/
def execEDGE16LN (rd rs1 rs2 : Reg) (s : State) : Out :=
  edge 16 true rd rs1 rs2 s

/-- EDGE32N (R367). -/
def execEDGE32N (rd rs1 rs2 : Reg) (s : State) : Out :=
  edge 32 false rd rs1 rs2 s

/-- EDGE32LN (R368). -/
def execEDGE32LN (rd rs1 rs2 : Reg) (s : State) : Out :=
  edge 32 true rd rs1 rs2 s

/-- EDGE8cc (R369). -/
def execEDGE8cc (rd rs1 rs2 : Reg) (s : State) : Out :=
  edgeCc 8 false rd rs1 rs2 s

/-- EDGE8Lcc (R370). -/
def execEDGE8Lcc (rd rs1 rs2 : Reg) (s : State) : Out :=
  edgeCc 8 true rd rs1 rs2 s

/-- EDGE16cc (R371). -/
def execEDGE16cc (rd rs1 rs2 : Reg) (s : State) : Out :=
  edgeCc 16 false rd rs1 rs2 s

/-- EDGE16Lcc (R372). -/
def execEDGE16Lcc (rd rs1 rs2 : Reg) (s : State) : Out :=
  edgeCc 16 true rd rs1 rs2 s

/-- EDGE32cc (R373). -/
def execEDGE32cc (rd rs1 rs2 : Reg) (s : State) : Out :=
  edgeCc 32 false rd rs1 rs2 s

/-- EDGE32Lcc (R374). -/
def execEDGE32Lcc (rd rs1 rs2 : Reg) (s : State) : Out :=
  edgeCc 32 true rd rs1 rs2 s

/-- FALIGNDATAg (R375). -/
def execFALIGNDATAg (rd rs1 rs2 : DReg) (s : State) : Out :=
  fd2 (fun a b => alignBytes a b s.gsr.align.toNat) rd rs1 rs2 s

/-- FALIGNDATAi (R376). -/
def execFALIGNDATAi (rd : DReg) (rs1 : Reg) (rs2 : DReg) (s : State) : Out :=
  fd2 (fun a b => alignBytes a b (field (readR s rs1) 0 3).toNat) rd rd rs2 s

/-! ## Pixel arithmetic -/

/-- FCHKSM16 (R377). -/
def execFCHKSM16 (rd rs1 rs2 : DReg) (s : State) : Out :=
  fd2 (zipLanes 16 checksumAdd) rd rs1 rs2 s

/-- FEXPAND (R378). -/
def execFEXPAND (rd : DReg) (rs2 : FReg) (s : State) : Out :=
  toFD rd (expandBytes (readFS s rs2)) s

/-- FMEAN16 (R379). -/
def execFMEAN16 (rd rs1 rs2 : DReg) (s : State) : Out :=
  fd2 (zipLanes 16 meanLane) rd rs1 rs2 s

/-- FMUL8x16 (R380). -/
def execFMUL8x16 (rd : DReg) (rs1 : FReg) (rs2 : DReg) (s : State) : Out :=
  toFD rd (byteProducts (readFS s rs1) fun k => lane 16 k (readFD s rs2)) s

/-- FMUL8x16AU (R381). -/
def execFMUL8x16AU (rd : DReg) (rs1 rs2 : FReg) (s : State) : Out :=
  toFD rd (byteProducts (readFS s rs1) fun _ => lane 16 1 (readFS s rs2)) s

/-- FMUL8x16AL (R382). -/
def execFMUL8x16AL (rd : DReg) (rs1 rs2 : FReg) (s : State) : Out :=
  toFD rd (byteProducts (readFS s rs1) fun _ => lane 16 0 (readFS s rs2)) s

/-- FMUL8SUx16 (R383). -/
def execFMUL8SUx16 (rd rs1 rs2 : DReg) (s : State) : Out :=
  fd2 (zipLanes 16 fun a b => roundedHigh8 ((field a 8 8).toInt * b.toInt)) rd rs1 rs2 s

/-- FMUL8ULx16 (R384). -/
def execFMUL8ULx16 (rd rs1 rs2 : DReg) (s : State) : Out :=
  fd2 (zipLanes 16 fun a b => roundedHigh16 (((field a 0 8).toNat : Int) * b.toInt)) rd rs1 rs2 s

/-- FMULD8SUx16 (R385). -/
def execFMULD8SUx16 (rd : DReg) (rs1 rs2 : FReg) (s : State) : Out :=
  toFD rd (buildLanes 64 32 2 fun j =>
    BitVec.ofInt 32 ((field (lane 16 j (readFS s rs1)) 8 8).toInt * (lane 16 j (readFS s rs2)).toInt * 2 ^ 8)) s

/-- FMULD8ULx16 (R386). -/
def execFMULD8ULx16 (rd : DReg) (rs1 rs2 : FReg) (s : State) : Out :=
  toFD rd (buildLanes 64 32 2 fun j =>
    BitVec.ofInt 32 (((field (lane 16 j (readFS s rs1)) 0 8).toNat : Int) * (lane 16 j (readFS s rs2)).toInt)) s

/-- FPACK16 (R387). -/
def execFPACK16 (rd : FReg) (rs2 : DReg) (s : State) : Out :=
  toFS rd (pack16 s.gsr.scale (readFD s rs2)) s

/-- FPACK32 (R388). -/
def execFPACK32 (rd rs1 rs2 : DReg) (s : State) : Out :=
  fd2 (pack32 s.gsr.scale) rd rs1 rs2 s

/-- FPACKFIX (R389). -/
def execFPACKFIX (rd : FReg) (rs2 : DReg) (s : State) : Out :=
  toFS rd (packFix s.gsr.scale (readFD s rs2)) s

/-- FPMERGE (R398). -/
def execFPMERGE (rd : DReg) (rs1 rs2 : FReg) (s : State) : Out :=
  toFD rd (mergeBytes (readFS s rs1) (readFS s rs2)) s

/-- PDIST (R415). -/
def execPDIST (rd rs1 rs2 : DReg) (s : State) : Out :=
  toFD rd (readFD s rd + pixelDistance (readFD s rs1) (readFD s rs2)) s

/-- PDISTN (R416). -/
def execPDISTN (rd : Reg) (rs1 rs2 : DReg) (s : State) : Out :=
  fdToR pixelDistance rd rs1 rs2 s

/-! ## Partitioned arithmetic -/

/-- FPADD8 (R390). -/
def execFPADD8 (rd rs1 rs2 : DReg) (s : State) : Out :=
  fd2 (zipLanes 8 fun a b => a + b) rd rs1 rs2 s

/-- FPADD16 (R390). -/
def execFPADD16 (rd rs1 rs2 : DReg) (s : State) : Out :=
  fd2 (zipLanes 16 fun a b => a + b) rd rs1 rs2 s

/-- FPADD32 (R390). -/
def execFPADD32 (rd rs1 rs2 : DReg) (s : State) : Out :=
  fd2 (zipLanes 32 fun a b => a + b) rd rs1 rs2 s

/-- FPADD64 (R390). -/
def execFPADD64 (rd rs1 rs2 : DReg) (s : State) : Out :=
  fd2 (zipLanes 64 fun a b => a + b) rd rs1 rs2 s

/-- FPADD16s (R390). -/
def execFPADD16s (rd rs1 rs2 : FReg) (s : State) : Out :=
  fs2 (zipLanes 16 fun a b => a + b) rd rs1 rs2 s

/-- FPADD32s (R390). -/
def execFPADD32s (rd rs1 rs2 : FReg) (s : State) : Out :=
  fs2 (zipLanes 32 fun a b => a + b) rd rs1 rs2 s

/-- FPSUB8 (R400). -/
def execFPSUB8 (rd rs1 rs2 : DReg) (s : State) : Out :=
  fd2 (zipLanes 8 fun a b => a - b) rd rs1 rs2 s

/-- FPSUB16 (R400). -/
def execFPSUB16 (rd rs1 rs2 : DReg) (s : State) : Out :=
  fd2 (zipLanes 16 fun a b => a - b) rd rs1 rs2 s

/-- FPSUB32 (R400). -/
def execFPSUB32 (rd rs1 rs2 : DReg) (s : State) : Out :=
  fd2 (zipLanes 32 fun a b => a - b) rd rs1 rs2 s

/-- FPSUB64 (R400). -/
def execFPSUB64 (rd rs1 rs2 : DReg) (s : State) : Out :=
  fd2 (zipLanes 64 fun a b => a - b) rd rs1 rs2 s

/-- FPSUB16s (R400). -/
def execFPSUB16s (rd rs1 rs2 : FReg) (s : State) : Out :=
  fs2 (zipLanes 16 fun a b => a - b) rd rs1 rs2 s

/-- FPSUB32s (R400). -/
def execFPSUB32s (rd rs1 rs2 : FReg) (s : State) : Out :=
  fs2 (zipLanes 32 fun a b => a - b) rd rs1 rs2 s

/-- FPADDS8 (R391). -/
def execFPADDS8 (rd rs1 rs2 : DReg) (s : State) : Out :=
  fd2 (zipLanes 8 addSat) rd rs1 rs2 s

/-- FPADDS16 (R391). -/
def execFPADDS16 (rd rs1 rs2 : DReg) (s : State) : Out :=
  fd2 (zipLanes 16 addSat) rd rs1 rs2 s

/-- FPADDS32 (R391). -/
def execFPADDS32 (rd rs1 rs2 : DReg) (s : State) : Out :=
  fd2 (zipLanes 32 addSat) rd rs1 rs2 s

/-- FPADDS16s (R391). -/
def execFPADDS16s (rd rs1 rs2 : FReg) (s : State) : Out :=
  fs2 (zipLanes 16 addSat) rd rs1 rs2 s

/-- FPADDS32s (R391). -/
def execFPADDS32s (rd rs1 rs2 : FReg) (s : State) : Out :=
  fs2 (zipLanes 32 addSat) rd rs1 rs2 s

/-- FPSUBS8 (R401). -/
def execFPSUBS8 (rd rs1 rs2 : DReg) (s : State) : Out :=
  fd2 (zipLanes 8 subSat) rd rs1 rs2 s

/-- FPSUBS16 (R401). -/
def execFPSUBS16 (rd rs1 rs2 : DReg) (s : State) : Out :=
  fd2 (zipLanes 16 subSat) rd rs1 rs2 s

/-- FPSUBS32 (R401). -/
def execFPSUBS32 (rd rs1 rs2 : DReg) (s : State) : Out :=
  fd2 (zipLanes 32 subSat) rd rs1 rs2 s

/-- FPSUBS16s (R401). -/
def execFPSUBS16s (rd rs1 rs2 : FReg) (s : State) : Out :=
  fs2 (zipLanes 16 subSat) rd rs1 rs2 s

/-- FPSUBS32s (R401). -/
def execFPSUBS32s (rd rs1 rs2 : FReg) (s : State) : Out :=
  fs2 (zipLanes 32 subSat) rd rs1 rs2 s

/-- FPADDUS8 (R392). -/
def execFPADDUS8 (rd rs1 rs2 : DReg) (s : State) : Out :=
  fd2 (zipLanes 8 addUsat) rd rs1 rs2 s

/-- FPADDUS16 (R392). -/
def execFPADDUS16 (rd rs1 rs2 : DReg) (s : State) : Out :=
  fd2 (zipLanes 16 addUsat) rd rs1 rs2 s

/-- FPSUBUS8 (R402). -/
def execFPSUBUS8 (rd rs1 rs2 : DReg) (s : State) : Out :=
  fd2 (zipLanes 8 subUsat) rd rs1 rs2 s

/-- FPSUBUS16 (R402). -/
def execFPSUBUS16 (rd rs1 rs2 : DReg) (s : State) : Out :=
  fd2 (zipLanes 16 subUsat) rd rs1 rs2 s

/-- FPMAX8 (R397). -/
def execFPMAX8 (rd rs1 rs2 : DReg) (s : State) : Out :=
  fd2 (zipLanes 8 (pickMax BitVec.slt)) rd rs1 rs2 s

/-- FPMAX16 (R397). -/
def execFPMAX16 (rd rs1 rs2 : DReg) (s : State) : Out :=
  fd2 (zipLanes 16 (pickMax BitVec.slt)) rd rs1 rs2 s

/-- FPMAX32 (R397). -/
def execFPMAX32 (rd rs1 rs2 : DReg) (s : State) : Out :=
  fd2 (zipLanes 32 (pickMax BitVec.slt)) rd rs1 rs2 s

/-- FPMAXU8 (R397). -/
def execFPMAXU8 (rd rs1 rs2 : DReg) (s : State) : Out :=
  fd2 (zipLanes 8 (pickMax BitVec.ult)) rd rs1 rs2 s

/-- FPMAXU16 (R397). -/
def execFPMAXU16 (rd rs1 rs2 : DReg) (s : State) : Out :=
  fd2 (zipLanes 16 (pickMax BitVec.ult)) rd rs1 rs2 s

/-- FPMAXU32 (R397). -/
def execFPMAXU32 (rd rs1 rs2 : DReg) (s : State) : Out :=
  fd2 (zipLanes 32 (pickMax BitVec.ult)) rd rs1 rs2 s

/-- FPMIN8 (R399). -/
def execFPMIN8 (rd rs1 rs2 : DReg) (s : State) : Out :=
  fd2 (zipLanes 8 (pickMin BitVec.slt)) rd rs1 rs2 s

/-- FPMIN16 (R399). -/
def execFPMIN16 (rd rs1 rs2 : DReg) (s : State) : Out :=
  fd2 (zipLanes 16 (pickMin BitVec.slt)) rd rs1 rs2 s

/-- FPMIN32 (R399). -/
def execFPMIN32 (rd rs1 rs2 : DReg) (s : State) : Out :=
  fd2 (zipLanes 32 (pickMin BitVec.slt)) rd rs1 rs2 s

/-- FPMINU8 (R399). -/
def execFPMINU8 (rd rs1 rs2 : DReg) (s : State) : Out :=
  fd2 (zipLanes 8 (pickMin BitVec.ult)) rd rs1 rs2 s

/-- FPMINU16 (R399). -/
def execFPMINU16 (rd rs1 rs2 : DReg) (s : State) : Out :=
  fd2 (zipLanes 16 (pickMin BitVec.ult)) rd rs1 rs2 s

/-- FPMINU32 (R399). -/
def execFPMINU32 (rd rs1 rs2 : DReg) (s : State) : Out :=
  fd2 (zipLanes 32 (pickMin BitVec.ult)) rd rs1 rs2 s

/-! ## Partitioned comparisons -/

/-- FPCMPLE8 (R393). -/
def execFPCMPLE8 (rd : Reg) (rs1 rs2 : DReg) (s : State) : Out :=
  fdToR (compareLanes 8 BitVec.sle) rd rs1 rs2 s

/-- FPCMPGT8 (R393). -/
def execFPCMPGT8 (rd : Reg) (rs1 rs2 : DReg) (s : State) : Out :=
  fdToR (compareLanes 8 sgt) rd rs1 rs2 s

/-- FPCMPEQ8 (R393). -/
def execFPCMPEQ8 (rd : Reg) (rs1 rs2 : DReg) (s : State) : Out :=
  fdToR (compareLanes 8 (fun a b => a == b)) rd rs1 rs2 s

/-- FPCMPNE8 (R393). -/
def execFPCMPNE8 (rd : Reg) (rs1 rs2 : DReg) (s : State) : Out :=
  fdToR (compareLanes 8 (fun a b => a != b)) rd rs1 rs2 s

/-- FPCMPULE8 (R394). -/
def execFPCMPULE8 (rd : Reg) (rs1 rs2 : DReg) (s : State) : Out :=
  fdToR (compareLanes 8 BitVec.ule) rd rs1 rs2 s

/-- FPCMPUGT8 (R394). -/
def execFPCMPUGT8 (rd : Reg) (rs1 rs2 : DReg) (s : State) : Out :=
  fdToR (compareLanes 8 ugt) rd rs1 rs2 s

/-- FPCMPLE16 (R393). -/
def execFPCMPLE16 (rd : Reg) (rs1 rs2 : DReg) (s : State) : Out :=
  fdToR (compareLanes 16 BitVec.sle) rd rs1 rs2 s

/-- FPCMPGT16 (R393). -/
def execFPCMPGT16 (rd : Reg) (rs1 rs2 : DReg) (s : State) : Out :=
  fdToR (compareLanes 16 sgt) rd rs1 rs2 s

/-- FPCMPEQ16 (R393). -/
def execFPCMPEQ16 (rd : Reg) (rs1 rs2 : DReg) (s : State) : Out :=
  fdToR (compareLanes 16 (fun a b => a == b)) rd rs1 rs2 s

/-- FPCMPNE16 (R393). -/
def execFPCMPNE16 (rd : Reg) (rs1 rs2 : DReg) (s : State) : Out :=
  fdToR (compareLanes 16 (fun a b => a != b)) rd rs1 rs2 s

/-- FPCMPULE16 (R394). -/
def execFPCMPULE16 (rd : Reg) (rs1 rs2 : DReg) (s : State) : Out :=
  fdToR (compareLanes 16 BitVec.ule) rd rs1 rs2 s

/-- FPCMPUGT16 (R394). -/
def execFPCMPUGT16 (rd : Reg) (rs1 rs2 : DReg) (s : State) : Out :=
  fdToR (compareLanes 16 ugt) rd rs1 rs2 s

/-- FPCMPLE32 (R393). -/
def execFPCMPLE32 (rd : Reg) (rs1 rs2 : DReg) (s : State) : Out :=
  fdToR (compareLanes 32 BitVec.sle) rd rs1 rs2 s

/-- FPCMPGT32 (R393). -/
def execFPCMPGT32 (rd : Reg) (rs1 rs2 : DReg) (s : State) : Out :=
  fdToR (compareLanes 32 sgt) rd rs1 rs2 s

/-- FPCMPEQ32 (R393). -/
def execFPCMPEQ32 (rd : Reg) (rs1 rs2 : DReg) (s : State) : Out :=
  fdToR (compareLanes 32 (fun a b => a == b)) rd rs1 rs2 s

/-- FPCMPNE32 (R393). -/
def execFPCMPNE32 (rd : Reg) (rs1 rs2 : DReg) (s : State) : Out :=
  fdToR (compareLanes 32 (fun a b => a != b)) rd rs1 rs2 s

/-- FPCMPULE32 (R394). -/
def execFPCMPULE32 (rd : Reg) (rs1 rs2 : DReg) (s : State) : Out :=
  fdToR (compareLanes 32 BitVec.ule) rd rs1 rs2 s

/-- FPCMPUGT32 (R394). -/
def execFPCMPUGT32 (rd : Reg) (rs1 rs2 : DReg) (s : State) : Out :=
  fdToR (compareLanes 32 ugt) rd rs1 rs2 s

/-! ## Integer multiply-add on F registers -/

/-- The 128-bit product-sum of R395. -/
def multiplyAdd (a b c : Word64) : Word128 := a.setWidth 128 * b.setWidth 128 + c.setWidth 128

/-- FPMADDX (R395). -/
def execFPMADDX (rd rs1 rs2 rs3 : DReg) (s : State) : Out :=
  toFD rd (field (multiplyAdd (readFD s rs1) (readFD s rs2) (readFD s rs3)) 0 64) s

/-- FPMADDXHI (R396). -/
def execFPMADDXHI (rd rs1 rs2 rs3 : DReg) (s : State) : Out :=
  toFD rd (field (multiplyAdd (readFD s rs1) (readFD s rs2) (readFD s rs3)) 64 64) s

/-! ## Logical operations -/

/-- FZEROd (R403). -/
def execFZEROd (rd : DReg) (s : State) : Out :=
  toFD rd 0 s

/-- FZEROs (R403). -/
def execFZEROs (rd : FReg) (s : State) : Out :=
  toFS rd 0 s

/-- FONEd (R403). -/
def execFONEd (rd : DReg) (s : State) : Out :=
  toFD rd (BitVec.allOnes 64) s

/-- FONEs (R403). -/
def execFONEs (rd : FReg) (s : State) : Out :=
  toFS rd (BitVec.allOnes 32) s

/-- FSRC1d (R404). -/
def execFSRC1d (rd rs1 : DReg) (s : State) : Out :=
  toFD rd (readFD s rs1) s

/-- FSRC2d (R405). -/
def execFSRC2d (rd rs2 : DReg) (s : State) : Out :=
  toFD rd (readFD s rs2) s

/-- FNOT1d (R406). -/
def execFNOT1d (rd rs1 : DReg) (s : State) : Out :=
  toFD rd (~~~readFD s rs1) s

/-- FNOT2d (R407). -/
def execFNOT2d (rd rs2 : DReg) (s : State) : Out :=
  toFD rd (~~~readFD s rs2) s

/-- FSRC1s (R404). -/
def execFSRC1s (rd rs1 : FReg) (s : State) : Out :=
  toFS rd (readFS s rs1) s

/-- FSRC2s (R405). -/
def execFSRC2s (rd rs2 : FReg) (s : State) : Out :=
  toFS rd (readFS s rs2) s

/-- FNOT1s (R406). -/
def execFNOT1s (rd rs1 : FReg) (s : State) : Out :=
  toFS rd (~~~readFS s rs1) s

/-- FNOT2s (R407). -/
def execFNOT2s (rd rs2 : FReg) (s : State) : Out :=
  toFS rd (~~~readFS s rs2) s

/-- FORd (R408). -/
def execFORd (rd rs1 rs2 : DReg) (s : State) : Out :=
  fd2 (fun a b => a ||| b) rd rs1 rs2 s

/-- FORs (R408). -/
def execFORs (rd rs1 rs2 : FReg) (s : State) : Out :=
  fs2 (fun a b => a ||| b) rd rs1 rs2 s

/-- FNORd (R408). -/
def execFNORd (rd rs1 rs2 : DReg) (s : State) : Out :=
  fd2 (fun a b => ~~~(a ||| b)) rd rs1 rs2 s

/-- FNORs (R408). -/
def execFNORs (rd rs1 rs2 : FReg) (s : State) : Out :=
  fs2 (fun a b => ~~~(a ||| b)) rd rs1 rs2 s

/-- FANDd (R408). -/
def execFANDd (rd rs1 rs2 : DReg) (s : State) : Out :=
  fd2 (fun a b => a &&& b) rd rs1 rs2 s

/-- FANDs (R408). -/
def execFANDs (rd rs1 rs2 : FReg) (s : State) : Out :=
  fs2 (fun a b => a &&& b) rd rs1 rs2 s

/-- FNANDd (R408). -/
def execFNANDd (rd rs1 rs2 : DReg) (s : State) : Out :=
  fd2 (fun a b => ~~~(a &&& b)) rd rs1 rs2 s

/-- FNANDs (R408). -/
def execFNANDs (rd rs1 rs2 : FReg) (s : State) : Out :=
  fs2 (fun a b => ~~~(a &&& b)) rd rs1 rs2 s

/-- FXORd (R408). -/
def execFXORd (rd rs1 rs2 : DReg) (s : State) : Out :=
  fd2 (fun a b => a ^^^ b) rd rs1 rs2 s

/-- FXORs (R408). -/
def execFXORs (rd rs1 rs2 : FReg) (s : State) : Out :=
  fs2 (fun a b => a ^^^ b) rd rs1 rs2 s

/-- FXNORd (R408). -/
def execFXNORd (rd rs1 rs2 : DReg) (s : State) : Out :=
  fd2 (fun a b => ~~~(a ^^^ b)) rd rs1 rs2 s

/-- FXNORs (R408). -/
def execFXNORs (rd rs1 rs2 : FReg) (s : State) : Out :=
  fs2 (fun a b => ~~~(a ^^^ b)) rd rs1 rs2 s

/-- FORNOT1d (R408). -/
def execFORNOT1d (rd rs1 rs2 : DReg) (s : State) : Out :=
  fd2 (fun a b => ~~~a ||| b) rd rs1 rs2 s

/-- FORNOT1s (R408). -/
def execFORNOT1s (rd rs1 rs2 : FReg) (s : State) : Out :=
  fs2 (fun a b => ~~~a ||| b) rd rs1 rs2 s

/-- FORNOT2d (R408). -/
def execFORNOT2d (rd rs1 rs2 : DReg) (s : State) : Out :=
  fd2 (fun a b => a ||| ~~~b) rd rs1 rs2 s

/-- FORNOT2s (R408). -/
def execFORNOT2s (rd rs1 rs2 : FReg) (s : State) : Out :=
  fs2 (fun a b => a ||| ~~~b) rd rs1 rs2 s

/-- FANDNOT1d (R408). -/
def execFANDNOT1d (rd rs1 rs2 : DReg) (s : State) : Out :=
  fd2 (fun a b => ~~~a &&& b) rd rs1 rs2 s

/-- FANDNOT1s (R408). -/
def execFANDNOT1s (rd rs1 rs2 : FReg) (s : State) : Out :=
  fs2 (fun a b => ~~~a &&& b) rd rs1 rs2 s

/-- FANDNOT2d (R408). -/
def execFANDNOT2d (rd rs1 rs2 : DReg) (s : State) : Out :=
  fd2 (fun a b => a &&& ~~~b) rd rs1 rs2 s

/-- FANDNOT2s (R408). -/
def execFANDNOT2s (rd rs1 rs2 : FReg) (s : State) : Out :=
  fs2 (fun a b => a &&& ~~~b) rd rs1 rs2 s

/-! ## Partitioned shifts -/

/-- FSLL16 (R409). -/
def execFSLL16 (rd rs1 rs2 : DReg) (s : State) : Out :=
  fd2 (zipLanes 16 (shiftLane (fun a n => a <<< n))) rd rs1 rs2 s

/-- FSRL16 (R409). -/
def execFSRL16 (rd rs1 rs2 : DReg) (s : State) : Out :=
  fd2 (zipLanes 16 (shiftLane (fun a n => a >>> n))) rd rs1 rs2 s

/-- FSLAS16 (R409). -/
def execFSLAS16 (rd rs1 rs2 : DReg) (s : State) : Out :=
  fd2 (zipLanes 16 (shiftLane shiftLeftSat)) rd rs1 rs2 s

/-- FSRA16 (R409). -/
def execFSRA16 (rd rs1 rs2 : DReg) (s : State) : Out :=
  fd2 (zipLanes 16 (shiftLane BitVec.sshiftRight)) rd rs1 rs2 s

/-- FSLL32 (R409). -/
def execFSLL32 (rd rs1 rs2 : DReg) (s : State) : Out :=
  fd2 (zipLanes 32 (shiftLane (fun a n => a <<< n))) rd rs1 rs2 s

/-- FSRL32 (R409). -/
def execFSRL32 (rd rs1 rs2 : DReg) (s : State) : Out :=
  fd2 (zipLanes 32 (shiftLane (fun a n => a >>> n))) rd rs1 rs2 s

/-- FSLAS32 (R409). -/
def execFSLAS32 (rd rs1 rs2 : DReg) (s : State) : Out :=
  fd2 (zipLanes 32 (shiftLane shiftLeftSat)) rd rs1 rs2 s

/-- FSRA32 (R409). -/
def execFSRA32 (rd rs1 rs2 : DReg) (s : State) : Out :=
  fd2 (zipLanes 32 (shiftLane BitVec.sshiftRight)) rd rs1 rs2 s

/-! ## Moves between F and R registers -/

/-- MOVsTOsw (R410). -/
def execMOVsTOsw (rd : Reg) (rs2 : FReg) (s : State) : Out :=
  toR rd (sext64 (readFS s rs2)) s

/-- MOVsTOuw (R411). -/
def execMOVsTOuw (rd : Reg) (rs2 : FReg) (s : State) : Out :=
  toR rd (zext64 (readFS s rs2)) s

/-- MOVdTOx (R412). -/
def execMOVdTOx (rd : Reg) (rs2 : DReg) (s : State) : Out :=
  toR rd (readFD s rs2) s

/-- MOVwTOs (R413). -/
def execMOVwTOs (rd : FReg) (rs2 : Reg) (s : State) : Out :=
  toFS rd (field (readR s rs2) 0 32) s

/-- MOVxTOd (R414). -/
def execMOVxTOd (rd : DReg) (rs2 : Reg) (s : State) : Out :=
  toFD rd (readR s rs2) s

end Sys2Proof.Machine
end

