-- ==== Sys2Proof/Machine/Crypto.lean ====
section
/-!
DEFINITION. The cryptographic, hash, CRC and multiple-precision instructions of spec file 49. The functions of
external standards are those of CryptoPrimitives.lean.
-/

namespace Sys2Proof.Machine

open Sys2Proof

/-- The checks of R417 and R437 after the reserved fields: the CFR bit, then the FPU. -/
def cryptoChecks (s : State) (cfrBit : Nat) : Eff Unit := do
  require (bit s.par.cfr cfrBit) .compatibilityFeature
  needFpu s

/-- The outcome of a cryptographic instruction that writes F_D[rd]. -/
def cryptoResult (cfrBit : Nat) (rd : DReg) (v : Word64) (s : State) : Out :=
  finish s do
    cryptoChecks s cfrBit
    .ok (advance (writeFD s rd v))

/-- The number of F_D[2 k] for a literal register number `n` = 2 k. -/
def dreg (n : Nat) : DReg := BitVec.ofNat 5 (n / 2)

/-- F_D[n], F_D[n + 2], …: `count` registers. -/
def readRun (s : State) (n count : Nat) : List Word64 := (List.range count).map fun k => readFD s (dreg (n + 2 * k))

/-- Write F_D[n], F_D[n + 2], …. -/
def writeRun (n : Nat) : List Word64 → State → State
  | [], s => s
  | v :: vs, s => writeRun (n + 2) vs (writeFD s (dreg n) v)

/-- The outcome of a hash instruction that writes the registers from F_D[0] on. -/
def hashResult (cfrBit : Nat) (vs : List Word64) (s : State) : Out :=
  finish s do
    cryptoChecks s cfrBit
    .ok (advance (writeRun 0 vs s))

/-- The 512 bits of Data in F_D[8] to F_D[22] (R438, R443, R444). -/
def hashData (s : State) : BitVec 512 := joinWords 512 (readRun s 8 8)

/-! ## AES -/

/-- AES_EROUND01 (R418). -/
def execAES_EROUND01 (rd rs1 rs2 rs3 : DReg) (s : State) : Out :=
  cryptoResult 0 rd (aesEncrypt true false (readFD s rs1) (readFD s rs2) (readFD s rs3)) s

/-- AES_EROUND23 (R419). -/
def execAES_EROUND23 (rd rs1 rs2 rs3 : DReg) (s : State) : Out :=
  cryptoResult 0 rd (aesEncrypt false false (readFD s rs1) (readFD s rs2) (readFD s rs3)) s

/-- AES_DROUND01 (R420). -/
def execAES_DROUND01 (rd rs1 rs2 rs3 : DReg) (s : State) : Out :=
  cryptoResult 0 rd (aesDecrypt true false (readFD s rs1) (readFD s rs2) (readFD s rs3)) s

/-- AES_DROUND23 (R421). -/
def execAES_DROUND23 (rd rs1 rs2 rs3 : DReg) (s : State) : Out :=
  cryptoResult 0 rd (aesDecrypt false false (readFD s rs1) (readFD s rs2) (readFD s rs3)) s

/-- AES_EROUND01_LAST (R422). -/
def execAES_EROUND01_LAST (rd rs1 rs2 rs3 : DReg) (s : State) : Out :=
  cryptoResult 0 rd (aesEncrypt true true (readFD s rs1) (readFD s rs2) (readFD s rs3)) s

/-- AES_EROUND23_LAST (R423). -/
def execAES_EROUND23_LAST (rd rs1 rs2 rs3 : DReg) (s : State) : Out :=
  cryptoResult 0 rd (aesEncrypt false true (readFD s rs1) (readFD s rs2) (readFD s rs3)) s

/-- AES_DROUND01_LAST (R424). -/
def execAES_DROUND01_LAST (rd rs1 rs2 rs3 : DReg) (s : State) : Out :=
  cryptoResult 0 rd (aesDecrypt true true (readFD s rs1) (readFD s rs2) (readFD s rs3)) s

/-- AES_DROUND23_LAST (R425). -/
def execAES_DROUND23_LAST (rd rs1 rs2 rs3 : DReg) (s : State) : Out :=
  cryptoResult 0 rd (aesDecrypt false true (readFD s rs1) (readFD s rs2) (readFD s rs3)) s

/-- AES_KEXPAND1 (R426). -/
def execAES_KEXPAND1 (rd rs1 rs2 : DReg) (imm5 : BitVec 5) (s : State) : Out :=
  cryptoResult 0 rd (keyStep (subWord (rotWord (field (readFD s rs2) 0 32)) ^^^ rcon imm5) (readFD s rs1)) s

/-- AES_KEXPAND0 (R427). -/
def execAES_KEXPAND0 (rd rs1 rs2 : DReg) (s : State) : Out :=
  cryptoResult 0 rd (keyStep (subWord (field (readFD s rs2) 0 32)) (readFD s rs1)) s

/-- AES_KEXPAND2 (R428). -/
def execAES_KEXPAND2 (rd rs1 rs2 : DReg) (s : State) : Out :=
  cryptoResult 0 rd (keyStep (field (readFD s rs2) 0 32) (readFD s rs1)) s

/-! ## Camellia -/

/-- CAMELLIA_F (R429). -/
def execCAMELLIA_F (rd rs1 rs2 rs3 : DReg) (s : State) : Out :=
  cryptoResult 3 rd (camelliaF (readFD s rs3) (readFD s rs1) ^^^ readFD s rs2) s

/-- CAMELLIA_FL (R430). -/
def execCAMELLIA_FL (rd rs1 rs2 : DReg) (s : State) : Out :=
  cryptoResult 3 rd (camelliaFL (readFD s rs2) (readFD s rs1)) s

/-- CAMELLIA_FLI (R431). -/
def execCAMELLIA_FLI (rd rs1 rs2 : DReg) (s : State) : Out :=
  cryptoResult 3 rd (camelliaFLI (readFD s rs2) (readFD s rs1)) s

/-! ## CRC32C -/

/-- The step function of CRC32C that the parameter CRC32C_FN names (R4, R517). -/
def crcStep (par : Config.Params) (iv data : Word32) : Word32 :=
  match par.crc32cFn with
  | .iscsi => crc32c iv data
  | .other => Config.otherCrc32c iv data

/-- CRC32C (R432). -/
def execCRC32C (rd rs1 rs2 : DReg) (s : State) : Out :=
  let r1 := crcStep s.par (field (readFD s rs1) 0 32) (field (readFD s rs2) 32 32)
  cryptoResult 11 rd (zext64 (crcStep s.par r1 (field (readFD s rs2) 0 32))) s

/-! ## DES -/

/-- DES_ROUND (R433). -/
def execDES_ROUND (rd rs1 rs2 rs3 : DReg) (s : State) : Out :=
  cryptoResult 1 rd (desTwoRounds (readFD s rs1) (readFD s rs2) (readFD s rs3)) s

/-- DES_IP (R434). -/
def execDES_IP (rd rs1 : DReg) (s : State) : Out :=
  cryptoResult 1 rd (permute 64 desIpTable (readFD s rs1)) s

/-- DES_IIP (R435). -/
def execDES_IIP (rd rs1 : DReg) (s : State) : Out :=
  cryptoResult 1 rd (permute 64 desFpTable ((readFD s rs1).rotateLeft 32)) s

/-- The result of DES_KEXPAND (R436). -/
def desKeyExpand (imm5 : BitVec 5) (x : Word64) : Word64 :=
  if imm5 = 0 then desRotate (desPc1 x) 1
  else if imm5 = 1 then desRotate (field x 0 56) 1
  else if imm5 = 2 then desRotate (field x 0 56) 2
  else desRotate (field x 0 56) 4

/-- DES_KEXPAND (R436). -/
def execDES_KEXPAND (rd rs1 : DReg) (imm5 : BitVec 5) (s : State) : Out :=
  finish s do
    require (decide (imm5.toNat ≤ 3)) .illegalInstruction
    cryptoChecks s 1
    .ok (advance (writeFD s rd (desKeyExpand imm5 (readFD s rs1))))

/-! ## Hashes -/

/-- How MD5 takes its words out of the registers (R512). -/
def md5Order : Config.Md5WordOrder → Word32 → Word32
  | .byteString => byteReverse
  | .registerWords => id

/-- MD5 (R438). -/
def execMD5 (s : State) : Out :=
  let out := md5Block (md5Order s.par.md5WordOrder) (joinWords 128 (readRun s 0 2)) (hashData s)
  hashResult 4 (splitWords 64 2 out) s

/-- SHA1 (R443): F_D[4]{31:0} gets a free value. -/
def execSHA1 (s : State) : Out :=
  let out := sha1Block (joinWords 160 (splitWords 32 5 (joinWords 192 (readRun s 0 3)))) (hashData s)
  finish s do
    cryptoChecks s 5
    .ok (advance (writeRun 0 (splitWords 64 3 (out ++ field (freeValue s) 0 32)) (drawn s)))

/-- SHA256 (R444). -/
def execSHA256 (s : State) : Out :=
  let iv := splitWords 32 8 (joinWords 256 (readRun s 0 4))
  let out := sha2Block sha256Functions sha256Constants iv (splitWords 32 16 (hashData s))
  hashResult 6 (splitWords 64 4 (joinWords 256 out)) s

/-- SHA512 (R445). -/
def execSHA512 (s : State) : Out :=
  hashResult 7 (sha2Block sha512Functions sha512Constants (readRun s 0 8) (readRun s 16 16)) s

/-! ## Multiple precision -/

/-- The checks of the multiple-precision instructions after the reserved fields (R439). -/
def multiChecks (s : State) (cfrBit : Nat) : Eff Unit := do
  cryptoChecks s cfrBit
  require (s.canrestore == maxSavable) (fillTrap s)

/-- MPMUL and XMPMUL (R440, R447). -/
def multiMultiply (carry : Bool) (cfrBit : Nat) (imm5 : BitVec 5) (s : State) : Out :=
  let n := imm5.toNat + 1
  finish s do
    multiChecks s cfrBit
    let p := wideMul carry (64 * n) (readPlaces s (mpMultiplier.take n)) (readPlaces s (mpMultiplicand.take n))
    .ok (advance (writePlaces (mpProduct.take (2 * n)) p s))

/-- The four Montgomery instructions (R441, R442, R448, R449); `square` takes B = A and no B operand. -/
def montgomery (carry square : Bool) (cfrBit : Nat) (imm5 : BitVec 5) (s : State) : Out :=
  let n := imm5.toNat + 1
  finish s do
    multiChecks s cfrBit
    let a := wordsAt s (mpMultiplicand.take n)
    let modulus := wordsAt s (mpModulus.take n)
    let part := if square then squarePart carry imm5.toNat a else productPart carry imm5.toNat a
      (wordsAt s (mpMontB.take n))
    let out := montgomeryResult carry part modulus (readFD s (dreg 60)).toNat imm5.toNat
    let t := writePlaces (mpMultiplicand.take n) out.2 (writePlaces (mpMontM.take n) (joinNat out.1) s)
    .ok (advance { t with fsr := { t.fsr with fcc3 := 0 } })

/-- MPMUL (R440). -/
def execMPMUL (imm5 : BitVec 5) (s : State) : Out :=
  multiMultiply true 8 imm5 s

/-- XMPMUL (R447). -/
def execXMPMUL (imm5 : BitVec 5) (s : State) : Out :=
  multiMultiply false 12 imm5 s

/-- MONTMUL (R441). -/
def execMONTMUL (imm5 : BitVec 5) (s : State) : Out :=
  montgomery true false 9 imm5 s

/-- MONTSQR (R442). -/
def execMONTSQR (imm5 : BitVec 5) (s : State) : Out :=
  montgomery true true 10 imm5 s

/-- XMONTMUL (R448). -/
def execXMONTMUL (imm5 : BitVec 5) (s : State) : Out :=
  montgomery false false 13 imm5 s

/-- XMONTSQR (R449). -/
def execXMONTSQR (imm5 : BitVec 5) (s : State) : Out :=
  montgomery false true 14 imm5 s

end Sys2Proof.Machine
end

