-- ==== Sys2Proof/Machine/Memory.lean ====
section
/-!
DEFINITION. Memory, address spaces, translation and the checks of a data access and of a fetch
(spec file 20). The check order is R91 for data and R92 for fetches.
-/

namespace Sys2Proof.Machine

open Sys2Proof

/-! ## Bytes of memory -/

/-- What a byte that nothing has written reads as: DESIGN CHOICE 0 (log entry 4, unsafe). -/
def unlistedByte : Byte := 0

/-- The byte at real address `a`. -/
def Memory.read : Memory → Nat → Byte
  | [], _ => unlistedByte
  | (k, b) :: t, a => if k = a then b else Memory.read t a

/-- Memory with the byte at real address `a` set to `b`, in canonical form. -/
def Memory.write : Memory → Nat → Byte → Memory
  | [], a, b => if b = unlistedByte then [] else [(a, b)]
  | (k, v) :: t, a, b =>
    if a < k then (if b = unlistedByte then (k, v) :: t else (a, b) :: (k, v) :: t)
    else if a = k then (if b = unlistedByte then t else (a, b) :: t)
    else (k, v) :: Memory.write t a b

/-- The canonical form above address `lo`: addresses strictly rise, and no entry equals an unlisted byte. -/
def Memory.wfFrom : Nat → Memory → Bool
  | _, [] => true
  | lo, (k, b) :: t => decide (lo ≤ k) && b != unlistedByte && Memory.wfFrom (k + 1) t

/-- The canonical form of memory. -/
def Memory.wf (m : Memory) : Bool := Memory.wfFrom 0 m

/-- The big-endian value of the `n` bytes at `a` (R70). -/
def Memory.readBE (m : Memory) (a : Nat) : Nat → Nat
  | 0 => 0
  | n + 1 => Memory.readBE m a n * 256 + (m.read (a + n)).toNat

/-- The little-endian value of the `n` bytes at `a` (R70). -/
def Memory.readLE (m : Memory) (a : Nat) : Nat → Nat
  | 0 => 0
  | n + 1 => Memory.readLE m a n + (m.read (a + n)).toNat * 256 ^ n

/-- Memory with the low `n` bytes of `v` at `a`, big-endian (R70). -/
def Memory.writeBE (m : Memory) (a : Nat) : Nat → Nat → Memory
  | 0, _ => m
  | n + 1, v => (Memory.writeBE m a n (v / 256)).write (a + n) (BitVec.ofNat 8 v)

/-- Memory with the low `n` bytes of `v` at `a`, little-endian (R70). -/
def Memory.writeLE (m : Memory) (a : Nat) : Nat → Nat → Memory
  | 0, _ => m
  | n + 1, v => (Memory.writeLE m a n v).write (a + n) (BitVec.ofNat 8 (v / 256 ^ n))

/-! ## Address space identifiers -/

/-- The address space an ASI names (R74, R75, R102). -/
inductive Space where
  | nucleus
  | primary
  | secondary
  | real
deriving DecidableEq, Repr

/-- The space of an ASI, when it is translating or real (R75, R102). Apart from the nucleus and real ASIs
an even number names the primary context and an odd one the secondary. -/
def asiSpace (asi : BitVec 8) : Option Space :=
  if asi ∈ asiMemory then
    if asi ∈ asiNucleus then some .nucleus
    else if asi ∈ asiReal then some .real
    else if bit asi 0 then some .secondary else some .primary
  else none

/-- The little-endian ASIs: those of R75 whose number has bit 3 set (R71). -/
def asiLittle (asi : BitVec 8) : Bool := bit asi 3

/-! ## Translation -/

/-- Where an address lies and what its page or region allows (R101, R103). -/
structure PageAttr where
  ra : Nat
  nfo : Bool
  ie : Bool
  e : Bool
  cp : Bool
  p : Bool
  ep : Bool
  w : Bool
deriving DecidableEq, Repr

/-- TTE.sz (R103). -/
def tteSize (t : Config.Tte) : Nat := (field t.data 0 4).toNat

/-- The number of page-offset bits of a TTE (R104). -/
def tteShift (t : Config.Tte) : Nat := 13 + 3 * tteSize t

/-- A TTE is valid, of a supported page size (D23), and its tag names this context (R103, R104). -/
def tteOf (par : Config.Params) (context : BitVec 16) (t : Config.Tte) : Bool :=
  bit t.data 63 && par.pageSizes.contains (tteSize t) && field t.tag 48 16 == context && field t.tag 42 6 == 0

/-- The virtual address of the page of a mapping: VA{63:22} from the tag and VA{21:13} from its index (R103). -/
def mappingVa (x : Config.Mapping) : Word64 := field x.tte.tag 0 42 ++ x.index ++ (0 : BitVec 13)

/-- A mapping or TSB serves an access: one that it lists; an atomic load-store, for which R101 leaves the access
argument open and R106 wants read and write permission, where it lists both: DESIGN CHOICE, unsafe (log entry 38). -/
def serves (accesses : List Config.Access) : Config.Access → Bool
  | .atomic => accesses.contains .load && accesses.contains .store
  | access => accesses.contains access

/-- A mapping serves the access, context and address: of a page above 8 KB the bits within the page are not compared
(R101, R103, R104, log entry 38). -/
def mappingHits (par : Config.Params) (access : Config.Access) (context : BitVec 16) (va : Word64)
    (x : Config.Mapping) : Bool :=
  serves x.accesses access && tteOf par context x.tte &&
    mappingVa x >>> tteShift x.tte == va >>> tteShift x.tte

/-- The address of the TSB entry of a virtual address (R105). -/
def tsbEntryAddress (x : Config.Tsb) (va : Word64) : Nat :=
  x.base + va.toNat / 2 ^ x.pageShift % 2 ^ x.logEntries * 16

/-- The TTE in a TSB entry: the tag at offset 0 and the data at offset 8, in memory (R105). -/
def tsbEntry (m : Memory) (x : Config.Tsb) (va : Word64) : Config.Tte where
  tag := BitVec.ofNat 64 (m.readBE (tsbEntryAddress x va) 8)
  data := BitVec.ofNat 64 (m.readBE (tsbEntryAddress x va + 8) 8)

/-- The TTE of a TSB hit (R105): `tag.context_id = context`, `tag{47:42} = 0`, `tag.va = VA{63:22}`, `data.v = 1`. -/
def tsbHit (par : Config.Params) (m : Memory) (access : Config.Access) (context : BitVec 16) (va : Word64)
    (x : Config.Tsb) : Option Config.Tte :=
  let t := tsbEntry m x va
  if serves x.accesses access && tteOf par context t && field t.tag 0 42 == field va 22 42 then some t else none

/-- The translation a TTE gives (R101, R103). -/
def tteAttr (t : Config.Tte) (va : Word64) : PageAttr where
  ra := ((field t.data 0 56 >>> tteShift t) <<< tteShift t).toNat + va.toNat % 2 ^ tteShift t
  nfo := bit t.data 62
  ie := bit t.data 12
  e := bit t.data 11
  cp := bit t.data 10
  p := bit t.data 8
  ep := bit t.data 7
  w := bit t.data 6

/-- The identity mapping of the default platform (R101). -/
def identityAttr (par : Config.Params) (va : Word64) : PageAttr :=
  { ra := va.toNat % 2 ^ par.raBits, nfo := false, ie := false, e := false, cp := true, p := false, ep := true,
    w := true }

/-- The TTE of `va` in one context for one kind of access: that of the first mapping of the platform, else that of the
first TSB that holds one (R101, R105). -/
def translateIn (s : State) (access : Config.Access) (context : BitVec 16) (va : Word64) : Option PageAttr :=
  let known := (s.par.mappings.find? (mappingHits s.par access context va)).map (·.tte)
  (known.or (s.par.tsbs.findSome? (tsbHit s.par s.mem access context va))).map (tteAttr · va)

/-- An implemented virtual address: the bits above VA_BITS equal the highest implemented one (R8, R67, D20). -/
def vaImplemented (par : Config.Params) (va : Word64) : Bool :=
  decide (64 ≤ par.vaBits) || decide (-(2 ^ (par.vaBits - 1)) ≤ va.toInt ∧ va.toInt < 2 ^ (par.vaBits - 1))

/-- A real address must exist (R101, R104). -/
def inMemory (par : Config.Params) (x : PageAttr) : Eff PageAttr :=
  if x.ra < 2 ^ par.raBits then .ok x else .error (.trap .unnamed)

/-- `translate` with a pair of context ids (R101, R102). An address outside the implemented range, or without a
translation, is handed to hyperprivileged software. -/
def translate (s : State) (access : Config.Access) (ids : Contexts) (va : Word64) : Eff PageAttr := do
  require (vaImplemented s.par va) .unnamed
  match translateIn s access ids.id0 va, translateIn s access ids.id1 va with
  | some a, some b => if a = b then inMemory s.par a else .error (.stuck .multipleTranslations)
  | some a, none => inMemory s.par a
  | none, some b => inMemory s.par b
  | none, none => if s.par.identityMap then .ok (identityAttr s.par va) else .error (.trap .unnamed)

/-- The context ids a space uses (R102); a real address has none. -/
def spaceContexts (s : State) : Space → Contexts
  | .nucleus => ⟨0, 0⟩
  | .primary => s.primary
  | .secondary => s.secondary
  | .real => ⟨0, 0⟩

/-- The attributes of a real address (R78, R101). -/
def realAttr (par : Config.Params) (io : Bool) (ra : Nat) : PageAttr :=
  let found := par.realRegions.find? fun r => decide (r.base ≤ ra ∧ ra < r.base + r.size)
  let r := found.getD ⟨0, 0, false, false, true⟩
  { ra := ra, nfo := false, ie := r.ie, e := r.e || io, cp := r.cp && !io, p := false, ep := true, w := true }

/-- A virtual address as it is sent to the memory system (R59). -/
def maskVa (s : State) (va : Word64) : Word64 := if s.pstate.am then low32 va else va

/-! ## Data accesses -/

/-- The kind of a data access: what it does to memory and the restriction on noncacheable pages (R91). -/
structure AccessKind where
  reads : Bool
  writes : Bool
  /-- The access raises DAE_nc_page on a noncacheable page (R91 item 7). -/
  needsCache : Bool
deriving DecidableEq, Repr

/-- A load. -/
def AccessKind.load : AccessKind := ⟨true, false, false⟩

/-- A store. -/
def AccessKind.store : AccessKind := ⟨false, true, false⟩

/-- An atomic load-store (R98). -/
def AccessKind.atomic : AccessKind := ⟨true, true, true⟩

/-- LDTXA and LDBLOCKF (R91 item 7). -/
def AccessKind.cachedLoad : AccessKind := ⟨true, false, true⟩

/-- STPARTIALF (R91 item 7). -/
def AccessKind.cachedStore : AccessKind := ⟨false, true, true⟩

/-- The access for which a data access asks `translate` (R101): that an atomic load-store asks for both a load and a
store at once is a DESIGN CHOICE (R106, log entry 38). -/
def AccessKind.access (kind : AccessKind) : Config.Access :=
  if kind.writes then if kind.reads then .atomic else .store else .load

/-- Where an access that passed its checks goes. -/
structure Place where
  ra : Nat
  little : Bool
deriving DecidableEq, Repr

/-- The privilege check on an explicit ASI (R73). -/
def asiPrivileged (s : State) (asi : BitVec 8) : Bool :=
  if s.pstate.priv then decide (0x30 ≤ asi.toNat ∧ asi.toNat ≤ 0x7F) else !bit asi 7

/-- A watchpoint matches the `size` bytes at `va` (R491). -/
def watched (ranges : List Config.WatchRange) (va : Nat) (size : Nat) (kind : AccessKind) : Bool :=
  ranges.any fun r =>
    ((r.loads && kind.reads) || (r.stores && kind.writes)) && decide (va < r.base + r.size ∧ r.base < va + size)

/-- The checks on the page or region of a data access, in the order of R91 items 6 to 10. R103 forbids a TTE with both
nfo and e and does not define it: DESIGN CHOICE, unsafe, each check applies by itself (log entry 37). -/
def checkPage (s : State) (asi : BitVec 8) (virtual : Bool) (kind : AccessKind) (x : PageAttr) : Eff Unit := do
  require (!(virtual && x.p && (!s.pstate.priv || decide (asi ∈ asiUser)))) .daePrivilegeViolation
  require (!(kind.needsCache && !x.cp)) .daeNcPage
  require (!(virtual && x.nfo && !decide (asi ∈ asiNoFault))) .daeNfoPage
  require (!(x.e && decide (asi ∈ asiNoFault))) .daeSideEffectPage
  require (!(virtual && kind.writes && !x.w)) .unnamed

/-- The part of a data access after its ASI and alignment are accepted: translation and page checks, giving
the real address and the byte order (R71, R91). -/
def locate (s : State) (asi : BitVec 8) (space : Space) (ea : Word64) (kind : AccessKind) : Eff Place :=
  if space = .real then do
    let x ← inMemory s.par (realAttr s.par (decide (asi ∈ asiRealIo)) ea.toNat)
    checkPage s asi false kind x
    .ok ⟨x.ra, asiLittle asi ^^ x.ie⟩
  else do
    let x ← translate s kind.access (spaceContexts s space) (maskVa s ea)
    checkPage s asi true kind x
    .ok ⟨x.ra, asiLittle asi ^^ x.ie⟩

/-- `watch_data` (R491): a range matches, or the platform's further predicate does. -/
def watchData (par : Config.Params) (va size : Nat) (kind : AccessKind) : Bool :=
  watched par.watchData va size kind ||
    (par.watchOther &&
      ((kind.reads && Config.watchesData va size false) || (kind.writes && Config.watchesData va size true)))

/-- `watch_insn` (R491). -/
def watchInsn (par : Config.Params) (va : Nat) : Bool :=
  watched par.watchInsn va 4 .load || (par.watchOther && Config.watchesInsn va)

/-- The watchpoint check of a data access (R91 item 3, R491): only a translated address can match. -/
def checkWatch (s : State) (space : Option Space) (ea : Word64) (size : Nat) (kind : AccessKind) : Eff Unit :=
  require (!(space ≠ none && space ≠ some .real && watchData s.par (maskVa s ea).toNat size kind)) .vaWatchpoint

/-- A data access with the implicit ASI (R72, R91): the alignment is that of the instruction. -/
def accessImplicit (s : State) (ea : Word64) (size : Nat) (kind : AccessKind) : Eff Place := do
  let asi := implicitAsi s
  let space := (asiSpace asi).getD .primary
  checkWatch s (some space) ea size kind
  locate s asi space ea kind

/-- An ASI of R75 that this implementation lacks (OPTIONAL_ASIS): for a store, a block-initialising number stands for
its own row of the map. -/
def asiAbsent (par : Config.Params) (asi : BitVec 8) (stores : Bool) : Bool :=
  if stores && decide (asi ∈ asiStbiAll) then par.absentStbi.contains asi
  else par.absentAsis.contains asi && !decide (asi ∈ asiRequired)

/-- An ASI of the implementation, which IMPL_ASIS says exists (R75, D9). -/
def implAsi (par : Config.Params) (asi : BitVec 8) : Bool :=
  decide (asi ∈ asiImplementation) && par.implAsis.contains asi

/-- A data access with an explicit ASI, after alignment: privilege, watchpoint, validity of the ASI for the
instruction, translation and page (R91). An unimplemented ASI is an invalid one (R75); what an access with one of
the implementation does is implementation dependent (D9). -/
def accessAsi (s : State) (asi : BitVec 8) (valid : List (BitVec 8)) (ea : Word64) (size : Nat)
    (kind : AccessKind) : Eff Place := do
  require (!asiPrivileged s asi) .privilegedAction
  checkWatch s (asiSpace asi) ea size kind
  match asiSpace asi with
  | some space =>
    if asi ∈ valid ∧ asiAbsent s.par asi kind.writes = false then locate s asi space ea kind
    else .error (.trap .daeInvalidAsi)
  | none =>
    .error (if implAsi s.par asi then .implementation else .trap .daeInvalidAsi)

/-- The address is a multiple of `n` (R69). -/
def aligned (ea : Word64) (n : Nat) : Bool := ea.toNat % n == 0

/-- The ASI is restricted to other instructions than one that accepts `valid`: its misuse raises no alignment
exception (R69, R79, R81 to R83). -/
def asiMisused (asi : BitVec 8) (valid : List (BitVec 8)) : Bool :=
  decide (asi ∈ asiRestrictedUse) && !decide (asi ∈ valid)

/-- Alignment of an access with an explicit ASI (R69). -/
def checkAlignAsi (asi : BitVec 8) (valid : List (BitVec 8)) (ea : Word64) (n : Nat) : Eff Unit :=
  require (aligned ea n || asiMisused asi valid) .memAddressNotAligned

/-- MemRead (R6, R70): the `n`-byte value at a place. What an I/O location reads as is open (R65): DESIGN CHOICE,
unsafe, the bytes of memory, and no side effect (log entry 36). -/
def loadValue (s : State) (x : Place) (n : Nat) : Nat :=
  if x.little then s.mem.readLE x.ra n else s.mem.readBE x.ra n

/-- MemWrite (R6, R70): the low `n` bytes of `v` at a place. What a store to an I/O location does is open (R65): DESIGN
CHOICE, unsafe, it stores the bytes and has no side effect (log entry 36). -/
def storeValue (s : State) (x : Place) (n v : Nat) : State :=
  { s with mem := if x.little then s.mem.writeLE x.ra n v else s.mem.writeBE x.ra n v }

/-- The place `n` bytes further on. -/
def Place.plus (x : Place) (n : Nat) : Place := { x with ra := x.ra + n }

/-- The cache line of a real address. -/
def lineOf (s : State) (ra : Nat) : Nat := ra - ra % s.par.cacheLine

/-! ## Fetch -/

/-- The page of the instruction at PC: the primary contexts at TL = 0, the nucleus context above (R102). -/
def fetchPage (s : State) : Eff PageAttr :=
  translate s .fetch (if s.tl.val = 0 then s.primary else ⟨0, 0⟩) (maskVa s s.pc)

/-- The real address of the instruction at PC; an address without a translation stands for itself. -/
def fetchAddress (s : State) : Nat :=
  match fetchPage s with
  | .ok x => x.ra
  | .error _ => (maskVa s s.pc).toNat % 2 ^ s.par.raBits

/-- The big-endian word at a real address, in memory (R108). -/
def memoryWord (s : State) (ra : Nat) : Word32 := BitVec.ofNat 32 (s.mem.readBE ra 4)

/-- The word that a fetch from a real address takes: a copy that the instruction side uses, else that in memory (R99,
R108, log entry 11). -/
def codeWord (s : State) (ra : Nat) : Word32 :=
  match s.code.find? fun c => c.used && c.ra == ra with
  | some c => c.word
  | none => memoryWord s ra

/-- Without the copies of words in the doubleword of a real address (R99, R221). -/
def dropCode (s : State) (ra : Nat) : State := { s with code := s.code.filter fun c => c.ra / 8 != ra / 8 }

/-- Fetch the instruction at PC (R92, R108). -/
def fetch (s : State) : Eff Word32 := do
  require (!watchInsn s.par (maskVa s s.pc).toNat) .instructionVaWatchpoint
  let x ← fetchPage s
  require (!(x.p && !s.pstate.priv)) .iaePrivilegeViolation
  require x.ep .iaeUnauthAccess
  require (!x.nfo) .iaeNfoPage
  .ok (codeWord s x.ra)

end Sys2Proof.Machine
end

