-- ==== Sys2Proof/Machine/Environment.lean ====
section
/-!
DEFINITION. What happens between two instructions: time (R497), the stick match (R41), the agents outside the
strand (R486, R488, R293), and the pending disrupting traps with their masks and priorities (R453, R454, R486).
-/

namespace Sys2Proof.Machine

open Sys2Proof

/-! ## Time -/

/-- STICK meets STICK_CMPR while `ns` nanoseconds pass (R41): the count was below the compare value and reaches
it, possibly after wrapping. -/
def stickMatch (s : State) (ns : Nat) : Bool :=
  let old := (clearLow s.stick s.par.stickM).toNat
  let compare := (clearLow s.stickCmpr.cmpr s.par.stickCmprN).toNat
  let reached := (s.stick.toNat + ns) / 2 ^ s.par.stickM * 2 ^ s.par.stickM
  !s.stickCmpr.intDis &&
    decide ((old < compare ∧ compare ≤ reached) ∨ (0 < compare ∧ 2 ^ 63 + compare ≤ reached))

/-- The environment step `tick(ns, cycles)` (R497): the counters advance, a stick match sets SOFTINT.sm, and the
PAUSE and MWAIT counts fall. An MWAIT that ends has used up its Load-Monitor (R44). -/
def passTime (s : State) (ns cycles : Nat) : State :=
  { s with
    softint := if stickMatch s ns then s.softint ||| 0x10000 else s.softint
    stick := s.stick + BitVec.ofNat 63 ns
    tick := s.tick + BitVec.ofNat 63 cycles
    pause := if s.pause = 0 then 0 else s.pause - ns
    monitor := if 0 < s.mwait ∧ s.mwait ≤ ns then none else s.monitor
    mwait := if s.mwait = 0 then 0 else s.mwait - ns }

/-! ## Queues -/

/-- The value of one queue register (R88). -/
def QueueRegs.get (x : QueueRegs) : Queue → Word64
  | .cpuMondo => x.cpuMondo
  | .devMondo => x.devMondo
  | .resumable => x.resumable
  | .nonresumable => x.nonresumable

/-- The queue registers with one replaced. -/
def QueueRegs.set (x : QueueRegs) (q : Queue) (v : Word64) : QueueRegs :=
  match q with
  | .cpuMondo => { x with cpuMondo := v }
  | .devMondo => { x with devMondo := v }
  | .resumable => { x with resumable := v }
  | .nonresumable => { x with nonresumable := v }

/-- The offset of the entry that follows the one at `offset` in the circular queue (R488). -/
def nextEntry (par : Config.Params) (offset : Word64) : Word64 :=
  BitVec.ofNat 64 ((offset.toNat + 64) % (par.queueMaxOffset + 64))

/-- An entry is appended to a queue that is not full (R488). -/
def enqueue (s : State) (q : Queue) : State :=
  if nextEntry s.par (s.queueTail.get q) = s.queueHead.get q then s
  else { s with queueTail := s.queueTail.set q (nextEntry s.par (s.queueTail.get q)) }

/-! ## Events -/

/-- An aligned store of `2 ^ log` bytes by another strand, which becomes visible at one instant (R68, R93); one to the
monitored line ends the monitor and an MWAIT (R44, R293). A misaligned or unimplemented address names no such store. -/
def remoteStore (s : State) (ra : Nat) (log : Fin 4) (value : Word64) : State :=
  if ra % 2 ^ log.val = 0 ∧ ra + 2 ^ log.val ≤ 2 ^ s.par.raBits then
    let t := { s with mem := s.mem.writeBE ra (2 ^ log.val) value.toNat }
    if s.monitor = some (lineOf s ra) then { t with monitor := none, mwait := 0 } else t
  else s

/-- The instruction side takes a copy of the word at a real address, as it is in memory now (R99). -/
def copyCode (s : State) (ra : Nat) : State := { s with code := ⟨ra, memoryWord s ra, false⟩ :: s.code }

/-- Fetches begin or cease to take the `n`-th copy (R99). -/
def useCode (s : State) (n : Nat) (used : Bool) : State :=
  match s.code[n]? with
  | some c => { s with code := s.code.set n { c with used := used } }
  | none => s

/-- What one event does (R99, R486, R488, R497, R293): a tick is of at least a nanosecond (R497). -/
def applyEvent (s : State) : EnvEvent → State
  | .tick ns cycles => passTime s (max 1 ns) cycles
  | .request levels => { s with softint := s.softint ||| (levels ++ (0 : BitVec 1)).setWidth 17 }
  | .enqueue q => enqueue s q
  | .remoteStore ra log value => remoteStore s ra log value
  | .copyCode ra => copyCode s ra
  | .useCode n used => useCode s n used

/-- What happens in a gap between two instructions: the next list of events; where no list is given, a free tick after
a free number of gaps, so that ticks never cease (R497, log entry 7). -/
def elapse (s : State) : State :=
  match s.env with
  | events :: rest => events.foldl applyEvent { s with env := rest }
  | [] =>
    if s.gap = 0 then
      passTime { drawn s with gap := Config.freeGap s.freeCount } (Config.freeNanos s.freeCount + 1)
        (Config.freeCycles s.freeCount)
    else { s with gap := s.gap - 1 }

/-! ## Pending disrupting traps -/

/-- An interrupt of level `n`, 1 to 15, is requested (R486). -/
def levelRequested (s : State) (n : BitVec 4) : Bool :=
  bit s.softint n.toNat || (decide (n = 14) && bit s.softint 16)

/-- The interrupt levels, highest first. -/
def interruptLevels : List (BitVec 4) := [15, 14, 13, 12, 11, 10, 9, 8, 7, 6, 5, 4, 3, 2, 1]

/-- The highest requested interrupt level above PIL (R486). -/
def highestLevel (s : State) : Option (BitVec 4) :=
  interruptLevels.find? fun n => levelRequested s n && decide (s.pil.toNat < n.toNat)

/-- A queue holds an entry (R488). -/
def queuePending (s : State) (q : Queue) : Bool := s.queueHead.get q != s.queueTail.get q

/-- The unmasked pending disrupting trap of the highest priority (R453, R454). -/
def pendingTrap (s : State) : Option Exc :=
  if s.pstate.ie then
    if queuePending s .cpuMondo then some .cpuMondo
    else if queuePending s .devMondo then some .devMondo
    else
      match highestLevel s with
      | some n => some (.interruptLevel n)
      | none =>
        if queuePending s .resumable then some .resumableError
        else if queuePending s .nonresumable then some .nonresumableError
        else none
  else none

/-- The strand is suspended by PAUSE or MWAIT (R43, R44). -/
def suspended (s : State) : Bool := decide (s.pause ≠ 0) || decide (s.mwait ≠ 0)

/-- An unmasked disrupting trap request ends a suspension (R43, R44). -/
def wake (s : State) : State :=
  { s with pause := 0, mwait := 0, monitor := if s.mwait = 0 then s.monitor else none }

/-- The strand with an unmasked disrupting trap pending: woken, and with a free delay to the boundary at which it takes
the trap, if none has been drawn (R453, R497, row 34-V8 of file 93, log entry 15). -/
def awaiting (s : State) : State :=
  match s.trapDelay with
  | some _ => wake s
  | none => { drawn (wake s) with trapDelay := some (Config.freeDelay s.freeCount) }

end Sys2Proof.Machine
end

