-- ==== Sys2Proof/Machine/AsiRegs.lean ====
section
/-!
DEFINITION. The ASI-accessible registers (R86 to R89): what LDXA reads from them and STXA writes to them. Another
virtual address than those the rules list raises DAE_invalid_asi.
-/

namespace Sys2Proof.Machine

open Sys2Proof

/-- ASI_SCRATCHPAD (R86). -/
def asiScratchpad : BitVec 8 := 0x20

/-- ASI_MMU_CONTEXTID (R87). -/
def asiContextId : BitVec 8 := 0x21

/-- ASI_QUEUE (R88). -/
def asiQueue : BitVec 8 := 0x25

/-- ASI_PIC (R89). -/
def asiPic : BitVec 8 := 0xB0

/-- The nontranslating register ASIs. -/
def asiRegister : List (BitVec 8) := [asiScratchpad, asiContextId, asiQueue, asiPic]

/-- The checks of LDXA or STXA with a register ASI before the register is looked up: alignment, privilege, and that the
implementation has the ASI (R73, R75, R91). -/
def checkRegisterAsi (s : State) (asi : BitVec 8) (ea : Word64) : Eff Unit := do
  require (aligned ea 8) .memAddressNotAligned
  require (!asiPrivileged s asi) .privilegedAction
  require (decide (asi = asiPic) || !asiAbsent s.par asi false) .daeInvalidAsi

/-- The virtual address names no register of its ASI. -/
def badVa {α : Type} : Eff α := .error (.trap .daeInvalidAsi)

/-- The scratchpad register at an address (R86). -/
def scratchpadAt (par : Config.Params) (va : Nat) : Option (Fin 8) :=
  if h : va / 8 < 8 then
    if va % 8 = 0 ∧ (va / 8 < 4 ∨ par.scratchpad47) then some ⟨va / 8, h⟩ else none
  else none

/-- The performance counter at an address (R89). -/
def picAt (par : Config.Params) (va : Nat) : Option (Fin 4) :=
  if h : va / 8 < 4 then
    if va % 8 = 0 ∧ va / 8 < par.picCount then some ⟨va / 8, h⟩ else none
  else none

/-- A value as a performance counter holds it: its low `picBits` bits (R490). -/
def picValue (par : Config.Params) (v : Word64) : Word64 := BitVec.ofNat 64 (v.toNat % 2 ^ par.picBits)

/-- The queue of a queue register's address (R88). -/
def queueAt (va : Nat) : Option Queue :=
  if va / 16 = 0x3C then some .cpuMondo
  else if va / 16 = 0x3D then some .devMondo
  else if va / 16 = 0x3E then some .resumable
  else if va / 16 = 0x3F then some .nonresumable
  else none

/-- A context id as its register implements it (R87). -/
def contextId (par : Config.Params) (v : Word64) : BitVec 16 :=
  field v 0 16 &&& BitVec.ofNat 16 (2 ^ par.contextBits - 1)

/-- The value LDXA reads from a register ASI at `va`, and the state after the read: a performance counter holds
any value when it is read (R89, R490, log entry 8). -/
def readInternal (s : State) (asi : BitVec 8) (va : Nat) : Eff (Word64 × State) :=
  if asi = asiScratchpad then
    match scratchpadAt s.par va with
    | some i => .ok (s.scratchpad[i], s)
    | none => badVa
  else if asi = asiContextId then
    if va = 0x008 ∨ va = 0x028 then .ok (zext64 s.primary.id0, s)
    else if va = 0x010 ∨ va = 0x030 then .ok (zext64 s.secondary.id0, s)
    else if va = 0x108 then .ok (zext64 s.primary.id1, s)
    else if va = 0x110 then .ok (zext64 s.secondary.id1, s)
    else badVa
  else if asi = asiQueue then
    match queueAt va with
    | some q =>
      if va % 16 = 0 then .ok (s.queueHead.get q, s)
      else if va % 16 = 8 then .ok (s.queueTail.get q, s)
      else badVa
    | none => badVa
  else
    match picAt s.par va with
    | some i =>
      let v := picValue s.par (freeValue s)
      .ok (v, { drawn s with pic := s.pic.set i v })
    | none => badVa

/-- The value a queue register takes from a store (R88, R488): bits 5:0 stay 0; above the maximum offset the
value is undefined (log entry 8). -/
def queueOffset (s : State) (v : Word64) : Word64 :=
  (if s.par.queueMaxOffset < v.toNat then freeValue s else v) &&& ~~~(0x3F : Word64)

/-- The state after STXA of `v` to a register ASI at `va`. -/
def writeInternal (s : State) (asi : BitVec 8) (va : Nat) (v : Word64) : Eff State :=
  let id := contextId s.par v
  if asi = asiScratchpad then
    match scratchpadAt s.par va with
    | some i => .ok { s with scratchpad := s.scratchpad.set i v }
    | none => badVa
  else if asi = asiContextId then
    if va = 0x008 then .ok { s with primary := ⟨id, id⟩ }
    else if va = 0x010 then .ok { s with secondary := ⟨id, id⟩ }
    else if va = 0x028 then .ok { s with primary := { s.primary with id0 := id } }
    else if va = 0x030 then .ok { s with secondary := { s.secondary with id0 := id } }
    else if va = 0x108 then .ok { s with primary := { s.primary with id1 := id } }
    else if va = 0x110 then .ok { s with secondary := { s.secondary with id1 := id } }
    else badVa
  else if asi = asiQueue then
    match queueAt va with
    | some q =>
      if va % 16 = 0 then .ok { drawn s with queueHead := s.queueHead.set q (queueOffset s v) }
      else if va % 16 = 8 ∧ s.par.queueTailWritable then
        .ok { drawn s with queueTail := s.queueTail.set q (queueOffset s v) }
      else badVa
    | none => badVa
  else
    match picAt s.par va with
    | some i => .ok { s with pic := s.pic.set i (picValue s.par v) }
    | none => badVa

end Sys2Proof.Machine
end

