-- ==== Sys2Proof/Machine/LoadStore.lean ====
section
/-!
DEFINITION. The integer loads and stores, atomic load-stores, prefetches and barriers of spec file 42. Checks
come in the order of R91; an access that passes them all has its whole effect.
-/

namespace Sys2Proof.Machine

open Sys2Proof

/-! ## Shared forms -/

/-- An `n`-byte value sign-extended (R6). -/
def signedBytes (n v : Nat) : Word64 := sext64 (BitVec.ofNat (8 * n) v)

/-- An `n`-byte value zero-extended (R6). -/
def unsignedBytes (n v : Nat) : Word64 := zext64 (BitVec.ofNat (8 * n) v)

/-- The checks of an aligned `n`-byte access with the implicit ASI (R222). -/
def placeImplicit (s : State) (ea : Word64) (n : Nat) (kind : AccessKind) : Eff Place := do
  require (aligned ea n) .memAddressNotAligned
  accessImplicit s ea n kind

/-- The checks of an aligned `n`-byte access with an explicit ASI (R222). -/
def placeAsi (s : State) (asi : BitVec 8) (valid : List (BitVec 8)) (ea : Word64) (n : Nat) (kind : AccessKind) :
    Eff Place := do
  checkAlignAsi asi valid ea n
  accessAsi s asi valid ea n kind

/-- Load-Monitor (R84): a load with one of its ASIs arms the monitor on the line it reads. -/
def armMonitor (s : State) (asi : BitVec 8) (x : Place) (t : State) : State :=
  if asi ∈ asiMonitor then { t with monitor := some (lineOf s x.ra) } else t

/-- A load of `n` bytes with the implicit ASI (R223 to R229). -/
def loadImplicit (n : Nat) (extend : Nat → Nat → Word64) (rd rs1 : Reg) (op2 : RegImm 13) (s : State) : Out :=
  finish s do
    let x ← placeImplicit s (effAddr s rs1 op2) n .load
    .ok (advance (writeR s rd (extend n (loadValue s x n))))

/-- R[rd] with the `n` bytes that an access to an address space of the implementation gives: a free value (D9, log entry
28). -/
def openR (s : State) (n : Nat) (extend : Nat → Nat → Word64) (rd : Reg) : State :=
  writeR (drawn s) rd (extend n (freeValue s).toNat)

/-- A load of `n` bytes with an explicit ASI (R230 to R237). -/
def loadAlternate (n : Nat) (extend : Nat → Nat → Word64) (rd rs1 : Reg) (addr : AltOperand) (s : State) : Out :=
  finishOpen (openR s n extend rd) s do
    let x ← placeAsi s (altAsi s addr) (asiLoad ++ asiMonitor) (altAddr s rs1 addr) n .load
    .ok (advance (armMonitor s (altAsi s addr) x (writeR s rd (extend n (loadValue s x n)))))

/-- A store of the low `n` bytes of R[rd] with the implicit ASI (R245 to R249). -/
def storeImplicit (n : Nat) (rd rs1 : Reg) (op2 : RegImm 13) (s : State) : Out :=
  finish s do
    let x ← placeImplicit s (effAddr s rs1 op2) n .store
    .ok (advance (storeValue s x n (readR s rd).toNat))

/-- The bytes of [`first`, `first + count`) that lie outside [`lo`, `hi`) take free values. -/
def scramble (s : State) (first lo hi : Nat) : Nat → State
  | 0 => s
  | count + 1 =>
    let t := scramble s first lo hi count
    let a := first + count
    if lo ≤ a ∧ a < hi then t else { drawn t with mem := t.mem.write a (field (freeValue t) 0 8) }

/-- The effect of a block-initialising store of `n` bytes on the rest of its line (R80, STBI_LINE_EFFECT). -/
def stbiEffect (s : State) (asi : BitVec 8) (x : Place) (n : Nat) (t : State) : State :=
  if asi ∈ asiStbi ++ asiStbiX ∧ s.par.stbiLineEffect = .unspecified then
    scramble t (lineOf s x.ra) x.ra (x.ra + n) s.par.cacheLine
  else t

/-- A store of the low `n` bytes of R[rd] with an explicit ASI (R250 to R253). -/
def storeAlternate (n : Nat) (rd rs1 : Reg) (addr : AltOperand) (s : State) : Out :=
  finish s do
    let x ← placeAsi s (altAsi s addr) (asiStore ++ asiStbi) (altAddr s rs1 addr) n .store
    .ok (advance (stbiEffect s (altAsi s addr) x n (storeValue s x n (readR s rd).toNat)))

/-- An even register number, or illegal_instruction (R240). -/
def needEven (rd : Reg) : Eff Unit := require (!bit rd 0) .illegalInstruction

/-- The state after a twin load of two `n`-byte values into the pair at `rd` (R70, R240, R242). -/
def loadTwin (s : State) (x : Place) (n : Nat) (rd : Reg) : State :=
  writeR (writeR s rd (unsignedBytes n (loadValue s x n))) (rd ||| 1)
    (unsignedBytes n (loadValue s (x.plus n) n))

/-- The state after a twin store of the low words of the pair at `rd` (R70, R255). -/
def storeTwin (s : State) (x : Place) (rd : Reg) : State :=
  storeValue (storeValue s x 4 (readR s rd).toNat) (x.plus 4) 4 (readR s (rd ||| 1)).toNat

/-- Compare and swap of `n` bytes at R[rs1] (R219, R220). -/
def compareSwap (n : Nat) (rd rs1 rs2 : Reg) (asi : AsiSource) (s : State) : Out :=
  finishOpen (openR s n unsignedBytes rd) s do
    let x ← placeAsi s (casAsi s asi) asiAtomic (readR s rs1) n .atomic
    let old := loadValue s x n
    let t := if old = (readR s rs2).toNat % 256 ^ n then storeValue s x n (readR s rd).toNat else s
    .ok (advance (writeR t rd (unsignedBytes n old)))

/-- An atomic exchange of `n` bytes with `v` at a place that passed its checks (R238, R257). -/
def exchange (s : State) (x : Place) (n v : Nat) (rd : Reg) : State :=
  advance (writeR (storeValue s x n v) rd (unsignedBytes n (loadValue s x n)))

/-! ## Loads with the implicit ASI -/

/-- LDSB (R223). -/
def execLDSB (rd rs1 : Reg) (op2 : RegImm 13) (s : State) : Out :=
  loadImplicit 1 signedBytes rd rs1 op2 s

/-- LDSH (R224). -/
def execLDSH (rd rs1 : Reg) (op2 : RegImm 13) (s : State) : Out :=
  loadImplicit 2 signedBytes rd rs1 op2 s

/-- LDSW (R225). -/
def execLDSW (rd rs1 : Reg) (op2 : RegImm 13) (s : State) : Out :=
  loadImplicit 4 signedBytes rd rs1 op2 s

/-- LDUB (R226). -/
def execLDUB (rd rs1 : Reg) (op2 : RegImm 13) (s : State) : Out :=
  loadImplicit 1 unsignedBytes rd rs1 op2 s

/-- LDUH (R227). -/
def execLDUH (rd rs1 : Reg) (op2 : RegImm 13) (s : State) : Out :=
  loadImplicit 2 unsignedBytes rd rs1 op2 s

/-- LDUW (R228). -/
def execLDUW (rd rs1 : Reg) (op2 : RegImm 13) (s : State) : Out :=
  loadImplicit 4 unsignedBytes rd rs1 op2 s

/-- LDX (R229). -/
def execLDX (rd rs1 : Reg) (op2 : RegImm 13) (s : State) : Out :=
  loadImplicit 8 unsignedBytes rd rs1 op2 s

/-- LDTW (R240). -/
def execLDTW (rd rs1 : Reg) (op2 : RegImm 13) (s : State) : Out :=
  finish s do
    needEven rd
    let x ← placeImplicit s (effAddr s rs1 op2) 8 .load
    .ok (advance (loadTwin s x 4 rd))

/-! ## Loads with an explicit ASI -/

/-- LDSBA (R231). -/
def execLDSBA (rd rs1 : Reg) (addr : AltOperand) (s : State) : Out :=
  loadAlternate 1 signedBytes rd rs1 addr s

/-- LDSHA (R232). -/
def execLDSHA (rd rs1 : Reg) (addr : AltOperand) (s : State) : Out :=
  loadAlternate 2 signedBytes rd rs1 addr s

/-- LDSWA (R233). -/
def execLDSWA (rd rs1 : Reg) (addr : AltOperand) (s : State) : Out :=
  loadAlternate 4 signedBytes rd rs1 addr s

/-- LDUBA (R234). -/
def execLDUBA (rd rs1 : Reg) (addr : AltOperand) (s : State) : Out :=
  loadAlternate 1 unsignedBytes rd rs1 addr s

/-- LDUHA (R235). -/
def execLDUHA (rd rs1 : Reg) (addr : AltOperand) (s : State) : Out :=
  loadAlternate 2 unsignedBytes rd rs1 addr s

/-- LDUWA (R236). -/
def execLDUWA (rd rs1 : Reg) (addr : AltOperand) (s : State) : Out :=
  loadAlternate 4 unsignedBytes rd rs1 addr s

/-- LDXA (R237): from memory, or from a register ASI. -/
def execLDXA (rd rs1 : Reg) (addr : AltOperand) (s : State) : Out :=
  if altAsi s addr ∈ asiRegister then
    finish s do
      checkRegisterAsi s (altAsi s addr) (altAddr s rs1 addr)
      let r ← readInternal s (altAsi s addr) (altAddr s rs1 addr).toNat
      .ok (advance (writeR r.2 rd r.1))
  else loadAlternate 8 unsignedBytes rd rs1 addr s

/-- LDTWA (R241); with the ASI register holding a twin ASI it raises DAE_invalid_asi. -/
def execLDTWA (rd rs1 : Reg) (addr : AltOperand) (s : State) : Out :=
  finishOpen (openR (openR s 4 unsignedBytes rd) 4 unsignedBytes (rd ||| 1)) s do
    needEven rd
    let x ← placeAsi s (altAsi s addr) asiLoad (altAddr s rs1 addr) 8 .load
    .ok (advance (loadTwin s x 4 rd))

/-- LDTXA (R242). -/
def execLDTXA (rd rs1 rs2 : Reg) (asi : BitVec 8) (s : State) : Out :=
  finish s do
    needEven rd
    let x ← placeAsi s asi asiTwin (readR s rs1 + readR s rs2) 16 .cachedLoad
    .ok (advance (loadTwin s x 8 rd))

/-! ## Stores -/

/-- STB (R246). -/
def execSTB (rd rs1 : Reg) (op2 : RegImm 13) (s : State) : Out :=
  storeImplicit 1 rd rs1 op2 s

/-- STH (R247). -/
def execSTH (rd rs1 : Reg) (op2 : RegImm 13) (s : State) : Out :=
  storeImplicit 2 rd rs1 op2 s

/-- STW (R248). -/
def execSTW (rd rs1 : Reg) (op2 : RegImm 13) (s : State) : Out :=
  storeImplicit 4 rd rs1 op2 s

/-- STX (R249). -/
def execSTX (rd rs1 : Reg) (op2 : RegImm 13) (s : State) : Out :=
  storeImplicit 8 rd rs1 op2 s

/-- STTW (R255). -/
def execSTTW (rd rs1 : Reg) (op2 : RegImm 13) (s : State) : Out :=
  finish s do
    needEven rd
    let x ← placeImplicit s (effAddr s rs1 op2) 8 .store
    .ok (advance (storeTwin s x rd))

/-- STBA (R251). -/
def execSTBA (rd rs1 : Reg) (addr : AltOperand) (s : State) : Out :=
  storeAlternate 1 rd rs1 addr s

/-- STHA (R252). -/
def execSTHA (rd rs1 : Reg) (addr : AltOperand) (s : State) : Out :=
  storeAlternate 2 rd rs1 addr s

/-- STWA (R253). -/
def execSTWA (rd rs1 : Reg) (addr : AltOperand) (s : State) : Out :=
  storeAlternate 4 rd rs1 addr s

/-- STXA (R254): to memory, or to a register ASI. -/
def execSTXA (rd rs1 : Reg) (addr : AltOperand) (s : State) : Out :=
  if altAsi s addr ∈ asiRegister then
    finish s do
      checkRegisterAsi s (altAsi s addr) (altAddr s rs1 addr)
      let t ← writeInternal s (altAsi s addr) (altAddr s rs1 addr).toNat (readR s rd)
      .ok (advance t)
  else
    finish s do
      let x ← placeAsi s (altAsi s addr) (asiStore ++ asiStbiX) (altAddr s rs1 addr) 8 .store
      .ok (advance (stbiEffect s (altAsi s addr) x 8 (storeValue s x 8 (readR s rd).toNat)))

/-- STTWA (R256). -/
def execSTTWA (rd rs1 : Reg) (addr : AltOperand) (s : State) : Out :=
  finish s do
    needEven rd
    let x ← placeAsi s (altAsi s addr) (asiStore ++ asiStbi) (altAddr s rs1 addr) 8 .store
    .ok (advance (stbiEffect s (altAsi s addr) x 8 (storeTwin s x rd)))

/-! ## Atomic load-stores -/

/-- LDSTUB (R238). -/
def execLDSTUB (rd rs1 : Reg) (op2 : RegImm 13) (s : State) : Out :=
  finish s do
    let x ← placeImplicit s (effAddr s rs1 op2) 1 .atomic
    .ok (exchange s x 1 0xFF rd)

/-- LDSTUBA (R239). -/
def execLDSTUBA (rd rs1 : Reg) (addr : AltOperand) (s : State) : Out :=
  finishOpen (openR s 1 unsignedBytes rd) s do
    let x ← placeAsi s (altAsi s addr) asiAtomic (altAddr s rs1 addr) 1 .atomic
    .ok (exchange s x 1 0xFF rd)

/-- SWAP (R257). -/
def execSWAP (rd rs1 : Reg) (op2 : RegImm 13) (s : State) : Out :=
  finish s do
    let x ← placeImplicit s (effAddr s rs1 op2) 4 .atomic
    .ok (exchange s x 4 (readR s rd).toNat rd)

/-- SWAPA (R258). -/
def execSWAPA (rd rs1 : Reg) (addr : AltOperand) (s : State) : Out :=
  finishOpen (openR s 4 unsignedBytes rd) s do
    let x ← placeAsi s (altAsi s addr) asiAtomic (altAddr s rs1 addr) 4 .atomic
    .ok (exchange s x 4 (readR s rd).toNat rd)

/-- CASA (R219). -/
def execCASA (rd rs1 rs2 : Reg) (asi : AsiSource) (s : State) : Out := compareSwap 4 rd rs1 rs2 asi s

/-- CASXA (R220). -/
def execCASXA (rd rs1 rs2 : Reg) (asi : AsiSource) (s : State) : Out := compareSwap 8 rd rs1 rs2 asi s

/-! ## Prefetch and barriers -/

/-- A prefetch function that is not reserved (R244). -/
def needPrefetchFcn (fcn : BitVec 5) : Eff Unit :=
  require (!(decide (5 ≤ fcn.toNat) && decide (fcn.toNat ≤ 15))) .illegalInstruction

/-- The ASI checks of PREFETCHA by R73, R76, R79, R81 to R83, R91 (4) and R465; by R244 there are none (log entry 34).
-/
def checkPrefetchAsi (s : State) (asi : BitVec 8) : Eff Unit := do
  require (s.par.prefetchaNop || !asiPrivileged s asi) .privilegedAction
  require (s.par.prefetchaNop || (decide (asi ∈ asiPrefetch) && !asiAbsent s.par asi false) || implAsi s.par asi)
    .daeInvalidAsi

/-- PREFETCH (R244): illegal_instruction for a reserved function, and otherwise no effect. -/
def execPREFETCH (fcn : BitVec 5) (_rs1 : Reg) (_op2 : RegImm 13) (s : State) : Out :=
  finish s do
    needPrefetchFcn fcn
    .ok (advance s)

/-- PREFETCHA (R244): as PREFETCH, where the platform does not check its ASI (log entry 34). -/
def execPREFETCHA (fcn : BitVec 5) (_rs1 : Reg) (addr : AltOperand) (s : State) : Out :=
  finish s do
    needPrefetchFcn fcn
    checkPrefetchAsi s (altAsi s addr)
    .ok (advance s)

/-- MEMBAR (R97, R243): every access of this strand has been performed when the next instruction starts, so no
mask has a further effect (log entry 10). -/
def execMEMBAR (_cmask : BitVec 3) (_mmask : BitVec 4) (s : State) : Out := .next (advance s)

/-- STBAR (R259), as MEMBAR #StoreStore. -/
def execSTBAR (s : State) : Out := .next (advance s)

/-- FLUSH (R99, R221): the instruction side gives up its copies of the doubleword, or, where the address is ignored
(FLUSH_USES_MMU false), all its copies (log entry 11). With FLUSH_USES_MMU the doubleword's address is translated and
its page checked. R221 and R91 do not say as which access: DESIGN CHOICE, unsafe, as that of a load, and TTE.p is
checked too (log entry 42). -/
def execFLUSH (rs1 : Reg) (op2 : RegImm 13) (s : State) : Out :=
  finish s do
    if s.par.flushUsesMmu then
      let ea := effAddr s rs1 op2 &&& ~~~(7 : Word64)
      let x ← locate s (implicitAsi s) ((asiSpace (implicitAsi s)).getD .primary) ea ⟨false, false, false⟩
      .ok (advance (dropCode s x.ra))
    else .ok (advance { s with code := [] })

end Sys2Proof.Machine
end

