-- ==== Sys2Proof/Machine/FpLoadStore.lean ====
section
/-!
DEFINITION. The floating-point loads and stores of spec file 43. FP accesses need the FPU; checks come in the order of
R454: illegal_instruction, fp_disabled, alignment, then the access.
-/

namespace Sys2Proof.Machine

open Sys2Proof

/-! ## Shared forms -/

/-- Quad loads and stores exist only where the implementation has them (R263, R275, R339). -/
def needQuad (s : State) : Eff Unit := require s.par.hasQuad .illegalInstruction

/-- A quad register number is a multiple of 4, or invalid_fp_register is raised (R115, R263, R275). -/
def needQuadReg (k : DReg) : Eff Unit := require (!bit k 0) (.fpOther 6)

/-- The alignment checks of a doubleword FP access (R262, R274): `exempt` when the ASI is restricted to another
instruction. -/
def checkAlignDouble (exempt : Bool) (ea : Word64) (e : Exc) : Eff Unit := do
  require (aligned ea 4 || exempt) .memAddressNotAligned
  require (aligned ea 8 || exempt) e

/-- The alignment checks of a quadword FP access (R263, R275): `exempt` when the ASI is restricted to another
instruction. -/
def checkAlignQuad (exempt : Bool) (ea : Word64) (e : Exc) : Eff Unit := do
  require (aligned ea 4 || exempt) .memAddressNotAligned
  require (aligned ea 16 || exempt) e

/-- A block register number is a multiple of eight double registers (R260, R271). -/
def needBlockReg (k : DReg) : Eff Unit := require (field k 0 3 == 0) .illegalInstruction

/-- F_D[rd + 2j] loaded from the `j`-th doubleword of a block, for `j` below a count (R260). -/
def loadBlock (s : State) (x : Place) (rd : DReg) : Nat → State
  | 0 => s
  | j + 1 =>
    writeFD (loadBlock s x rd j) (rd + BitVec.ofNat 5 j) (BitVec.ofNat 64 (loadValue s (x.plus (8 * j)) 8))

/-- F_D[rd + 2j] stored to the `j`-th doubleword of a block, for `j` below a count (R271). -/
def storeBlock (s : State) (x : Place) (rd : DReg) : Nat → State
  | 0 => s
  | j + 1 => storeValue (storeBlock s x rd j) (x.plus (8 * j)) 8 (readFD s (rd + BitVec.ofNat 5 j)).toNat

/-- Block load (R260). -/
def blockLoad (s : State) (rd : DReg) (asi : BitVec 8) (ea : Word64) : Eff State := do
  needBlockReg rd
  needFpu s
  let x ← placeAsi s asi asiBlock ea 64 .cachedLoad
  .ok (advance (loadBlock s x rd 8))

/-- Block store (R271). -/
def blockStore (s : State) (rd : DReg) (asi : BitVec 8) (ea : Word64) : Eff State := do
  needBlockReg rd
  needFpu s
  let x ← placeAsi s asi (asiBlock ++ asiCommit) ea 64 .store
  .ok (advance (storeBlock s x rd 8))

/-- The number of bytes a short floating-point ASI moves (R83). -/
def shortBytes (asi : BitVec 8) : Nat := if bit asi 1 then 2 else 1

/-- Short floating-point load (R269). -/
def shortLoad (s : State) (rd : DReg) (asi : BitVec 8) (ea : Word64) : Eff State := do
  needFpu s
  let x ← placeAsi s asi asiShort ea (shortBytes asi) .load
  .ok (advance (writeFD s rd (BitVec.ofNat 64 (loadValue s x (shortBytes asi)))))

/-- Short floating-point store (R282). -/
def shortStore (s : State) (rd : DReg) (asi : BitVec 8) (ea : Word64) : Eff State := do
  needFpu s
  let x ← placeAsi s asi asiShort ea (shortBytes asi) .store
  .ok (advance (storeValue s x (shortBytes asi) (readFD s rd).toNat))

/-- The size in bytes of the elements of a partial store (R82, R281): 1, 2 or 4. -/
def partialBytes (asi : BitVec 8) : Nat := 2 ^ (field asi 1 2).toNat

/-- The bits of the low `n` bytes of a doubleword whose element of `size` bytes a mask selects (R281). -/
def partialMask (mask : Word64) (size : Nat) : Nat → Word64
  | 0 => 0
  | n + 1 => partialMask mask size n ||| (if bit mask (n / size) then (0xFF : Word64) <<< (8 * n) else 0)

/-- The fields of FSR that LDFSR writes from a word (R24, R268). -/
def Fsr.loadLow (par : Config.Params) (x : Fsr) (w : Word64) : Fsr :=
  { x with ns := par.hasNsMode && bit w 22, rd := field w 30 2, tem := .ofBits (field w 23 5),
           fcc0 := field w 10 2, aexc := .ofBits (field w 5 5), cexc := .ofBits (field w 0 5) }

/-- The fields of FSR that LDXFSR writes (R270). -/
def Fsr.loadWide (par : Config.Params) (x : Fsr) (w : Word64) : Fsr :=
  { x.loadLow par w with fcc3 := field w 36 2, fcc2 := field w 34 2, fcc1 := field w 32 2 }

/-- A load of FSR from `n` bytes (R268, R270). -/
def loadFsr (n : Nat) (update : Config.Params → Fsr → Word64 → Fsr) (rs1 : Reg) (op2 : RegImm 13) (s : State) : Out :=
  finish s do
    needFpu s
    let x ← placeImplicit s (effAddr s rs1 op2) n .load
    .ok (advance { s with fsr := update s.par s.fsr (BitVec.ofNat 64 (loadValue s x n)) })

/-- A store of the low `n` bytes of FSR, after which FSR.ftt is 0 (R280, R283). -/
def storeFsr (n : Nat) (rs1 : Reg) (op2 : RegImm 13) (s : State) : Out :=
  finish s do
    needFpu s
    let x ← placeImplicit s (effAddr s rs1 op2) n .store
    .ok (advance { storeValue s x n (s.fsr.bits s.par.fsrVer).toNat with fsr := { s.fsr with ftt := 0 } })

/-! ## Loads -/

/-- LDF (R261). -/
def execLDF (rd : FReg) (rs1 : Reg) (op2 : RegImm 13) (s : State) : Out :=
  finish s do
    needFpu s
    let x ← placeImplicit s (effAddr s rs1 op2) 4 .load
    .ok (advance (writeFS s rd (BitVec.ofNat 32 (loadValue s x 4))))

/-- LDDF (R262). -/
def execLDDF (rd : DReg) (rs1 : Reg) (op2 : RegImm 13) (s : State) : Out :=
  finish s do
    needFpu s
    let ea := effAddr s rs1 op2
    checkAlignDouble false ea .lddfNotAligned
    let x ← accessImplicit s ea 8 .load
    .ok (advance (writeFD s rd (BitVec.ofNat 64 (loadValue s x 8))))

/-- LDQF (R263). -/
def execLDQF (rd : DReg) (rs1 : Reg) (op2 : RegImm 13) (s : State) : Out :=
  finish s do
    needQuad s
    needFpu s
    let ea := effAddr s rs1 op2
    checkAlignQuad false ea .ldqfNotAligned
    needQuadReg rd
    let x ← accessImplicit s ea 16 .load
    .ok (advance (writeFQ s rd (BitVec.ofNat 128 (loadValue s x 16))))

/-- LDFA (R265). -/
def execLDFA (rd : FReg) (rs1 : Reg) (addr : AltOperand) (s : State) : Out :=
  finishOpen (writeFS (drawn s) rd (field (freeValue s) 0 32)) s do
    needFpu s
    let x ← placeAsi s (altAsi s addr) asiLoad (altAddr s rs1 addr) 4 .load
    .ok (advance (writeFS s rd (BitVec.ofNat 32 (loadValue s x 4))))

/-- LDDFA (R266). With the ASI register holding a block or short ASI it is LDBLOCKF or LDSHORTF; with a
block-commit ASI a misaligned rd is illegal or not, for the spec says both (log entry 17); a commit or partial-store ASI
that passes the alignment checks raises DAE_invalid_asi. -/
def execLDDFA (rd : DReg) (rs1 : Reg) (addr : AltOperand) (s : State) : Out :=
  let asi := altAsi s addr
  let ea := altAddr s rs1 addr
  finishOpen (writeFD (drawn s) rd (freeValue s)) s (
    if asi ∈ asiBlock then blockLoad s rd asi ea
    else if asi ∈ asiShort then shortLoad s rd asi ea
    else do
      if asi ∈ asiCommit ∧ s.par.commitLoadIllegal then needBlockReg rd
      needFpu s
      checkAlignDouble (decide (asi ∈ asiTwin)) ea .lddfNotAligned
      let x ← accessAsi s asi asiLoad ea 8 .load
      .ok (advance (writeFD s rd (BitVec.ofNat 64 (loadValue s x 8)))))

/-- LDQFA (R267). -/
def execLDQFA (rd : DReg) (rs1 : Reg) (addr : AltOperand) (s : State) : Out :=
  finishOpen (writeFQ (drawn (drawn s)) rd (freeValue s ++ freeValue (drawn s))) s do
    needQuad s
    needFpu s
    let ea := altAddr s rs1 addr
    checkAlignQuad (asiMisused (altAsi s addr) asiLoad) ea .ldqfNotAligned
    needQuadReg rd
    let x ← accessAsi s (altAsi s addr) asiLoad ea 16 .load
    .ok (advance (writeFQ s rd (BitVec.ofNat 128 (loadValue s x 16))))

/-- LDBLOCKF (R260). -/
def execLDBLOCKF (rd : DReg) (rs1 rs2 : Reg) (asi : BitVec 8) (s : State) : Out :=
  finish s (blockLoad s rd asi (readR s rs1 + readR s rs2))

/-- LDSHORTF (R269). -/
def execLDSHORTF (rd : DReg) (rs1 rs2 : Reg) (asi : BitVec 8) (s : State) : Out :=
  finish s (shortLoad s rd asi (readR s rs1 + readR s rs2))

/-- LDFSR (R268). -/
def execLDFSR (rs1 : Reg) (op2 : RegImm 13) (s : State) : Out := loadFsr 4 Fsr.loadLow rs1 op2 s

/-- LDXFSR (R270). -/
def execLDXFSR (rs1 : Reg) (op2 : RegImm 13) (s : State) : Out := loadFsr 8 Fsr.loadWide rs1 op2 s

/-- LDXEFSR (R270): as LDXFSR, and FSR.ftt. -/
def execLDXEFSR (rs1 : Reg) (op2 : RegImm 13) (s : State) : Out :=
  loadFsr 8 (fun par x w => { x.loadWide par w with ftt := field w 14 3 }) rs1 op2 s

/-! ## Stores -/

/-- STF (R273). -/
def execSTF (rd : FReg) (rs1 : Reg) (op2 : RegImm 13) (s : State) : Out :=
  finish s do
    needFpu s
    let x ← placeImplicit s (effAddr s rs1 op2) 4 .store
    .ok (advance (storeValue s x 4 (readFS s rd).toNat))

/-- STDF (R274). -/
def execSTDF (rd : DReg) (rs1 : Reg) (op2 : RegImm 13) (s : State) : Out :=
  finish s do
    needFpu s
    let ea := effAddr s rs1 op2
    checkAlignDouble false ea .stdfNotAligned
    let x ← accessImplicit s ea 8 .store
    .ok (advance (storeValue s x 8 (readFD s rd).toNat))

/-- STQF (R275). -/
def execSTQF (rd : DReg) (rs1 : Reg) (op2 : RegImm 13) (s : State) : Out :=
  finish s do
    needQuad s
    needFpu s
    let ea := effAddr s rs1 op2
    checkAlignQuad false ea .stqfNotAligned
    needQuadReg rd
    let x ← accessImplicit s ea 16 .store
    .ok (advance (storeValue s x 16 (readFQ s rd).toNat))

/-- STFA (R277). -/
def execSTFA (rd : FReg) (rs1 : Reg) (addr : AltOperand) (s : State) : Out :=
  finish s do
    needFpu s
    let x ← placeAsi s (altAsi s addr) (asiStore ++ asiStbi) (altAddr s rs1 addr) 4 .store
    .ok (advance (stbiEffect s (altAsi s addr) x 4 (storeValue s x 4 (readFS s rd).toNat)))

/-- i = 1 with the ASI register holding a partial-store ASI (R82). -/
def partialByAsiReg (s : State) : AltOperand → Bool
  | .immAsi _ _ => false
  | .asiReg _ => decide (s.asi ∈ asiPartial)

/-- STDFA (R278). With the ASI register holding a block or short ASI it is STBLOCKF or STSHORTF; holding a
partial-store ASI it is illegal (R82, R281). -/
def execSTDFA (rd : DReg) (rs1 : Reg) (addr : AltOperand) (s : State) : Out :=
  let asi := altAsi s addr
  let ea := altAddr s rs1 addr
  finish s (
    if asi ∈ asiBlock ++ asiCommit then blockStore s rd asi ea
    else if asi ∈ asiShort then shortStore s rd asi ea
    else do
      require (!partialByAsiReg s addr) .illegalInstruction
      needFpu s
      checkAlignDouble (decide (asi ∈ asiTwin)) ea .stdfNotAligned
      let x ← accessAsi s asi asiStore ea 8 .store
      .ok (advance (storeValue s x 8 (readFD s rd).toNat)))

/-- STQFA (R279). -/
def execSTQFA (rd : DReg) (rs1 : Reg) (addr : AltOperand) (s : State) : Out :=
  finish s do
    needQuad s
    needFpu s
    let ea := altAddr s rs1 addr
    checkAlignQuad (asiMisused (altAsi s addr) (asiStore ++ asiStbi)) ea .stqfNotAligned
    needQuadReg rd
    let x ← accessAsi s (altAsi s addr) (asiStore ++ asiStbi) ea 16 .store
    .ok (advance (stbiEffect s (altAsi s addr) x 16 (storeValue s x 16 (readFQ s rd).toNat)))

/-- STBLOCKF (R271). -/
def execSTBLOCKF (rd : DReg) (rs1 rs2 : Reg) (asi : BitVec 8) (s : State) : Out :=
  finish s (blockStore s rd asi (readR s rs1 + readR s rs2))

/-- STPARTIALF (R281): R[rs2] is the mask, R[rs1] the address; the bytes it does not select keep their values.
At an address that is 4 modulo 8, R281 and R82 name different exceptions (log entry 41). -/
def execSTPARTIALF (rd : DReg) (rs1 rs2 : Reg) (asi : BitVec 8) (s : State) : Out :=
  finish s do
    needFpu s
    let ea := readR s rs1
    checkAlignDouble false ea (if s.par.partialStdf then .stdfNotAligned else .memAddressNotAligned)
    let x ← accessAsi s asi asiPartial ea 8 .cachedStore
    let m := partialMask (readR s rs2) (partialBytes asi) 8
    let old := BitVec.ofNat 64 (loadValue s x 8)
    .ok (advance (storeValue s x 8 ((readFD s rd &&& m) ||| (old &&& ~~~m)).toNat))

/-- STSHORTF (R282). -/
def execSTSHORTF (rd : DReg) (rs1 rs2 : Reg) (asi : BitVec 8) (s : State) : Out :=
  finish s (shortStore s rd asi (readR s rs1 + readR s rs2))

/-- STFSR (R280). -/
def execSTFSR (rs1 : Reg) (op2 : RegImm 13) (s : State) : Out := storeFsr 4 rs1 op2 s

/-- STXFSR (R283). -/
def execSTXFSR (rs1 : Reg) (op2 : RegImm 13) (s : State) : Out := storeFsr 8 rs1 op2 s

end Sys2Proof.Machine
end

