-- ==== Sys2Proof/Machine/Float.lean ====
section
/-!
DEFINITION. Floating-point numbers as bit patterns (R18) and the IEEE 754 operations on them: every result is the exact
value rounded once (R340, R342 to R348). Exact values are computed in the integers: a significand, an
exponent of two and, after a division or a square root, whether a nonzero remainder was left.
-/

namespace Sys2Proof.Machine

/-! ## Formats -/

/-- A binary format (R18): the widths of its exponent and fraction fields. -/
structure FpFormat where
  expBits : Nat
  fracBits : Nat
deriving DecidableEq, Repr

/-- Single precision. -/
def FpFormat.single : FpFormat := ⟨8, 23⟩

/-- Double precision. -/
def FpFormat.double : FpFormat := ⟨11, 52⟩

/-- Quad precision. -/
def FpFormat.quad : FpFormat := ⟨15, 112⟩

/-- The bias of the exponent. -/
def FpFormat.bias (m : FpFormat) : Nat := 2 ^ (m.expBits - 1) - 1

/-- The exponent field of infinities and NaNs. -/
def FpFormat.maxExp (m : FpFormat) : Nat := 2 ^ m.expBits - 1

/-- The exponent of the least significant bit of a subnormal number. -/
def FpFormat.minQuantum (m : FpFormat) : Int := 1 - (m.bias : Int) - m.fracBits

/-- A sign bit at its place. -/
def FpFormat.signBit (m : FpFormat) (neg : Bool) : Nat := if neg then 2 ^ (m.expBits + m.fracBits) else 0

/-- The pattern of an infinity. -/
def FpFormat.inf (m : FpFormat) (neg : Bool) : Nat := m.signBit neg + m.maxExp * 2 ^ m.fracBits

/-- The default quiet NaN (R343): sign 0 and a fraction of ones. -/
def FpFormat.defaultNan (m : FpFormat) : Nat := 2 ^ (m.expBits + m.fracBits) - 1

/-- The pattern is that of a subnormal number (R18): exponent field 0 and a nonzero fraction. -/
def FpFormat.subnormal (m : FpFormat) (x : Nat) : Bool :=
  decide (x / 2 ^ m.fracBits % 2 ^ m.expBits = 0 ∧ x % 2 ^ m.fracBits ≠ 0)

/-- The sign bit of a pattern. -/
def FpFormat.negative (m : FpFormat) (x : Nat) : Bool := x / 2 ^ (m.expBits + m.fracBits) % 2 == 1

/-- The pattern of the zero of the same sign. -/
def FpFormat.sameSignZero (m : FpFormat) (x : Nat) : Nat := m.signBit (m.negative x)

/-- What a bit pattern stands for (R18). A finite number is ± significand · 2 ^ exponent; zero has significand 0. -/
inductive FpValue where
  | nan (neg quiet : Bool) (frac : Nat)
  | inf (neg : Bool)
  | fin (neg : Bool) (sig : Nat) (exp : Int)
deriving DecidableEq, Repr

/-- The meaning of a bit pattern (R18). -/
def FpFormat.decode (m : FpFormat) (x : Nat) : FpValue :=
  let neg := m.negative x
  let e := x / 2 ^ m.fracBits % 2 ^ m.expBits
  let f := x % 2 ^ m.fracBits
  if e = m.maxExp then
    if f = 0 then .inf neg else .nan neg (decide (2 ^ (m.fracBits - 1) ≤ f)) f
  else if e = 0 then .fin neg f m.minQuantum
  else .fin neg (2 ^ m.fracBits + f) ((e : Int) - m.bias - m.fracBits)

/-- The sign of a value. -/
def FpValue.neg : FpValue → Bool
  | .nan n _ _ => n
  | .inf n => n
  | .fin n _ _ => n

/-- The value with its sign changed when `flip` holds; a NaN is never negated (R343). -/
def FpValue.negate (flip : Bool) : FpValue → FpValue
  | .nan n q f => .nan n q f
  | .inf n => .inf (n ^^ flip)
  | .fin n s e => .fin (n ^^ flip) s e

/-- The value is a NaN. -/
def FpValue.isNan : FpValue → Bool
  | .nan _ _ _ => true
  | _ => false

/-- The value is a signalling NaN. -/
def FpValue.isSignalling : FpValue → Bool
  | .nan _ q _ => !q
  | _ => false

/-! ## Results -/

/-- A result and the conditions detected with it: `tiny` is the underflow of the ufm = 1 definition, any nonzero
exact result below the smallest normal number (R342). -/
structure FpResult where
  bits : Nat
  nv : Bool := false
  dz : Bool := false
  of : Bool := false
  tiny : Bool := false
  nx : Bool := false
deriving DecidableEq, Repr

/-- A result without any exception. -/
def FpResult.exact (bits : Nat) : FpResult := { bits := bits }

/-- The invalid operation with the default NaN. -/
def FpResult.invalid (m : FpFormat) : FpResult := { bits := m.defaultNan, nv := true }

/-- A NaN operand of format `src` as the result in format `dst` (R343): its sign and its leading fraction bits, made
quiet. -/
def nanResult (dst src : FpFormat) (neg : Bool) (frac : Nat) (signalling : Bool) : FpResult :=
  let quiet := if signalling then frac + 2 ^ (src.fracBits - 1) else frac
  let f := quiet * 2 ^ (dst.fracBits - src.fracBits) / 2 ^ (src.fracBits - dst.fracBits)
  { bits := dst.inf neg + f, nv := signalling }

/-- The NaN result of an operand, when it is a NaN. -/
def FpValue.nanOr (dst src : FpFormat) (x : FpValue) (other : FpResult) : FpResult :=
  match x with
  | .nan n q f => nanResult dst src n f (!q)
  | _ => other

/-- The NaN rule of a two-operand operation (R343): a signalling NaN before a quiet one, rs2 before rs1. -/
def nanRule (dst src : FpFormat) (a b : FpValue) (other : FpResult) : FpResult :=
  if b.isSignalling then b.nanOr dst src other
  else if a.isSignalling then a.nanOr dst src other
  else b.nanOr dst src (a.nanOr dst src other)

/-! ## Rounding -/

/-- Whether a magnitude is rounded up in direction `rd` (R340): `low` are the `shift` discarded bits, `sticky` says
that more nonzero bits follow. -/
def roundsUp (rd : BitVec 2) (neg odd : Bool) (low shift : Nat) (sticky : Bool) : Bool :=
  let inexact := decide (low ≠ 0) || sticky
  match rd.toNat with
  | 0 =>
    decide (2 ^ shift < 2 * low) || (decide (2 * low = 2 ^ shift ∧ 0 < shift) && (sticky || odd))
  | 1 => false
  | 2 => inexact && !neg
  | _ => inexact && neg

/-- The result of an overflow by rounding direction (R340). -/
def overflowBits (m : FpFormat) (rd : BitVec 2) (neg : Bool) : Nat :=
  let toInf := rd.toNat = 0 ∨ (rd.toNat = 2 ∧ neg = false) ∨ (rd.toNat = 3 ∧ neg = true)
  if toInf then m.inf neg else m.inf neg - 1

/-- The magnitude `sig` · 2 ^ `exp`, or a value strictly between it and (`sig` + 1) · 2 ^ `exp` when `sticky` holds,
rounded to a format (R340, R342). `sig` is not zero, and with `sticky` it has at least two bits more than the
format's precision. -/
def roundTo (m : FpFormat) (rd : BitVec 2) (neg : Bool) (sig : Nat) (exp : Int) (sticky : Bool) : FpResult :=
  let top := exp + (Nat.log2 sig : Int)
  let quantum := max (top - m.fracBits) m.minQuantum
  let shift := (quantum - exp).toNat
  let wide := sig * 2 ^ (exp - quantum).toNat
  let low := wide % 2 ^ shift
  let kept := wide / 2 ^ shift
  let inexact := decide (low ≠ 0) || sticky
  let rounded := if roundsUp rd neg (kept % 2 == 1) low shift sticky then kept + 1 else kept
  let bits := (quantum - m.minQuantum).toNat * 2 ^ m.fracBits + rounded
  if m.inf false ≤ bits then
    { bits := overflowBits m rd neg, of := true, nx := true }
  else
    { bits := m.signBit neg + bits
      tiny := decide (top < m.minQuantum + m.fracBits)
      nx := inexact }

/-- A signed zero. -/
def zeroResult (m : FpFormat) (neg : Bool) : FpResult := .exact (m.signBit neg)

/-! ## Arithmetic on values that are no NaN -/

/-- A finite number as an integer multiple of 2 ^ `e`, for `e` at most its exponent. -/
def scaled (neg : Bool) (sig : Nat) (exp e : Int) : Int :=
  let v : Int := sig * 2 ^ (exp - e).toNat
  if neg then -v else v

/-- round((x + y) · 2 ^ `scale`) (R344, R345). -/
def sumResult (m : FpFormat) (rd : BitVec 2) (scale : Int) (x y : FpValue) : FpResult :=
  match x, y with
  | .inf a, .inf b => if a = b then .exact (m.inf a) else .invalid m
  | .inf a, _ => .exact (m.inf a)
  | _, .inf b => .exact (m.inf b)
  | .fin n1 s1 e1, .fin n2 s2 e2 =>
    let e := min e1 e2
    let v := scaled n1 s1 e1 e + scaled n2 s2 e2 e
    if v = 0 then zeroResult m (if n1 = n2 then n1 else decide (rd = 3))
    else roundTo m rd (decide (v < 0)) v.natAbs (e + scale) false
  | _, _ => .invalid m

/-- round(± x · y) (R344, R345). -/
def productResult (m : FpFormat) (rd : BitVec 2) (flip : Bool) (x y : FpValue) : FpResult :=
  let neg := (x.neg ^^ y.neg) ^^ flip
  match x, y with
  | .inf _, .inf _ => .exact (m.inf neg)
  | .inf _, .fin _ s _ => if s = 0 then .invalid m else .exact (m.inf neg)
  | .fin _ s _, .inf _ => if s = 0 then .invalid m else .exact (m.inf neg)
  | .fin _ s1 e1, .fin _ s2 e2 =>
    if s1 * s2 = 0 then zeroResult m neg else roundTo m rd neg (s1 * s2) (e1 + e2) false
  | _, _ => .invalid m

/-- round(x / y) (R344, R345). -/
def quotientResult (m : FpFormat) (rd : BitVec 2) (x y : FpValue) : FpResult :=
  let neg := x.neg ^^ y.neg
  match x, y with
  | .inf _, .inf _ => .invalid m
  | .inf _, _ => .exact (m.inf neg)
  | _, .inf _ => zeroResult m neg
  | .fin _ s1 e1, .fin _ s2 e2 =>
    if s2 = 0 then
      if s1 = 0 then .invalid m else { bits := m.inf neg, dz := true }
    else if s1 = 0 then zeroResult m neg
    else
      let k := m.fracBits + 4 + Nat.log2 s2 + 1
      roundTo m rd neg (s1 * 2 ^ k / s2) (e1 - e2 - k) (decide (s1 * 2 ^ k % s2 ≠ 0))
  | _, _ => .invalid m

/-- The integer square root of a number below 4 ^ `fuel`. -/
def sqrtFloor (n : Nat) : Nat → Nat
  | 0 => 0
  | fuel + 1 =>
    let r := 2 * sqrtFloor (n / 4) fuel
    if (r + 1) * (r + 1) ≤ n then r + 1 else r

/-- round(√x) (R344, R345). -/
def sqrtResult (m : FpFormat) (rd : BitVec 2) (x : FpValue) : FpResult :=
  match x with
  | .nan _ _ _ => .invalid m
  | .inf neg => if neg then .invalid m else .exact (m.inf false)
  | .fin neg s e =>
    if s = 0 then zeroResult m neg
    else if neg then .invalid m
    else
      let odd := e % 2
      let n := s * 2 ^ (2 * (m.fracBits + 4) + odd.toNat)
      let r := sqrtFloor n (Nat.log2 n / 2 + 1)
      roundTo m rd false r ((e - odd) / 2 - (m.fracBits + 4)) (decide (r * r ≠ n))

/-- The exact product, or the value of an infinite one; `none` for 0 · ∞ (R346). -/
def exactProduct (x y : FpValue) : Option FpValue :=
  let neg := x.neg ^^ y.neg
  match x, y with
  | .inf _, .inf _ => some (.inf neg)
  | .inf _, .fin _ s _ => if s = 0 then none else some (.inf neg)
  | .fin _ s _, .inf _ => if s = 0 then none else some (.inf neg)
  | .fin _ s1 e1, .fin _ s2 e2 => some (.fin neg (s1 * s2) (e1 + e2))
  | _, _ => none

/-- Fused multiply-add (R313, R346): ± (a · b) ± c, rounded once. -/
def fusedResult (m : FpFormat) (rd : BitVec 2) (flipProduct flipAddend : Bool) (a b c : FpValue) : FpResult :=
  if c.isSignalling then c.nanOr m m (.invalid m)
  else if b.isSignalling then b.nanOr m m (.invalid m)
  else if a.isSignalling then a.nanOr m m (.invalid m)
  else if a.isNan || b.isNan then c.nanOr m m (b.nanOr m m (a.nanOr m m (.invalid m)))
  else
    match exactProduct a b with
    | none => { c.nanOr m m (.invalid m) with nv := true }
    | some p => c.nanOr m m (sumResult m rd 0 (p.negate flipProduct) (c.negate flipAddend))

/-! ## Comparison and conversion -/

/-- x < y for values that are no NaN; zeros of either sign are equal. -/
def FpValue.less (x y : FpValue) : Bool :=
  match x, y with
  | .inf a, .inf b => a && !b
  | .inf a, _ => a
  | _, .inf b => !b
  | .fin n1 s1 e1, .fin n2 s2 e2 =>
    let e := min e1 e2
    decide (scaled n1 s1 e1 e < scaled n2 s2 e2 e)
  | _, _ => false

/-- The fcc value of a comparison (R306): 0 equal, 1 less, 2 greater, 3 unordered. -/
def compareFcc (x y : FpValue) : BitVec 2 :=
  if x.isNan || y.isNan then 3 else if x.less y then 1 else if y.less x then 2 else 0

/-- A zero of negative sign. -/
def FpValue.isNegZero : FpValue → Bool
  | .fin n s _ => n && decide (s = 0)
  | _ => false

/-- A zero of positive sign. -/
def FpValue.isPosZero : FpValue → Bool
  | .fin n s _ => !n && decide (s = 0)
  | _ => false

/-- The fcc value of a lexicographic comparison (R312): -0 is less than +0. -/
def lexicographicFcc (x y : FpValue) : BitVec 2 :=
  if y.isNan then 3 else if x.isNan then 2
  else if x.less y || (x.isNegZero && y.isPosZero) then 1 else 0

/-- Conversion of a number that is no NaN to another format (R347). -/
def convertResult (m : FpFormat) (rd : BitVec 2) (x : FpValue) : FpResult :=
  match x with
  | .nan _ _ _ => .invalid m
  | .inf n => .exact (m.inf n)
  | .fin n s e => if s = 0 then zeroResult m n else roundTo m rd n s e false

/-- Conversion of an integer (R347). -/
def fromInt (m : FpFormat) (rd : BitVec 2) (v : Int) : FpResult :=
  if v = 0 then zeroResult m false else roundTo m rd (decide (v < 0)) v.natAbs 0 false

/-- The value truncated toward zero. -/
def truncated (n : Bool) (s : Nat) (e : Int) : Int :=
  let v : Int := (s * 2 ^ e.toNat / 2 ^ (-e).toNat : Nat)
  if n then -v else v

/-- The value has a fraction. -/
def hasFraction (s : Nat) (e : Int) : Bool := decide (s % 2 ^ (-e).toNat ≠ 0)

/-- The integer an invalid conversion to `n` bits gives (R348). -/
def integerOverflow (n : Nat) (neg : Bool) : FpResult :=
  { bits := if neg then 2 ^ (n - 1) else 2 ^ (n - 1) - 1, nv := true }

/-- Conversion to a signed integer of `n` bits, truncating toward zero (R347, R348). -/
def toIntResult (n : Nat) (x : FpValue) : FpResult :=
  match x with
  | .nan neg _ _ => integerOverflow n neg
  | .inf neg => integerOverflow n neg
  | .fin neg s e =>
    let v := truncated neg s e
    if v < -(2 ^ (n - 1)) ∨ 2 ^ (n - 1) ≤ v then integerOverflow n neg
    else { bits := (BitVec.ofInt n v).toNat, nx := hasFraction s e }

end Sys2Proof.Machine
end

