-- ==== Sys2Proof/Machine/FpOps.lean ====
section
/-!
DEFINITION. The floating-point operate instructions of spec file 46, and the lexicographic compares, which are
no FPops (R312). Exceptions are detected, trapped and accrued by R341.
-/

namespace Sys2Proof.Machine

open Sys2Proof

/-! ## Shared forms -/

/-- The precision of an operand. -/
inductive Prec where
  | s
  | d
  | q
deriving DecidableEq, Repr

/-- The format of a precision. -/
def Prec.format : Prec → FpFormat
  | .s => .single
  | .d => .double
  | .q => .quad

/-- The bits of an F register, numbered as its instruction numbers it. -/
def Prec.read (p : Prec) (s : State) (r : BitVec 5) : Nat :=
  match p with
  | .s => (readFS s r).toNat
  | .d => (readFD s r).toNat
  | .q => (readFQ s r).toNat

/-- The value of an F register. -/
def Prec.value (p : Prec) (s : State) (r : BitVec 5) : FpValue := p.format.decode (p.read s r)

/-- Write an F register. -/
def Prec.write (p : Prec) (s : State) (r : BitVec 5) (bits : Nat) : State :=
  match p with
  | .s => writeFS s r (BitVec.ofNat 32 bits)
  | .d => writeFD s r (BitVec.ofNat 64 bits)
  | .q => writeFQ s r (BitVec.ofNat 128 bits)

/-- The checks of an FPop on its F registers, in order (R341 steps 1 to 3): a quad operation that the implementation
lacks, the FPU disabled, a quad register number that is no multiple of 4. -/
def fpChecks (s : State) (regs : List (Prec × BitVec 5)) : Eff Unit := do
  require (regs.all fun r => decide (r.1 ≠ .q) || s.par.hasQuad) .illegalInstruction
  needFpu s
  require (regs.all fun r => decide (r.1 ≠ .q) || !bit r.2 0) (.fpOther 6)

/-- The rounding direction in force (R340). -/
def roundingMode (s : State) : BitVec 2 := if s.gsr.im then s.gsr.irnd else s.fsr.rd

/-- The candidate cexc of a result (R341 step 5, R342). -/
def FpResult.cexc (r : FpResult) (tem : IeeeFlags) : IeeeFlags where
  nv := r.nv
  of := r.of
  uf := r.tiny && (tem.uf || r.nx)
  dz := r.dz
  nx := r.nx

/-- The one exception that traps, when some detected exception is enabled (R341 step 5). -/
def trappedFlag (c tem : IeeeFlags) : Option IeeeFlags :=
  if c.nv && tem.nv then some { IeeeFlags.none with nv := true }
  else if c.dz && tem.dz then some { IeeeFlags.none with dz := true }
  else if c.of && tem.of then some { IeeeFlags.none with of := true }
  else if c.uf && tem.uf then some { IeeeFlags.none with uf := true }
  else if c.nx && tem.nx then some { IeeeFlags.none with nx := true }
  else none

/-- The end of an FPop whose result is `r` and whose destination is written in `t` (R341 steps 5 and 6). -/
def completeFp (s : State) (r : FpResult) (t : State) : Eff State :=
  let c := r.cexc s.fsr.tem
  match trappedFlag c s.fsr.tem with
  | some e => .error (.trap (.fpIeee e))
  | none => .ok (advance { t with fsr := { t.fsr with cexc := c, aexc := s.fsr.aexc.or c, ftt := 0 } })

/-- An operand of one of these registers is subnormal. -/
def anySubnormal (s : State) (regs : List (Prec × BitVec 5)) : Bool :=
  regs.any fun r => r.1.format.subnormal (r.1.read s r.2)

/-- The width of a precision in bits. -/
def Prec.width : Prec → Nat
  | .s => 32
  | .d => 64
  | .q => 128

/-- unfinished_FPop (R341 step 4, R351): raised where UNFINISHED_FPOP_CASES holds the operation, with its precisions, on
these operands or with this result. An instruction whose page does not name it has no operation. -/
def needFinished (s : State) (op : Option Config.FpOperation) (src dst : Prec) (operands : List Nat)
    (subnormalOperand subnormalResult : Bool) : Eff Unit :=
  require (!(s.par.unfinishedCases.any fun c =>
    decide (some c.operation = op ∧ c.source = src.width ∧ c.destination = dst.width) &&
      match c.condition with
      | .subnormalOperand => subnormalOperand
      | .subnormalResult => subnormalResult
      | .chosenOperands => Config.unfinishedChoice c.operation c.source c.destination operands)) (.fpOther 2)

/-- Nonstandard mode is in force (R24, R349): GSR.im = 1 ignores FSR.ns. -/
def nonstandard (s : State) : Bool := s.par.hasNsMode && s.fsr.ns && !s.gsr.im

/-- In nonstandard mode the operand is treated as the zero of its sign (R349): a choice that R349 leaves open for a
subnormal one. -/
def nsFlushed (s : State) (p : Prec) (r : BitVec 5) : Bool :=
  nonstandard s && p.format.subnormal (p.read s r) && Config.nsZeroSource p.width (p.read s r)

/-- The value of a source of a comparison or a conversion, which nonstandard mode may change (R349). -/
def Prec.source (p : Prec) (s : State) (r : BitVec 5) : FpValue :=
  if nsFlushed s p r then p.format.decode (p.format.sameSignZero (p.read s r)) else p.value s r

/-- Treating the source as zero signals inexact (R349). -/
def nsInexact (s : State) (p : Prec) (r : BitVec 5) : Bool :=
  nsFlushed s p r && Config.nsSourceInexact p.width (p.read s r)

/-- The zero of the result's sign in place of the result, with underflow and inexact (R349). -/
def FpResult.zeroed (r : FpResult) (p : Prec) : FpResult :=
  { r with bits := p.format.sameSignZero r.bits, tiny := true, nx := true }

/-- The result `r` of a conversion from the bits `operand` of format `src` to `dst`, whose intermediate value is the
exact one before rounding, subnormal where `r` is tiny: nonstandard mode may use it as it is or replace it by the zero
of its sign, with underflow and inexact (R349 item (c)). Which, the spec leaves open: a free choice, DESIGN CHOICE for
what it depends on and for taking that value as the intermediate one (log entry 39). -/
def nsIntermediate (s : State) (src dst : Prec) (operand : Nat) (r : FpResult) : FpResult :=
  if nonstandard s && r.tiny && Config.nsZeroIntermediate src.width dst.width operand then r.zeroed dst else r

/-- The result of a conversion to `p`: nonstandard mode may replace a subnormal one by the zero of its sign, with
underflow and inexact (R349 item (b)): a free choice (log entry 39). -/
def nsResult (s : State) (p : Prec) (r : FpResult) : FpResult :=
  if nonstandard s && p.format.subnormal r.bits && Config.nsZeroResult p.width r.bits then r.zeroed p else r

/-- An FPop with two sources, after the NaN rule. Nonstandard mode has no effect on it (R349). For FsMULd, FdMULq and
FNsMULd R349 does not say so: DESIGN CHOICE, unsafe, they count among the FMUL and FNMUL of its list (log entry 39).
-/
def fpBinary (op : Option Config.FpOperation) (src dst : Prec) (f : BitVec 2 → FpValue → FpValue → FpResult)
    (rd rs1 rs2 : BitVec 5) (s : State) : Out :=
  finish s do
    fpChecks s [(src, rs1), (src, rs2), (dst, rd)]
    let a := src.value s rs1
    let b := src.value s rs2
    let r := nanRule dst.format src.format a b (f (roundingMode s) a b)
    needFinished s op src dst [src.read s rs1, src.read s rs2] (anySubnormal s [(src, rs1), (src, rs2)]) r.tiny
    completeFp s r (dst.write s rd r.bits)

/-- A sum-type FPop on effective operands ± a and ± b (R344). -/
def fpSum (op : Option Config.FpOperation) (p : Prec) (flip1 flip2 : Bool) (scale : Int) (rd rs1 rs2 : BitVec 5)
    (s : State) : Out :=
  fpBinary op p p (fun dir a b => sumResult p.format dir scale (a.negate flip1) (b.negate flip2)) rd rs1 rs2 s

/-- A product-type FPop. -/
def fpProduct (op : Option Config.FpOperation) (src dst : Prec) (flip : Bool) (rd rs1 rs2 : BitVec 5) (s : State) :
    Out :=
  fpBinary op src dst (fun dir a b => productResult dst.format dir flip a b) rd rs1 rs2 s

/-- A division. -/
def fpQuotient (p : Prec) (rd rs1 rs2 : BitVec 5) (s : State) : Out :=
  fpBinary (some .divide) p p (fun dir a b => quotientResult p.format dir a b) rd rs1 rs2 s

/-- A square root; unfinished_FPop is named for a positive subnormal operand (R329). -/
def fpSqrt (p : Prec) (rd rs2 : BitVec 5) (s : State) : Out :=
  finish s do
    fpChecks s [(p, rs2), (p, rd)]
    let x := p.value s rs2
    let r := x.nanOr p.format p.format (sqrtResult p.format (roundingMode s) x)
    needFinished s (some .squareRoot) p p [p.read s rs2] (anySubnormal s [(p, rs2)] && !x.neg) r.tiny
    completeFp s r (p.write s rd r.bits)

/-- A conversion from a floating-point number through `f`, with what nonstandard mode does to its source and, where
`toFormat` holds, to its intermediate value and its result (R349). -/
def fpConversion (op : Option Config.FpOperation) (src dst : Prec) (toFormat : Bool)
    (f : BitVec 2 → FpValue → FpResult) (rd rs2 : BitVec 5) (s : State) : Out :=
  finish s do
    fpChecks s [(src, rs2), (dst, rd)]
    let x := f (roundingMode s) (src.source s rs2)
    let y := { x with nx := x.nx || nsInexact s src rs2 }
    let r := if toFormat then nsResult s dst (nsIntermediate s src dst (src.read s rs2) y) else y
    needFinished s op src dst [src.read s rs2] (anySubnormal s [(src, rs2)]) r.tiny
    completeFp s r (dst.write s rd r.bits)

/-- A conversion between formats (R347). -/
def fpConvert (op : Option Config.FpOperation) (src dst : Prec) (rd rs2 : BitVec 5) (s : State) : Out :=
  fpConversion op src dst true (fun dir x => x.nanOr dst.format src.format (convertResult dst.format dir x)) rd rs2 s

/-- A conversion to a 32-bit integer in F_S[rd] (R331) or a 64-bit one in F_D[rd] (R330): `dst` is `.s` or `.d`. -/
def fpToInt (op : Option Config.FpOperation) (src dst : Prec) (n : Nat) (rd rs2 : BitVec 5) (s : State) : Out :=
  fpConversion op src dst false (fun _ x => toIntResult n x) rd rs2 s

/-- A conversion of the 32-bit integer in F_S[rs2] (R311). -/
def fpFromInt32 (dst : Prec) (rd rs2 : BitVec 5) (s : State) : Out :=
  finish s do
    fpChecks s [(.s, rs2), (dst, rd)]
    let r := fromInt dst.format (roundingMode s) (readFS s rs2).toInt
    completeFp s r (dst.write s rd r.bits)

/-- A conversion of the 64-bit integer in F_D[rs2] (R336). -/
def fpFromInt64 (dst : Prec) (rd rs2 : BitVec 5) (s : State) : Out :=
  finish s do
    fpChecks s [(.d, rs2), (dst, rd)]
    let r := fromInt dst.format (roundingMode s) (readFD s rs2).toInt
    completeFp s r (dst.write s rd r.bits)

/-- A fused multiply-add (R313). -/
def fpFused (op : Config.FpOperation) (p : Prec) (flipProduct flipAddend : Bool) (rd rs1 rs2 rs3 : BitVec 5)
    (s : State) : Out :=
  finish s do
    fpChecks s [(p, rs1), (p, rs2), (p, rs3), (p, rd)]
    let r := fusedResult p.format (roundingMode s) flipProduct flipAddend (p.value s rs1) (p.value s rs2)
      (p.value s rs3)
    needFinished s (some op) p p [p.read s rs1, p.read s rs2, p.read s rs3]
      (anySubnormal s [(p, rs1), (p, rs2), (p, rs3)]) r.tiny
    completeFp s r (p.write s rd r.bits)

/-- A move of bits through `f`, which raises no IEEE exception (R300, R318, R325), when `cond` holds (R319,
R320). -/
def fpMove (p : Prec) (f : Nat → Nat) (cond : Bool) (rd rs2 : BitVec 5) (s : State) : Out :=
  finish s do
    fpChecks s [(p, rs2), (p, rd)]
    completeFp s (.exact 0) (if cond then p.write s rd (f (p.read s rs2)) else s)

/-- The place of the sign bit. -/
def Prec.sign (p : Prec) : Nat := 2 ^ (p.format.expBits + p.format.fracBits)

/-- The bits with the sign bit cleared (R300). -/
def absBits (p : Prec) (x : Nat) : Nat := x % p.sign

/-- The bits with the sign bit complemented (R325). -/
def negBits (p : Prec) (x : Nat) : Nat := if p.sign ≤ x then x - p.sign else x + p.sign

/-- A comparison (R306, R307): invalid on a signalling NaN, and with `quietToo` on any NaN. -/
def fpCompare (p : Prec) (quietToo : Bool) (cc : BitVec 2) (rs1 rs2 : BitVec 5) (s : State) : Out :=
  finish s do
    fpChecks s [(p, rs1), (p, rs2)]
    let a := p.source s rs1
    let b := p.source s rs2
    let nv := a.isSignalling || b.isSignalling || (quietToo && (a.isNan || b.isNan))
    let r : FpResult := { bits := 0, nv := nv, nx := nsInexact s p rs1 || nsInexact s p rs2 }
    completeFp s r { s with fsr := s.fsr.withFcc cc (compareFcc a b) }

/-- A lexicographic comparison: no FPop (R312). -/
def fpLexicographic (p : Prec) (cc : BitVec 2) (rs1 rs2 : BitVec 5) (s : State) : Out :=
  finish s do
    needFpu s
    .ok (advance { s with fsr := s.fsr.withFcc cc (lexicographicFcc (p.value s rs1) (p.value s rs2)) })

/-! ## Moves, absolute value, negation -/

/-- FMOVs (R318). -/
def execFMOVs (rd rs2 : FReg) (s : State) : Out :=
  fpMove .s id true rd rs2 s

/-- FMOVd (R318). -/
def execFMOVd (rd rs2 : DReg) (s : State) : Out :=
  fpMove .d id true rd rs2 s

/-- FMOVq (R318). -/
def execFMOVq (rd rs2 : DReg) (s : State) : Out :=
  fpMove .q id true rd rs2 s

/-- FABSs (R300). -/
def execFABSs (rd rs2 : FReg) (s : State) : Out :=
  fpMove .s (absBits .s) true rd rs2 s

/-- FABSd (R301). -/
def execFABSd (rd rs2 : DReg) (s : State) : Out :=
  fpMove .d (absBits .d) true rd rs2 s

/-- FABSq (R302). -/
def execFABSq (rd rs2 : DReg) (s : State) : Out :=
  fpMove .q (absBits .q) true rd rs2 s

/-- FNEGs (R325). -/
def execFNEGs (rd rs2 : FReg) (s : State) : Out :=
  fpMove .s (negBits .s) true rd rs2 s

/-- FNEGd (R325). -/
def execFNEGd (rd rs2 : DReg) (s : State) : Out :=
  fpMove .d (negBits .d) true rd rs2 s

/-- FNEGq (R325). -/
def execFNEGq (rd rs2 : DReg) (s : State) : Out :=
  fpMove .q (negBits .q) true rd rs2 s

/-! ## Conditional moves -/

/-- FMOVSfcc0 (R319). -/
def execFMOVSfcc0 (rd : FReg) (cond : FCond) (rs2 : FReg) (s : State) : Out :=
  fpMove .s id (fcondTest cond (readFcc s 0)) rd rs2 s

/-- FMOVDfcc0 (R319). -/
def execFMOVDfcc0 (rd : DReg) (cond : FCond) (rs2 : DReg) (s : State) : Out :=
  fpMove .d id (fcondTest cond (readFcc s 0)) rd rs2 s

/-- FMOVQfcc0 (R319). -/
def execFMOVQfcc0 (rd : DReg) (cond : FCond) (rs2 : DReg) (s : State) : Out :=
  fpMove .q id (fcondTest cond (readFcc s 0)) rd rs2 s

/-- FMOVSfcc1 (R319). -/
def execFMOVSfcc1 (rd : FReg) (cond : FCond) (rs2 : FReg) (s : State) : Out :=
  fpMove .s id (fcondTest cond (readFcc s 1)) rd rs2 s

/-- FMOVDfcc1 (R319). -/
def execFMOVDfcc1 (rd : DReg) (cond : FCond) (rs2 : DReg) (s : State) : Out :=
  fpMove .d id (fcondTest cond (readFcc s 1)) rd rs2 s

/-- FMOVQfcc1 (R319). -/
def execFMOVQfcc1 (rd : DReg) (cond : FCond) (rs2 : DReg) (s : State) : Out :=
  fpMove .q id (fcondTest cond (readFcc s 1)) rd rs2 s

/-- FMOVSfcc2 (R319). -/
def execFMOVSfcc2 (rd : FReg) (cond : FCond) (rs2 : FReg) (s : State) : Out :=
  fpMove .s id (fcondTest cond (readFcc s 2)) rd rs2 s

/-- FMOVDfcc2 (R319). -/
def execFMOVDfcc2 (rd : DReg) (cond : FCond) (rs2 : DReg) (s : State) : Out :=
  fpMove .d id (fcondTest cond (readFcc s 2)) rd rs2 s

/-- FMOVQfcc2 (R319). -/
def execFMOVQfcc2 (rd : DReg) (cond : FCond) (rs2 : DReg) (s : State) : Out :=
  fpMove .q id (fcondTest cond (readFcc s 2)) rd rs2 s

/-- FMOVSfcc3 (R319). -/
def execFMOVSfcc3 (rd : FReg) (cond : FCond) (rs2 : FReg) (s : State) : Out :=
  fpMove .s id (fcondTest cond (readFcc s 3)) rd rs2 s

/-- FMOVDfcc3 (R319). -/
def execFMOVDfcc3 (rd : DReg) (cond : FCond) (rs2 : DReg) (s : State) : Out :=
  fpMove .d id (fcondTest cond (readFcc s 3)) rd rs2 s

/-- FMOVQfcc3 (R319). -/
def execFMOVQfcc3 (rd : DReg) (cond : FCond) (rs2 : DReg) (s : State) : Out :=
  fpMove .q id (fcondTest cond (readFcc s 3)) rd rs2 s

/-- FMOVSicc (R319). -/
def execFMOVSicc (rd : FReg) (cond : ICond) (rs2 : FReg) (s : State) : Out :=
  fpMove .s id (icondTest cond s.ccr.icc) rd rs2 s

/-- FMOVDicc (R319). -/
def execFMOVDicc (rd : DReg) (cond : ICond) (rs2 : DReg) (s : State) : Out :=
  fpMove .d id (icondTest cond s.ccr.icc) rd rs2 s

/-- FMOVQicc (R319). -/
def execFMOVQicc (rd : DReg) (cond : ICond) (rs2 : DReg) (s : State) : Out :=
  fpMove .q id (icondTest cond s.ccr.icc) rd rs2 s

/-- FMOVSxcc (R319). -/
def execFMOVSxcc (rd : FReg) (cond : ICond) (rs2 : FReg) (s : State) : Out :=
  fpMove .s id (icondTest cond s.ccr.xcc) rd rs2 s

/-- FMOVDxcc (R319). -/
def execFMOVDxcc (rd : DReg) (cond : ICond) (rs2 : DReg) (s : State) : Out :=
  fpMove .d id (icondTest cond s.ccr.xcc) rd rs2 s

/-- FMOVQxcc (R319). -/
def execFMOVQxcc (rd : DReg) (cond : ICond) (rs2 : DReg) (s : State) : Out :=
  fpMove .q id (icondTest cond s.ccr.xcc) rd rs2 s

/-- FMOVRsZ (R320). -/
def execFMOVRsZ (rd : FReg) (rs1 : Reg) (rs2 : FReg) (s : State) : Out :=
  fpMove .s id (rcondTest .z (readR s rs1)) rd rs2 s

/-- FMOVRdZ (R320). -/
def execFMOVRdZ (rd : DReg) (rs1 : Reg) (rs2 : DReg) (s : State) : Out :=
  fpMove .d id (rcondTest .z (readR s rs1)) rd rs2 s

/-- FMOVRqZ (R320). -/
def execFMOVRqZ (rd : DReg) (rs1 : Reg) (rs2 : DReg) (s : State) : Out :=
  fpMove .q id (rcondTest .z (readR s rs1)) rd rs2 s

/-- FMOVRsLEZ (R320). -/
def execFMOVRsLEZ (rd : FReg) (rs1 : Reg) (rs2 : FReg) (s : State) : Out :=
  fpMove .s id (rcondTest .lez (readR s rs1)) rd rs2 s

/-- FMOVRdLEZ (R320). -/
def execFMOVRdLEZ (rd : DReg) (rs1 : Reg) (rs2 : DReg) (s : State) : Out :=
  fpMove .d id (rcondTest .lez (readR s rs1)) rd rs2 s

/-- FMOVRqLEZ (R320). -/
def execFMOVRqLEZ (rd : DReg) (rs1 : Reg) (rs2 : DReg) (s : State) : Out :=
  fpMove .q id (rcondTest .lez (readR s rs1)) rd rs2 s

/-- FMOVRsLZ (R320). -/
def execFMOVRsLZ (rd : FReg) (rs1 : Reg) (rs2 : FReg) (s : State) : Out :=
  fpMove .s id (rcondTest .lz (readR s rs1)) rd rs2 s

/-- FMOVRdLZ (R320). -/
def execFMOVRdLZ (rd : DReg) (rs1 : Reg) (rs2 : DReg) (s : State) : Out :=
  fpMove .d id (rcondTest .lz (readR s rs1)) rd rs2 s

/-- FMOVRqLZ (R320). -/
def execFMOVRqLZ (rd : DReg) (rs1 : Reg) (rs2 : DReg) (s : State) : Out :=
  fpMove .q id (rcondTest .lz (readR s rs1)) rd rs2 s

/-- FMOVRsNZ (R320). -/
def execFMOVRsNZ (rd : FReg) (rs1 : Reg) (rs2 : FReg) (s : State) : Out :=
  fpMove .s id (rcondTest .nz (readR s rs1)) rd rs2 s

/-- FMOVRdNZ (R320). -/
def execFMOVRdNZ (rd : DReg) (rs1 : Reg) (rs2 : DReg) (s : State) : Out :=
  fpMove .d id (rcondTest .nz (readR s rs1)) rd rs2 s

/-- FMOVRqNZ (R320). -/
def execFMOVRqNZ (rd : DReg) (rs1 : Reg) (rs2 : DReg) (s : State) : Out :=
  fpMove .q id (rcondTest .nz (readR s rs1)) rd rs2 s

/-- FMOVRsGZ (R320). -/
def execFMOVRsGZ (rd : FReg) (rs1 : Reg) (rs2 : FReg) (s : State) : Out :=
  fpMove .s id (rcondTest .gz (readR s rs1)) rd rs2 s

/-- FMOVRdGZ (R320). -/
def execFMOVRdGZ (rd : DReg) (rs1 : Reg) (rs2 : DReg) (s : State) : Out :=
  fpMove .d id (rcondTest .gz (readR s rs1)) rd rs2 s

/-- FMOVRqGZ (R320). -/
def execFMOVRqGZ (rd : DReg) (rs1 : Reg) (rs2 : DReg) (s : State) : Out :=
  fpMove .q id (rcondTest .gz (readR s rs1)) rd rs2 s

/-- FMOVRsGEZ (R320). -/
def execFMOVRsGEZ (rd : FReg) (rs1 : Reg) (rs2 : FReg) (s : State) : Out :=
  fpMove .s id (rcondTest .gez (readR s rs1)) rd rs2 s

/-- FMOVRdGEZ (R320). -/
def execFMOVRdGEZ (rd : DReg) (rs1 : Reg) (rs2 : DReg) (s : State) : Out :=
  fpMove .d id (rcondTest .gez (readR s rs1)) rd rs2 s

/-- FMOVRqGEZ (R320). -/
def execFMOVRqGEZ (rd : DReg) (rs1 : Reg) (rs2 : DReg) (s : State) : Out :=
  fpMove .q id (rcondTest .gez (readR s rs1)) rd rs2 s

/-! ## Addition and subtraction -/

/-- FADDs (R303). -/
def execFADDs (rd rs1 rs2 : FReg) (s : State) : Out :=
  fpSum (some .add) .s false false 0 rd rs1 rs2 s

/-- FADDd (R304). -/
def execFADDd (rd rs1 rs2 : DReg) (s : State) : Out :=
  fpSum (some .add) .d false false 0 rd rs1 rs2 s

/-- FADDq (R305): the rule also raises invalid_fp_register for bit 0 of the rd field, which is bit 4 of the register's
number here. -/
def execFADDq (rd rs1 rs2 : DReg) (s : State) : Out :=
  if s.par.hasQuad && fpuEnabled s && bit rd 4 then takeTrap (.fpOther 6) s
  else fpSum (some .add) .q false false 0 rd rs1 rs2 s

/-- FSUBs (R335). -/
def execFSUBs (rd rs1 rs2 : FReg) (s : State) : Out :=
  fpSum (some .subtract) .s false true 0 rd rs1 rs2 s

/-- FSUBd (R335). -/
def execFSUBd (rd rs1 rs2 : DReg) (s : State) : Out :=
  fpSum (some .subtract) .d false true 0 rd rs1 rs2 s

/-- FSUBq (R335). -/
def execFSUBq (rd rs1 rs2 : DReg) (s : State) : Out :=
  fpSum (some .subtract) .q false true 0 rd rs1 rs2 s

/-- FHADDs (R309). -/
def execFHADDs (rd rs1 rs2 : FReg) (s : State) : Out :=
  fpSum none .s false false (-1) rd rs1 rs2 s

/-- FHADDd (R309). -/
def execFHADDd (rd rs1 rs2 : DReg) (s : State) : Out :=
  fpSum none .d false false (-1) rd rs1 rs2 s

/-- FHSUBs (R310). -/
def execFHSUBs (rd rs1 rs2 : FReg) (s : State) : Out :=
  fpSum none .s false true (-1) rd rs1 rs2 s

/-- FHSUBd (R310). -/
def execFHSUBd (rd rs1 rs2 : DReg) (s : State) : Out :=
  fpSum none .d false true (-1) rd rs1 rs2 s

/-- FNADDs (R324). -/
def execFNADDs (rd rs1 rs2 : FReg) (s : State) : Out :=
  fpSum (some .negativeAdd) .s true true 0 rd rs1 rs2 s

/-- FNADDd (R324). -/
def execFNADDd (rd rs1 rs2 : DReg) (s : State) : Out :=
  fpSum (some .negativeAdd) .d true true 0 rd rs1 rs2 s

/-- FNHADDs (R326). -/
def execFNHADDs (rd rs1 rs2 : FReg) (s : State) : Out :=
  fpSum none .s true true (-1) rd rs1 rs2 s

/-- FNHADDd (R326). -/
def execFNHADDd (rd rs1 rs2 : DReg) (s : State) : Out :=
  fpSum none .d true true (-1) rd rs1 rs2 s

/-! ## Multiplication, division, square root -/

/-- FMULs (R321). -/
def execFMULs (rd rs1 rs2 : FReg) (s : State) : Out :=
  fpProduct (some .multiply) .s .s false rd rs1 rs2 s

/-- FMULd (R321). -/
def execFMULd (rd rs1 rs2 : DReg) (s : State) : Out :=
  fpProduct (some .multiply) .d .d false rd rs1 rs2 s

/-- FMULq (R321). -/
def execFMULq (rd rs1 rs2 : DReg) (s : State) : Out :=
  fpProduct (some .multiply) .q .q false rd rs1 rs2 s

/-- FNMULs (R327). -/
def execFNMULs (rd rs1 rs2 : FReg) (s : State) : Out :=
  fpProduct (some .negativeMultiply) .s .s true rd rs1 rs2 s

/-- FNMULd (R327). -/
def execFNMULd (rd rs1 rs2 : DReg) (s : State) : Out :=
  fpProduct (some .negativeMultiply) .d .d true rd rs1 rs2 s

/-- FsMULd (R322). -/
def execFsMULd (rd : DReg) (rs1 rs2 : FReg) (s : State) : Out :=
  fpProduct (some .multiply) .s .d false rd rs1 rs2 s

/-- FNsMULd (R328), with the exceptions of R327. -/
def execFNsMULd (rd : DReg) (rs1 rs2 : FReg) (s : State) : Out :=
  fpProduct (some .negativeMultiply) .s .d true rd rs1 rs2 s

/-- FdMULq (R323). -/
def execFdMULq (rd rs1 rs2 : DReg) (s : State) : Out :=
  fpProduct none .d .q false rd rs1 rs2 s

/-- FDIVs (R308). -/
def execFDIVs (rd rs1 rs2 : FReg) (s : State) : Out :=
  fpQuotient .s rd rs1 rs2 s

/-- FDIVd (R308). -/
def execFDIVd (rd rs1 rs2 : DReg) (s : State) : Out :=
  fpQuotient .d rd rs1 rs2 s

/-- FDIVq (R308). -/
def execFDIVq (rd rs1 rs2 : DReg) (s : State) : Out :=
  fpQuotient .q rd rs1 rs2 s

/-- FSQRTs (R329). -/
def execFSQRTs (rd rs2 : FReg) (s : State) : Out :=
  fpSqrt .s rd rs2 s

/-- FSQRTd (R329). -/
def execFSQRTd (rd rs2 : DReg) (s : State) : Out :=
  fpSqrt .d rd rs2 s

/-- FSQRTq (R329). -/
def execFSQRTq (rd rs2 : DReg) (s : State) : Out :=
  fpSqrt .q rd rs2 s

/-! ## Fused multiply-add -/

/-- FMADDs (R314). -/
def execFMADDs (rd rs1 rs2 rs3 : FReg) (s : State) : Out :=
  fpFused .multiplyAdd .s false false rd rs1 rs2 rs3 s

/-- FMADDd (R314). -/
def execFMADDd (rd rs1 rs2 rs3 : DReg) (s : State) : Out :=
  fpFused .multiplyAdd .d false false rd rs1 rs2 rs3 s

/-- FMSUBs (R315). -/
def execFMSUBs (rd rs1 rs2 rs3 : FReg) (s : State) : Out :=
  fpFused .multiplySubtract .s false true rd rs1 rs2 rs3 s

/-- FMSUBd (R315). -/
def execFMSUBd (rd rs1 rs2 rs3 : DReg) (s : State) : Out :=
  fpFused .multiplySubtract .d false true rd rs1 rs2 rs3 s

/-- FNMSUBs (R316). -/
def execFNMSUBs (rd rs1 rs2 rs3 : FReg) (s : State) : Out :=
  fpFused .negativeMultiplySubtract .s true false rd rs1 rs2 rs3 s

/-- FNMSUBd (R316). -/
def execFNMSUBd (rd rs1 rs2 rs3 : DReg) (s : State) : Out :=
  fpFused .negativeMultiplySubtract .d true false rd rs1 rs2 rs3 s

/-- FNMADDs (R317). -/
def execFNMADDs (rd rs1 rs2 rs3 : FReg) (s : State) : Out :=
  fpFused .negativeMultiplyAdd .s true true rd rs1 rs2 rs3 s

/-- FNMADDd (R317). -/
def execFNMADDd (rd rs1 rs2 rs3 : DReg) (s : State) : Out :=
  fpFused .negativeMultiplyAdd .d true true rd rs1 rs2 rs3 s

/-! ## Conversions -/

/-- FsTOd (R332). -/
def execFsTOd (rd : DReg) (rs2 : FReg) (s : State) : Out :=
  fpConvert (some .convertFormat) .s .d rd rs2 s

/-- FdTOs (R333). -/
def execFdTOs (rd : FReg) (rs2 : DReg) (s : State) : Out :=
  fpConvert (some .convertFormat) .d .s rd rs2 s

/-- FsTOq (R334). -/
def execFsTOq (rd : DReg) (rs2 : FReg) (s : State) : Out :=
  fpConvert none .s .q rd rs2 s

/-- FdTOq (R334). -/
def execFdTOq (rd rs2 : DReg) (s : State) : Out :=
  fpConvert (some .convertFormat) .d .q rd rs2 s

/-- FqTOs (R334). -/
def execFqTOs (rd : FReg) (rs2 : DReg) (s : State) : Out :=
  fpConvert none .q .s rd rs2 s

/-- FqTOd (R334). -/
def execFqTOd (rd rs2 : DReg) (s : State) : Out :=
  fpConvert (some .convertFormat) .q .d rd rs2 s

/-- FsTOx (R330). -/
def execFsTOx (rd : DReg) (rs2 : FReg) (s : State) : Out :=
  fpToInt (some .convertInteger) .s .d 64 rd rs2 s

/-- FdTOx (R330). -/
def execFdTOx (rd rs2 : DReg) (s : State) : Out :=
  fpToInt (some .convertInteger) .d .d 64 rd rs2 s

/-- FqTOx (R330). -/
def execFqTOx (rd rs2 : DReg) (s : State) : Out :=
  fpToInt (some .convertInteger) .q .d 64 rd rs2 s

/-- FsTOi (R331). -/
def execFsTOi (rd rs2 : FReg) (s : State) : Out :=
  fpToInt (some .convertInteger) .s .s 32 rd rs2 s

/-- FdTOi (R331). -/
def execFdTOi (rd : FReg) (rs2 : DReg) (s : State) : Out :=
  fpToInt (some .convertInteger) .d .s 32 rd rs2 s

/-- FqTOi (R331). -/
def execFqTOi (rd : FReg) (rs2 : DReg) (s : State) : Out :=
  fpToInt (some .convertInteger) .q .s 32 rd rs2 s

/-- FiTOs (R311). -/
def execFiTOs (rd rs2 : FReg) (s : State) : Out :=
  fpFromInt32 .s rd rs2 s

/-- FiTOd (R311). -/
def execFiTOd (rd : DReg) (rs2 : FReg) (s : State) : Out :=
  fpFromInt32 .d rd rs2 s

/-- FiTOq (R311). -/
def execFiTOq (rd : DReg) (rs2 : FReg) (s : State) : Out :=
  fpFromInt32 .q rd rs2 s

/-- FxTOs (R336). -/
def execFxTOs (rd : FReg) (rs2 : DReg) (s : State) : Out :=
  fpFromInt64 .s rd rs2 s

/-- FxTOd (R336). -/
def execFxTOd (rd rs2 : DReg) (s : State) : Out :=
  fpFromInt64 .d rd rs2 s

/-- FxTOq (R336). -/
def execFxTOq (rd rs2 : DReg) (s : State) : Out :=
  fpFromInt64 .q rd rs2 s

/-! ## Comparisons -/

/-- FCMPs (R306). -/
def execFCMPs (cc : BitVec 2) (rs1 rs2 : FReg) (s : State) : Out :=
  fpCompare .s false cc rs1 rs2 s

/-- FCMPd (R306). -/
def execFCMPd (cc : BitVec 2) (rs1 rs2 : DReg) (s : State) : Out :=
  fpCompare .d false cc rs1 rs2 s

/-- FCMPq (R306). -/
def execFCMPq (cc : BitVec 2) (rs1 rs2 : DReg) (s : State) : Out :=
  fpCompare .q false cc rs1 rs2 s

/-- FCMPEs (R307). -/
def execFCMPEs (cc : BitVec 2) (rs1 rs2 : FReg) (s : State) : Out :=
  fpCompare .s true cc rs1 rs2 s

/-- FCMPEd (R307). -/
def execFCMPEd (cc : BitVec 2) (rs1 rs2 : DReg) (s : State) : Out :=
  fpCompare .d true cc rs1 rs2 s

/-- FCMPEq (R307). -/
def execFCMPEq (cc : BitVec 2) (rs1 rs2 : DReg) (s : State) : Out :=
  fpCompare .q true cc rs1 rs2 s

/-- FLCMPs (R312). -/
def execFLCMPs (cc : BitVec 2) (rs1 rs2 : FReg) (s : State) : Out :=
  fpLexicographic .s cc rs1 rs2 s

/-- FLCMPd (R312). -/
def execFLCMPd (cc : BitVec 2) (rs1 rs2 : DReg) (s : State) : Out :=
  fpLexicographic .d cc rs1 rs2 s

end Sys2Proof.Machine
end

