-- ==== Sys2Proof/Machine/StateRegs.lean ====
section
/-!
DEFINITION. The state-register instructions of spec file 45. A WRasr or WRPR writes R[rs1] xor its second operand.
-/

namespace Sys2Proof.Machine

open Sys2Proof

/-- The value WRasr and WRPR write (R298, R299). -/
def writeValue (s : State) (rs1 : Reg) (op2 : RegImm 13) : Word64 := readR s rs1 ^^^ operand2 s op2

/-- Access to TICK or STICK is enabled in the current mode, or privileged_action is raised (R33, R40). -/
def needCounter (s : State) (privDisabled nonprivDisabled : Bool) : Eff Unit :=
  require (!(if s.pstate.priv then privDisabled else nonprivDisabled)) .privilegedAction

/-- A privileged read of a register into R[rd]. -/
def readPriv (s : State) (rd : Reg) (v : Word64) : Out :=
  finish s do
    needPriv s
    .ok (advance (writeR s rd v))

/-- A read of a trap-stack register: illegal_instruction at TL = 0 (R296). -/
def readTrapStack (s : State) (rd : Reg) (v : Word64) : Out :=
  finish s do
    needPriv s
    require (decide (0 < s.tl.val)) .illegalInstruction
    .ok (advance (writeR s rd v))

/-- A privileged write of a register. -/
def writePriv (s t : State) : Out :=
  finish s do
    needPriv s
    .ok (advance t)

/-- A write of a trap-stack register: illegal_instruction at TL = 0 (R299). -/
def writeTrapStack (s : State) (e : TrapEntry) : Out :=
  finish s do
    needPriv s
    require (decide (0 < s.tl.val)) .illegalInstruction
    .ok (advance (setTrapEntry s e))

/-- A program counter as TPC and TNPC hold it: bits 1:0 are 0 (R53, R54). -/
def clearPcLow (v : Word64) : Word64 := field v 2 62 ++ (0 : BitVec 2)

/-- The count that PAUSE or MWAIT takes from a written value: it saturates (R43, R44). -/
def saturateCount (bits : Nat) (v : Word64) : Nat := min v.toNat (2 ^ bits - 1)

/-- A write of the PAUSE register (R43, R294). -/
def writePause (s : State) (v : Word64) : State := { s with pause := saturateCount s.par.pauseBits v }

/-- A write of the MWAIT register (R44, R293): without an armed Load-Monitor it does nothing, and a count of 0
cancels the Load-Monitor. -/
def writeMwait (s : State) (v : Word64) : State :=
  if s.monitor = none then { s with mwait := 0 }
  else if saturateCount s.par.mwaitBits v = 0 then { s with mwait := 0, monitor := none }
  else { s with mwait := saturateCount s.par.mwaitBits v }

/-! ## Reads of ancillary state registers (R295) -/

/-- RDY. -/
def execRDY (rd : Reg) (s : State) : Out := .next (advance (writeR s rd (zext64 s.y)))

/-- RDCCR. -/
def execRDCCR (rd : Reg) (s : State) : Out := .next (advance (writeR s rd (zext64 s.ccr.bits)))

/-- RDASI. -/
def execRDASI (rd : Reg) (s : State) : Out := .next (advance (writeR s rd (zext64 s.asi)))

/-- RDTICK. -/
def execRDTICK (rd : Reg) (s : State) : Out :=
  finish s do
    needCounter s s.par.tickPrivDis s.par.tickNpt
    .ok (advance (writeR s rd (zext64 s.tick)))

/-- RDPC. -/
def execRDPC (rd : Reg) (s : State) : Out := .next (advance (writeR s rd (linkValue s)))

/-- RDFPRS. -/
def execRDFPRS (rd : Reg) (s : State) : Out := .next (advance (writeR s rd (zext64 s.fprs.bits)))

/-- RDGSR. -/
def execRDGSR (rd : Reg) (s : State) : Out :=
  finish s do
    needFpu s
    .ok (advance (writeR s rd s.gsr.bits))

/-- RDSOFTINT. -/
def execRDSOFTINT (rd : Reg) (s : State) : Out := readPriv s rd (softintBits s)

/-- RDSTICK. -/
def execRDSTICK (rd : Reg) (s : State) : Out :=
  finish s do
    needCounter s s.par.stickPrivDis s.par.stickNpt
    .ok (advance (writeR s rd (zext64 (clearLow s.stick s.par.stickM))))

/-- RDSTICK_CMPR. -/
def execRDSTICK_CMPR (rd : Reg) (s : State) : Out :=
  readPriv s rd (flag s.stickCmpr.intDis ++ clearLow s.stickCmpr.cmpr s.par.stickCmprN)

/-- RDCFR; bit 2 is reserved (R42). -/
def execRDCFR (rd : Reg) (s : State) : Out := .next (advance (writeR s rd (zext64 (s.par.cfr &&& 0x7FFB))))

/-! ## Reads of privileged registers (R296) -/

/-- RDPR %tpc. -/
def execRDPR_TPC (rd : Reg) (s : State) : Out := readTrapStack s rd (trapEntry s).tpc

/-- RDPR %tnpc. -/
def execRDPR_TNPC (rd : Reg) (s : State) : Out := readTrapStack s rd (trapEntry s).tnpc

/-- RDPR %tstate. -/
def execRDPR_TSTATE (rd : Reg) (s : State) : Out := readTrapStack s rd (trapEntry s).tstate.bits

/-- RDPR %tt. -/
def execRDPR_TT (rd : Reg) (s : State) : Out := readTrapStack s rd (zext64 (trapEntry s).tt)

/-- RDPR %tick (R33). -/
def execRDPR_TICK (rd : Reg) (s : State) : Out :=
  finish s do
    needPriv s
    require (!s.par.tickPrivDis) .privilegedAction
    .ok (advance (writeR s rd (zext64 s.tick)))

/-- RDPR %tba (R57). -/
def execRDPR_TBA (rd : Reg) (s : State) : Out := readPriv s rd (s.tba ++ (0 : BitVec 15))

/-- RDPR %pstate. -/
def execRDPR_PSTATE (rd : Reg) (s : State) : Out := readPriv s rd (zext64 s.pstate.bits)

/-- RDPR %tl. -/
def execRDPR_TL (rd : Reg) (s : State) : Out := readPriv s rd (BitVec.ofNat 64 s.tl.val)

/-- RDPR %pil. -/
def execRDPR_PIL (rd : Reg) (s : State) : Out := readPriv s rd (zext64 s.pil)

/-- RDPR %cwp. -/
def execRDPR_CWP (rd : Reg) (s : State) : Out := readPriv s rd (zext64 s.cwp)

/-- RDPR %cansave. -/
def execRDPR_CANSAVE (rd : Reg) (s : State) : Out := readPriv s rd (zext64 s.cansave)

/-- RDPR %canrestore. -/
def execRDPR_CANRESTORE (rd : Reg) (s : State) : Out := readPriv s rd (zext64 s.canrestore)

/-- RDPR %cleanwin. -/
def execRDPR_CLEANWIN (rd : Reg) (s : State) : Out := readPriv s rd (zext64 s.cleanwin)

/-- RDPR %otherwin. -/
def execRDPR_OTHERWIN (rd : Reg) (s : State) : Out := readPriv s rd (zext64 s.otherwin)

/-- RDPR %wstate (R51). -/
def execRDPR_WSTATE (rd : Reg) (s : State) : Out := readPriv s rd (zext64 (s.wstate.other ++ s.wstate.normal))

/-- RDPR %gl. -/
def execRDPR_GL (rd : Reg) (s : State) : Out := readPriv s rd (BitVec.ofNat 64 s.gl.val)

/-! ## Writes of ancillary state registers (R298) -/

/-- WRY. -/
def execWRY (rs1 : Reg) (op2 : RegImm 13) (s : State) : Out :=
  .next (advance { s with y := field (writeValue s rs1 op2) 0 32 })

/-- WRCCR. -/
def execWRCCR (rs1 : Reg) (op2 : RegImm 13) (s : State) : Out :=
  .next (advance { s with ccr := .ofBits (field (writeValue s rs1 op2) 0 8) })

/-- WRASI. -/
def execWRASI (rs1 : Reg) (op2 : RegImm 13) (s : State) : Out :=
  .next (advance { s with asi := field (writeValue s rs1 op2) 0 8 })

/-- WRFPRS. -/
def execWRFPRS (rs1 : Reg) (op2 : RegImm 13) (s : State) : Out :=
  .next (advance { s with fprs := .ofBits (field (writeValue s rs1 op2) 0 3) })

/-- WRGSR. -/
def execWRGSR (rs1 : Reg) (op2 : RegImm 13) (s : State) : Out :=
  finish s do
    needFpu s
    .ok (advance { s with gsr := .ofBits (writeValue s rs1 op2) })

/-- WRSOFTINT_SET (R38). -/
def execWRSOFTINT_SET (rs1 : Reg) (op2 : RegImm 13) (s : State) : Out :=
  writePriv s { s with softint := s.softint ||| softintKept s.par (field (writeValue s rs1 op2) 0 17) }

/-- WRSOFTINT_CLR (R39). -/
def execWRSOFTINT_CLR (rs1 : Reg) (op2 : RegImm 13) (s : State) : Out :=
  writePriv s { s with softint := s.softint &&& ~~~softintKept s.par (field (writeValue s rs1 op2) 0 17) }

/-- WRSOFTINT (R37). -/
def execWRSOFTINT (rs1 : Reg) (op2 : RegImm 13) (s : State) : Out :=
  writePriv s { s with softint := softintKept s.par (field (writeValue s rs1 op2) 0 17) }

/-- WRSTICK_CMPR (R41). -/
def execWRSTICK_CMPR (rs1 : Reg) (op2 : RegImm 13) (s : State) : Out :=
  let v := writeValue s rs1 op2
  writePriv s { s with stickCmpr := ⟨bit v 63, field v 0 63⟩ }

/-- WRPAUSE (R294, R298). -/
def execWRPAUSE (rs1 : Reg) (op2 : RegImm 13) (s : State) : Out :=
  .next (advance (writePause s (writeValue s rs1 op2)))

/-- PAUSE (R294). -/
def execPAUSE (op2 : RegImm 13) (s : State) : Out := .next (advance (writePause s (operand2 s op2)))

/-- WRMWAIT (R293, R298). -/
def execWRMWAIT (rs1 : Reg) (op2 : RegImm 13) (s : State) : Out :=
  .next (advance (writeMwait s (writeValue s rs1 op2)))

/-- MWAIT (R293). -/
def execMWAIT (op2 : RegImm 13) (s : State) : Out := .next (advance (writeMwait s (operand2 s op2)))

/-- SIAM (R297). -/
def execSIAM (mode : BitVec 3) (s : State) : Out :=
  finish s do
    needFpu s
    .ok (advance { s with gsr := { s.gsr with im := bit mode 2, irnd := field mode 0 2 } })

/-! ## Writes of privileged registers (R299) -/

/-- WRPR %tpc. -/
def execWRPR_TPC (rs1 : Reg) (op2 : RegImm 13) (s : State) : Out :=
  writeTrapStack s { trapEntry s with tpc := clearPcLow (writeValue s rs1 op2) }

/-- WRPR %tnpc. -/
def execWRPR_TNPC (rs1 : Reg) (op2 : RegImm 13) (s : State) : Out :=
  writeTrapStack s { trapEntry s with tnpc := clearPcLow (writeValue s rs1 op2) }

/-- WRPR %tstate. -/
def execWRPR_TSTATE (rs1 : Reg) (op2 : RegImm 13) (s : State) : Out :=
  writeTrapStack s { trapEntry s with tstate := .ofBits s.par (writeValue s rs1 op2) }

/-- WRPR %tt. -/
def execWRPR_TT (rs1 : Reg) (op2 : RegImm 13) (s : State) : Out :=
  writeTrapStack s { trapEntry s with tt := field (writeValue s rs1 op2) 0 9 }

/-- WRPR %tba. -/
def execWRPR_TBA (rs1 : Reg) (op2 : RegImm 13) (s : State) : Out :=
  writePriv s { s with tba := field (writeValue s rs1 op2) 15 49 }

/-- WRPR %pstate. -/
def execWRPR_PSTATE (rs1 : Reg) (op2 : RegImm 13) (s : State) : Out :=
  writePriv s { s with pstate := .ofBits s.par (field (writeValue s rs1 op2) 0 13) }

/-- WRPR %tl: saturates at MAXPTL (R60). -/
def execWRPR_TL (rs1 : Reg) (op2 : RegImm 13) (s : State) : Out :=
  writePriv s { s with tl := saturate2 (field (writeValue s rs1 op2) 0 3) }

/-- WRPR %pil. -/
def execWRPR_PIL (rs1 : Reg) (op2 : RegImm 13) (s : State) : Out :=
  writePriv s { s with pil := field (writeValue s rs1 op2) 0 4 }

/-- WRPR %cwp; the window registers take the low 3 bits (R45). -/
def execWRPR_CWP (rs1 : Reg) (op2 : RegImm 13) (s : State) : Out :=
  writePriv s { s with cwp := field (writeValue s rs1 op2) 0 3 }

/-- WRPR %cansave. -/
def execWRPR_CANSAVE (rs1 : Reg) (op2 : RegImm 13) (s : State) : Out :=
  writePriv s { s with cansave := field (writeValue s rs1 op2) 0 3 }

/-- WRPR %canrestore. -/
def execWRPR_CANRESTORE (rs1 : Reg) (op2 : RegImm 13) (s : State) : Out :=
  writePriv s { s with canrestore := field (writeValue s rs1 op2) 0 3 }

/-- WRPR %cleanwin. -/
def execWRPR_CLEANWIN (rs1 : Reg) (op2 : RegImm 13) (s : State) : Out :=
  writePriv s { s with cleanwin := field (writeValue s rs1 op2) 0 3 }

/-- WRPR %otherwin. -/
def execWRPR_OTHERWIN (rs1 : Reg) (op2 : RegImm 13) (s : State) : Out :=
  writePriv s { s with otherwin := field (writeValue s rs1 op2) 0 3 }

/-- WRPR %wstate (R51). -/
def execWRPR_WSTATE (rs1 : Reg) (op2 : RegImm 13) (s : State) : Out :=
  let v := writeValue s rs1 op2
  writePriv s { s with wstate := ⟨field v 3 3, field v 0 3⟩ }

/-- WRPR %gl: saturates at MAXPGL (R62). -/
def execWRPR_GL (rs1 : Reg) (op2 : RegImm 13) (s : State) : Out :=
  writePriv s { s with gl := saturate2 (field (writeValue s rs1 op2) 0 3) }

end Sys2Proof.Machine
end

