-- ==== Sys2Proof/Machine/Dispatch.lean ====
section
/-!
DEFINITION. The meaning of every instruction: one arm per constructor of `Instr`, in the order of the opcode
table, grouped by spec file.
-/

namespace Sys2Proof.Machine

def exec (i : Instr) (s : State) : Host.Outcome State Fault Refusal :=
  match i with
  | .NOP => Sys2Proof.Machine.execNOP s
  | .SETHI rd imm22 => Sys2Proof.Machine.execSETHI rd imm22 s
  | .ADD rd rs1 op2 => Sys2Proof.Machine.execADD rd rs1 op2 s
  | .AND rd rs1 op2 => Sys2Proof.Machine.execAND rd rs1 op2 s
  | .OR rd rs1 op2 => Sys2Proof.Machine.execOR rd rs1 op2 s
  | .XOR rd rs1 op2 => Sys2Proof.Machine.execXOR rd rs1 op2 s
  | .SUB rd rs1 op2 => Sys2Proof.Machine.execSUB rd rs1 op2 s
  | .ANDN rd rs1 op2 => Sys2Proof.Machine.execANDN rd rs1 op2 s
  | .ORN rd rs1 op2 => Sys2Proof.Machine.execORN rd rs1 op2 s
  | .XNOR rd rs1 op2 => Sys2Proof.Machine.execXNOR rd rs1 op2 s
  | .ADDC rd rs1 op2 => Sys2Proof.Machine.execADDC rd rs1 op2 s
  | .MULX rd rs1 op2 => Sys2Proof.Machine.execMULX rd rs1 op2 s
  | .UMUL rd rs1 op2 => Sys2Proof.Machine.execUMUL rd rs1 op2 s
  | .SMUL rd rs1 op2 => Sys2Proof.Machine.execSMUL rd rs1 op2 s
  | .SUBC rd rs1 op2 => Sys2Proof.Machine.execSUBC rd rs1 op2 s
  | .UDIVX rd rs1 op2 => Sys2Proof.Machine.execUDIVX rd rs1 op2 s
  | .UDIV rd rs1 op2 => Sys2Proof.Machine.execUDIV rd rs1 op2 s
  | .SDIV rd rs1 op2 => Sys2Proof.Machine.execSDIV rd rs1 op2 s
  | .ADDcc rd rs1 op2 => Sys2Proof.Machine.execADDcc rd rs1 op2 s
  | .ANDcc rd rs1 op2 => Sys2Proof.Machine.execANDcc rd rs1 op2 s
  | .ORcc rd rs1 op2 => Sys2Proof.Machine.execORcc rd rs1 op2 s
  | .XORcc rd rs1 op2 => Sys2Proof.Machine.execXORcc rd rs1 op2 s
  | .SUBcc rd rs1 op2 => Sys2Proof.Machine.execSUBcc rd rs1 op2 s
  | .ANDNcc rd rs1 op2 => Sys2Proof.Machine.execANDNcc rd rs1 op2 s
  | .ORNcc rd rs1 op2 => Sys2Proof.Machine.execORNcc rd rs1 op2 s
  | .XNORcc rd rs1 op2 => Sys2Proof.Machine.execXNORcc rd rs1 op2 s
  | .ADDCcc rd rs1 op2 => Sys2Proof.Machine.execADDCcc rd rs1 op2 s
  | .UMULcc rd rs1 op2 => Sys2Proof.Machine.execUMULcc rd rs1 op2 s
  | .SMULcc rd rs1 op2 => Sys2Proof.Machine.execSMULcc rd rs1 op2 s
  | .SUBCcc rd rs1 op2 => Sys2Proof.Machine.execSUBCcc rd rs1 op2 s
  | .UDIVcc rd rs1 op2 => Sys2Proof.Machine.execUDIVcc rd rs1 op2 s
  | .SDIVcc rd rs1 op2 => Sys2Proof.Machine.execSDIVcc rd rs1 op2 s
  | .TADDcc rd rs1 op2 => Sys2Proof.Machine.execTADDcc rd rs1 op2 s
  | .TSUBcc rd rs1 op2 => Sys2Proof.Machine.execTSUBcc rd rs1 op2 s
  | .TADDccTV rd rs1 op2 => Sys2Proof.Machine.execTADDccTV rd rs1 op2 s
  | .TSUBccTV rd rs1 op2 => Sys2Proof.Machine.execTSUBccTV rd rs1 op2 s
  | .MULScc rd rs1 op2 => Sys2Proof.Machine.execMULScc rd rs1 op2 s
  | .SDIVX rd rs1 op2 => Sys2Proof.Machine.execSDIVX rd rs1 op2 s
  | .SLL rd rs1 count => Sys2Proof.Machine.execSLL rd rs1 count s
  | .SLLX rd rs1 count => Sys2Proof.Machine.execSLLX rd rs1 count s
  | .SRL rd rs1 count => Sys2Proof.Machine.execSRL rd rs1 count s
  | .SRLX rd rs1 count => Sys2Proof.Machine.execSRLX rd rs1 count s
  | .SRA rd rs1 count => Sys2Proof.Machine.execSRA rd rs1 count s
  | .SRAX rd rs1 count => Sys2Proof.Machine.execSRAX rd rs1 count s
  | .MOVfcc0 rd cond op2 => Sys2Proof.Machine.execMOVfcc0 rd cond op2 s
  | .MOVfcc1 rd cond op2 => Sys2Proof.Machine.execMOVfcc1 rd cond op2 s
  | .MOVfcc2 rd cond op2 => Sys2Proof.Machine.execMOVfcc2 rd cond op2 s
  | .MOVfcc3 rd cond op2 => Sys2Proof.Machine.execMOVfcc3 rd cond op2 s
  | .MOVicc rd cond op2 => Sys2Proof.Machine.execMOVicc rd cond op2 s
  | .MOVxcc rd cond op2 => Sys2Proof.Machine.execMOVxcc rd cond op2 s
  | .POPC rd op2 => Sys2Proof.Machine.execPOPC rd op2 s
  | .MOVRZ rd rs1 op2 => Sys2Proof.Machine.execMOVRZ rd rs1 op2 s
  | .MOVRLEZ rd rs1 op2 => Sys2Proof.Machine.execMOVRLEZ rd rs1 op2 s
  | .MOVRLZ rd rs1 op2 => Sys2Proof.Machine.execMOVRLZ rd rs1 op2 s
  | .MOVRNZ rd rs1 op2 => Sys2Proof.Machine.execMOVRNZ rd rs1 op2 s
  | .MOVRGZ rd rs1 op2 => Sys2Proof.Machine.execMOVRGZ rd rs1 op2 s
  | .MOVRGEZ rd rs1 op2 => Sys2Proof.Machine.execMOVRGEZ rd rs1 op2 s
  | .ADDXC rd rs1 rs2 => Sys2Proof.Machine.execADDXC rd rs1 rs2 s
  | .ADDXCcc rd rs1 rs2 => Sys2Proof.Machine.execADDXCcc rd rs1 rs2 s
  | .UMULXHI rd rs1 rs2 => Sys2Proof.Machine.execUMULXHI rd rs1 rs2 s
  | .LZCNT rd rs2 => Sys2Proof.Machine.execLZCNT rd rs2 s
  | .SUBXC rd rs1 rs2 => Sys2Proof.Machine.execSUBXC rd rs1 rs2 s
  | .SUBXCcc rd rs1 rs2 => Sys2Proof.Machine.execSUBXCcc rd rs1 rs2 s
  | .XMULX rd rs1 rs2 => Sys2Proof.Machine.execXMULX rd rs1 rs2 s
  | .XMULXHI rd rs1 rs2 => Sys2Proof.Machine.execXMULXHI rd rs1 rs2 s
  | .ILLTRAP const22 => Sys2Proof.Machine.execILLTRAP const22 s
  | .BPN a cc p disp19 => Sys2Proof.Machine.execBPN a cc p disp19 s
  | .BPE a cc p disp19 => Sys2Proof.Machine.execBPE a cc p disp19 s
  | .BPLE a cc p disp19 => Sys2Proof.Machine.execBPLE a cc p disp19 s
  | .BPL a cc p disp19 => Sys2Proof.Machine.execBPL a cc p disp19 s
  | .BPLEU a cc p disp19 => Sys2Proof.Machine.execBPLEU a cc p disp19 s
  | .BPCS a cc p disp19 => Sys2Proof.Machine.execBPCS a cc p disp19 s
  | .BPNEG a cc p disp19 => Sys2Proof.Machine.execBPNEG a cc p disp19 s
  | .BPVS a cc p disp19 => Sys2Proof.Machine.execBPVS a cc p disp19 s
  | .BPA a cc p disp19 => Sys2Proof.Machine.execBPA a cc p disp19 s
  | .BPNE a cc p disp19 => Sys2Proof.Machine.execBPNE a cc p disp19 s
  | .BPG a cc p disp19 => Sys2Proof.Machine.execBPG a cc p disp19 s
  | .BPGE a cc p disp19 => Sys2Proof.Machine.execBPGE a cc p disp19 s
  | .BPGU a cc p disp19 => Sys2Proof.Machine.execBPGU a cc p disp19 s
  | .BPCC a cc p disp19 => Sys2Proof.Machine.execBPCC a cc p disp19 s
  | .BPPOS a cc p disp19 => Sys2Proof.Machine.execBPPOS a cc p disp19 s
  | .BPVC a cc p disp19 => Sys2Proof.Machine.execBPVC a cc p disp19 s
  | .BN a disp22 => Sys2Proof.Machine.execBN a disp22 s
  | .BE a disp22 => Sys2Proof.Machine.execBE a disp22 s
  | .BLE a disp22 => Sys2Proof.Machine.execBLE a disp22 s
  | .BL a disp22 => Sys2Proof.Machine.execBL a disp22 s
  | .BLEU a disp22 => Sys2Proof.Machine.execBLEU a disp22 s
  | .BCS a disp22 => Sys2Proof.Machine.execBCS a disp22 s
  | .BNEG a disp22 => Sys2Proof.Machine.execBNEG a disp22 s
  | .BVS a disp22 => Sys2Proof.Machine.execBVS a disp22 s
  | .BA a disp22 => Sys2Proof.Machine.execBA a disp22 s
  | .BNE a disp22 => Sys2Proof.Machine.execBNE a disp22 s
  | .BG a disp22 => Sys2Proof.Machine.execBG a disp22 s
  | .BGE a disp22 => Sys2Proof.Machine.execBGE a disp22 s
  | .BGU a disp22 => Sys2Proof.Machine.execBGU a disp22 s
  | .BCC a disp22 => Sys2Proof.Machine.execBCC a disp22 s
  | .BPOS a disp22 => Sys2Proof.Machine.execBPOS a disp22 s
  | .BVC a disp22 => Sys2Proof.Machine.execBVC a disp22 s
  | .BRZ a p rs1 d16 => Sys2Proof.Machine.execBRZ a p rs1 d16 s
  | .BRLEZ a p rs1 d16 => Sys2Proof.Machine.execBRLEZ a p rs1 d16 s
  | .BRLZ a p rs1 d16 => Sys2Proof.Machine.execBRLZ a p rs1 d16 s
  | .BRNZ a p rs1 d16 => Sys2Proof.Machine.execBRNZ a p rs1 d16 s
  | .BRGZ a p rs1 d16 => Sys2Proof.Machine.execBRGZ a p rs1 d16 s
  | .BRGEZ a p rs1 d16 => Sys2Proof.Machine.execBRGEZ a p rs1 d16 s
  | .CWBE rs1 op2 d10 => Sys2Proof.Machine.execCWBE rs1 op2 d10 s
  | .CWBLE rs1 op2 d10 => Sys2Proof.Machine.execCWBLE rs1 op2 d10 s
  | .CWBL rs1 op2 d10 => Sys2Proof.Machine.execCWBL rs1 op2 d10 s
  | .CWBLEU rs1 op2 d10 => Sys2Proof.Machine.execCWBLEU rs1 op2 d10 s
  | .CWBCS rs1 op2 d10 => Sys2Proof.Machine.execCWBCS rs1 op2 d10 s
  | .CWBNEG rs1 op2 d10 => Sys2Proof.Machine.execCWBNEG rs1 op2 d10 s
  | .CWBVS rs1 op2 d10 => Sys2Proof.Machine.execCWBVS rs1 op2 d10 s
  | .CWBNE rs1 op2 d10 => Sys2Proof.Machine.execCWBNE rs1 op2 d10 s
  | .CWBG rs1 op2 d10 => Sys2Proof.Machine.execCWBG rs1 op2 d10 s
  | .CWBGE rs1 op2 d10 => Sys2Proof.Machine.execCWBGE rs1 op2 d10 s
  | .CWBGU rs1 op2 d10 => Sys2Proof.Machine.execCWBGU rs1 op2 d10 s
  | .CWBCC rs1 op2 d10 => Sys2Proof.Machine.execCWBCC rs1 op2 d10 s
  | .CWBPOS rs1 op2 d10 => Sys2Proof.Machine.execCWBPOS rs1 op2 d10 s
  | .CWBVC rs1 op2 d10 => Sys2Proof.Machine.execCWBVC rs1 op2 d10 s
  | .CXBE rs1 op2 d10 => Sys2Proof.Machine.execCXBE rs1 op2 d10 s
  | .CXBLE rs1 op2 d10 => Sys2Proof.Machine.execCXBLE rs1 op2 d10 s
  | .CXBL rs1 op2 d10 => Sys2Proof.Machine.execCXBL rs1 op2 d10 s
  | .CXBLEU rs1 op2 d10 => Sys2Proof.Machine.execCXBLEU rs1 op2 d10 s
  | .CXBCS rs1 op2 d10 => Sys2Proof.Machine.execCXBCS rs1 op2 d10 s
  | .CXBNEG rs1 op2 d10 => Sys2Proof.Machine.execCXBNEG rs1 op2 d10 s
  | .CXBVS rs1 op2 d10 => Sys2Proof.Machine.execCXBVS rs1 op2 d10 s
  | .CXBNE rs1 op2 d10 => Sys2Proof.Machine.execCXBNE rs1 op2 d10 s
  | .CXBG rs1 op2 d10 => Sys2Proof.Machine.execCXBG rs1 op2 d10 s
  | .CXBGE rs1 op2 d10 => Sys2Proof.Machine.execCXBGE rs1 op2 d10 s
  | .CXBGU rs1 op2 d10 => Sys2Proof.Machine.execCXBGU rs1 op2 d10 s
  | .CXBCC rs1 op2 d10 => Sys2Proof.Machine.execCXBCC rs1 op2 d10 s
  | .CXBPOS rs1 op2 d10 => Sys2Proof.Machine.execCXBPOS rs1 op2 d10 s
  | .CXBVC rs1 op2 d10 => Sys2Proof.Machine.execCXBVC rs1 op2 d10 s
  | .FBPN a cc p disp19 => Sys2Proof.Machine.execFBPN a cc p disp19 s
  | .FBPNE a cc p disp19 => Sys2Proof.Machine.execFBPNE a cc p disp19 s
  | .FBPLG a cc p disp19 => Sys2Proof.Machine.execFBPLG a cc p disp19 s
  | .FBPUL a cc p disp19 => Sys2Proof.Machine.execFBPUL a cc p disp19 s
  | .FBPL a cc p disp19 => Sys2Proof.Machine.execFBPL a cc p disp19 s
  | .FBPUG a cc p disp19 => Sys2Proof.Machine.execFBPUG a cc p disp19 s
  | .FBPG a cc p disp19 => Sys2Proof.Machine.execFBPG a cc p disp19 s
  | .FBPU a cc p disp19 => Sys2Proof.Machine.execFBPU a cc p disp19 s
  | .FBPA a cc p disp19 => Sys2Proof.Machine.execFBPA a cc p disp19 s
  | .FBPE a cc p disp19 => Sys2Proof.Machine.execFBPE a cc p disp19 s
  | .FBPUE a cc p disp19 => Sys2Proof.Machine.execFBPUE a cc p disp19 s
  | .FBPGE a cc p disp19 => Sys2Proof.Machine.execFBPGE a cc p disp19 s
  | .FBPUGE a cc p disp19 => Sys2Proof.Machine.execFBPUGE a cc p disp19 s
  | .FBPLE a cc p disp19 => Sys2Proof.Machine.execFBPLE a cc p disp19 s
  | .FBPULE a cc p disp19 => Sys2Proof.Machine.execFBPULE a cc p disp19 s
  | .FBPO a cc p disp19 => Sys2Proof.Machine.execFBPO a cc p disp19 s
  | .FBN a disp22 => Sys2Proof.Machine.execFBN a disp22 s
  | .FBNE a disp22 => Sys2Proof.Machine.execFBNE a disp22 s
  | .FBLG a disp22 => Sys2Proof.Machine.execFBLG a disp22 s
  | .FBUL a disp22 => Sys2Proof.Machine.execFBUL a disp22 s
  | .FBL a disp22 => Sys2Proof.Machine.execFBL a disp22 s
  | .FBUG a disp22 => Sys2Proof.Machine.execFBUG a disp22 s
  | .FBG a disp22 => Sys2Proof.Machine.execFBG a disp22 s
  | .FBU a disp22 => Sys2Proof.Machine.execFBU a disp22 s
  | .FBA a disp22 => Sys2Proof.Machine.execFBA a disp22 s
  | .FBE a disp22 => Sys2Proof.Machine.execFBE a disp22 s
  | .FBUE a disp22 => Sys2Proof.Machine.execFBUE a disp22 s
  | .FBGE a disp22 => Sys2Proof.Machine.execFBGE a disp22 s
  | .FBUGE a disp22 => Sys2Proof.Machine.execFBUGE a disp22 s
  | .FBLE a disp22 => Sys2Proof.Machine.execFBLE a disp22 s
  | .FBULE a disp22 => Sys2Proof.Machine.execFBULE a disp22 s
  | .FBO a disp22 => Sys2Proof.Machine.execFBO a disp22 s
  | .CALL disp30 => Sys2Proof.Machine.execCALL disp30 s
  | .JMPL rd rs1 op2 => Sys2Proof.Machine.execJMPL rd rs1 op2 s
  | .RETURN rs1 op2 => Sys2Proof.Machine.execRETURN rs1 op2 s
  | .TN cc rs1 op2 => Sys2Proof.Machine.execTN cc rs1 op2 s
  | .TE cc rs1 op2 => Sys2Proof.Machine.execTE cc rs1 op2 s
  | .TLE cc rs1 op2 => Sys2Proof.Machine.execTLE cc rs1 op2 s
  | .TL cc rs1 op2 => Sys2Proof.Machine.execTL cc rs1 op2 s
  | .TLEU cc rs1 op2 => Sys2Proof.Machine.execTLEU cc rs1 op2 s
  | .TCS cc rs1 op2 => Sys2Proof.Machine.execTCS cc rs1 op2 s
  | .TNEG cc rs1 op2 => Sys2Proof.Machine.execTNEG cc rs1 op2 s
  | .TVS cc rs1 op2 => Sys2Proof.Machine.execTVS cc rs1 op2 s
  | .TA cc rs1 op2 => Sys2Proof.Machine.execTA cc rs1 op2 s
  | .TNE cc rs1 op2 => Sys2Proof.Machine.execTNE cc rs1 op2 s
  | .TG cc rs1 op2 => Sys2Proof.Machine.execTG cc rs1 op2 s
  | .TGE cc rs1 op2 => Sys2Proof.Machine.execTGE cc rs1 op2 s
  | .TGU cc rs1 op2 => Sys2Proof.Machine.execTGU cc rs1 op2 s
  | .TCC cc rs1 op2 => Sys2Proof.Machine.execTCC cc rs1 op2 s
  | .TPOS cc rs1 op2 => Sys2Proof.Machine.execTPOS cc rs1 op2 s
  | .TVC cc rs1 op2 => Sys2Proof.Machine.execTVC cc rs1 op2 s
  | .DONE => Sys2Proof.Machine.execDONE s
  | .RETRY => Sys2Proof.Machine.execRETRY s
  | .STBAR => Sys2Proof.Machine.execSTBAR s
  | .MEMBAR cmask mmask => Sys2Proof.Machine.execMEMBAR cmask mmask s
  | .FLUSH rs1 op2 => Sys2Proof.Machine.execFLUSH rs1 op2 s
  | .LDUW rd rs1 op2 => Sys2Proof.Machine.execLDUW rd rs1 op2 s
  | .LDUB rd rs1 op2 => Sys2Proof.Machine.execLDUB rd rs1 op2 s
  | .LDUH rd rs1 op2 => Sys2Proof.Machine.execLDUH rd rs1 op2 s
  | .LDTW rd rs1 op2 => Sys2Proof.Machine.execLDTW rd rs1 op2 s
  | .STW rd rs1 op2 => Sys2Proof.Machine.execSTW rd rs1 op2 s
  | .STB rd rs1 op2 => Sys2Proof.Machine.execSTB rd rs1 op2 s
  | .STH rd rs1 op2 => Sys2Proof.Machine.execSTH rd rs1 op2 s
  | .STTW rd rs1 op2 => Sys2Proof.Machine.execSTTW rd rs1 op2 s
  | .LDSW rd rs1 op2 => Sys2Proof.Machine.execLDSW rd rs1 op2 s
  | .LDSB rd rs1 op2 => Sys2Proof.Machine.execLDSB rd rs1 op2 s
  | .LDSH rd rs1 op2 => Sys2Proof.Machine.execLDSH rd rs1 op2 s
  | .LDX rd rs1 op2 => Sys2Proof.Machine.execLDX rd rs1 op2 s
  | .LDSTUB rd rs1 op2 => Sys2Proof.Machine.execLDSTUB rd rs1 op2 s
  | .STX rd rs1 op2 => Sys2Proof.Machine.execSTX rd rs1 op2 s
  | .SWAP rd rs1 op2 => Sys2Proof.Machine.execSWAP rd rs1 op2 s
  | .LDUWA rd rs1 addr => Sys2Proof.Machine.execLDUWA rd rs1 addr s
  | .LDUBA rd rs1 addr => Sys2Proof.Machine.execLDUBA rd rs1 addr s
  | .LDUHA rd rs1 addr => Sys2Proof.Machine.execLDUHA rd rs1 addr s
  | .LDTWA rd rs1 addr => Sys2Proof.Machine.execLDTWA rd rs1 addr s
  | .STWA rd rs1 addr => Sys2Proof.Machine.execSTWA rd rs1 addr s
  | .STBA rd rs1 addr => Sys2Proof.Machine.execSTBA rd rs1 addr s
  | .STHA rd rs1 addr => Sys2Proof.Machine.execSTHA rd rs1 addr s
  | .STTWA rd rs1 addr => Sys2Proof.Machine.execSTTWA rd rs1 addr s
  | .LDSWA rd rs1 addr => Sys2Proof.Machine.execLDSWA rd rs1 addr s
  | .LDSBA rd rs1 addr => Sys2Proof.Machine.execLDSBA rd rs1 addr s
  | .LDSHA rd rs1 addr => Sys2Proof.Machine.execLDSHA rd rs1 addr s
  | .LDXA rd rs1 addr => Sys2Proof.Machine.execLDXA rd rs1 addr s
  | .LDSTUBA rd rs1 addr => Sys2Proof.Machine.execLDSTUBA rd rs1 addr s
  | .STXA rd rs1 addr => Sys2Proof.Machine.execSTXA rd rs1 addr s
  | .SWAPA rd rs1 addr => Sys2Proof.Machine.execSWAPA rd rs1 addr s
  | .LDTXA rd rs1 rs2 asi => Sys2Proof.Machine.execLDTXA rd rs1 rs2 asi s
  | .PREFETCH fcn rs1 op2 => Sys2Proof.Machine.execPREFETCH fcn rs1 op2 s
  | .CASA rd rs1 rs2 asi => Sys2Proof.Machine.execCASA rd rs1 rs2 asi s
  | .PREFETCHA fcn rs1 addr => Sys2Proof.Machine.execPREFETCHA fcn rs1 addr s
  | .CASXA rd rs1 rs2 asi => Sys2Proof.Machine.execCASXA rd rs1 rs2 asi s
  | .LDF rd rs1 op2 => Sys2Proof.Machine.execLDF rd rs1 op2 s
  | .LDFSR rs1 op2 => Sys2Proof.Machine.execLDFSR rs1 op2 s
  | .LDXFSR rs1 op2 => Sys2Proof.Machine.execLDXFSR rs1 op2 s
  | .LDXEFSR rs1 op2 => Sys2Proof.Machine.execLDXEFSR rs1 op2 s
  | .LDQF rd rs1 op2 => Sys2Proof.Machine.execLDQF rd rs1 op2 s
  | .LDDF rd rs1 op2 => Sys2Proof.Machine.execLDDF rd rs1 op2 s
  | .STF rd rs1 op2 => Sys2Proof.Machine.execSTF rd rs1 op2 s
  | .STFSR rs1 op2 => Sys2Proof.Machine.execSTFSR rs1 op2 s
  | .STXFSR rs1 op2 => Sys2Proof.Machine.execSTXFSR rs1 op2 s
  | .STQF rd rs1 op2 => Sys2Proof.Machine.execSTQF rd rs1 op2 s
  | .STDF rd rs1 op2 => Sys2Proof.Machine.execSTDF rd rs1 op2 s
  | .LDFA rd rs1 addr => Sys2Proof.Machine.execLDFA rd rs1 addr s
  | .LDQFA rd rs1 addr => Sys2Proof.Machine.execLDQFA rd rs1 addr s
  | .LDDFA rd rs1 addr => Sys2Proof.Machine.execLDDFA rd rs1 addr s
  | .LDBLOCKF rd rs1 rs2 asi => Sys2Proof.Machine.execLDBLOCKF rd rs1 rs2 asi s
  | .LDSHORTF rd rs1 rs2 asi => Sys2Proof.Machine.execLDSHORTF rd rs1 rs2 asi s
  | .STFA rd rs1 addr => Sys2Proof.Machine.execSTFA rd rs1 addr s
  | .STQFA rd rs1 addr => Sys2Proof.Machine.execSTQFA rd rs1 addr s
  | .STDFA rd rs1 addr => Sys2Proof.Machine.execSTDFA rd rs1 addr s
  | .STBLOCKF rd rs1 rs2 asi => Sys2Proof.Machine.execSTBLOCKF rd rs1 rs2 asi s
  | .STPARTIALF rd rs1 rs2 asi => Sys2Proof.Machine.execSTPARTIALF rd rs1 rs2 asi s
  | .STSHORTF rd rs1 rs2 asi => Sys2Proof.Machine.execSTSHORTF rd rs1 rs2 asi s
  | .FLUSHW => Sys2Proof.Machine.execFLUSHW s
  | .SAVED => Sys2Proof.Machine.execSAVED s
  | .RESTORED => Sys2Proof.Machine.execRESTORED s
  | .ALLCLEAN => Sys2Proof.Machine.execALLCLEAN s
  | .OTHERW => Sys2Proof.Machine.execOTHERW s
  | .NORMALW => Sys2Proof.Machine.execNORMALW s
  | .INVALW => Sys2Proof.Machine.execINVALW s
  | .SAVE rd rs1 op2 => Sys2Proof.Machine.execSAVE rd rs1 op2 s
  | .RESTORE rd rs1 op2 => Sys2Proof.Machine.execRESTORE rd rs1 op2 s
  | .RDY rd => Sys2Proof.Machine.execRDY rd s
  | .RDCCR rd => Sys2Proof.Machine.execRDCCR rd s
  | .RDASI rd => Sys2Proof.Machine.execRDASI rd s
  | .RDTICK rd => Sys2Proof.Machine.execRDTICK rd s
  | .RDPC rd => Sys2Proof.Machine.execRDPC rd s
  | .RDFPRS rd => Sys2Proof.Machine.execRDFPRS rd s
  | .RDGSR rd => Sys2Proof.Machine.execRDGSR rd s
  | .RDSOFTINT rd => Sys2Proof.Machine.execRDSOFTINT rd s
  | .RDSTICK rd => Sys2Proof.Machine.execRDSTICK rd s
  | .RDSTICK_CMPR rd => Sys2Proof.Machine.execRDSTICK_CMPR rd s
  | .RDCFR rd => Sys2Proof.Machine.execRDCFR rd s
  | .RDPR_TPC rd => Sys2Proof.Machine.execRDPR_TPC rd s
  | .RDPR_TNPC rd => Sys2Proof.Machine.execRDPR_TNPC rd s
  | .RDPR_TSTATE rd => Sys2Proof.Machine.execRDPR_TSTATE rd s
  | .RDPR_TT rd => Sys2Proof.Machine.execRDPR_TT rd s
  | .RDPR_TICK rd => Sys2Proof.Machine.execRDPR_TICK rd s
  | .RDPR_TBA rd => Sys2Proof.Machine.execRDPR_TBA rd s
  | .RDPR_PSTATE rd => Sys2Proof.Machine.execRDPR_PSTATE rd s
  | .RDPR_TL rd => Sys2Proof.Machine.execRDPR_TL rd s
  | .RDPR_PIL rd => Sys2Proof.Machine.execRDPR_PIL rd s
  | .RDPR_CWP rd => Sys2Proof.Machine.execRDPR_CWP rd s
  | .RDPR_CANSAVE rd => Sys2Proof.Machine.execRDPR_CANSAVE rd s
  | .RDPR_CANRESTORE rd => Sys2Proof.Machine.execRDPR_CANRESTORE rd s
  | .RDPR_CLEANWIN rd => Sys2Proof.Machine.execRDPR_CLEANWIN rd s
  | .RDPR_OTHERWIN rd => Sys2Proof.Machine.execRDPR_OTHERWIN rd s
  | .RDPR_WSTATE rd => Sys2Proof.Machine.execRDPR_WSTATE rd s
  | .RDPR_GL rd => Sys2Proof.Machine.execRDPR_GL rd s
  | .WRY rs1 op2 => Sys2Proof.Machine.execWRY rs1 op2 s
  | .WRCCR rs1 op2 => Sys2Proof.Machine.execWRCCR rs1 op2 s
  | .WRASI rs1 op2 => Sys2Proof.Machine.execWRASI rs1 op2 s
  | .WRFPRS rs1 op2 => Sys2Proof.Machine.execWRFPRS rs1 op2 s
  | .WRGSR rs1 op2 => Sys2Proof.Machine.execWRGSR rs1 op2 s
  | .WRSOFTINT_SET rs1 op2 => Sys2Proof.Machine.execWRSOFTINT_SET rs1 op2 s
  | .WRSOFTINT_CLR rs1 op2 => Sys2Proof.Machine.execWRSOFTINT_CLR rs1 op2 s
  | .WRSOFTINT rs1 op2 => Sys2Proof.Machine.execWRSOFTINT rs1 op2 s
  | .WRSTICK_CMPR rs1 op2 => Sys2Proof.Machine.execWRSTICK_CMPR rs1 op2 s
  | .WRPAUSE rs1 op2 => Sys2Proof.Machine.execWRPAUSE rs1 op2 s
  | .PAUSE op2 => Sys2Proof.Machine.execPAUSE op2 s
  | .WRMWAIT rs1 op2 => Sys2Proof.Machine.execWRMWAIT rs1 op2 s
  | .MWAIT op2 => Sys2Proof.Machine.execMWAIT op2 s
  | .WRPR_TPC rs1 op2 => Sys2Proof.Machine.execWRPR_TPC rs1 op2 s
  | .WRPR_TNPC rs1 op2 => Sys2Proof.Machine.execWRPR_TNPC rs1 op2 s
  | .WRPR_TSTATE rs1 op2 => Sys2Proof.Machine.execWRPR_TSTATE rs1 op2 s
  | .WRPR_TT rs1 op2 => Sys2Proof.Machine.execWRPR_TT rs1 op2 s
  | .WRPR_TBA rs1 op2 => Sys2Proof.Machine.execWRPR_TBA rs1 op2 s
  | .WRPR_PSTATE rs1 op2 => Sys2Proof.Machine.execWRPR_PSTATE rs1 op2 s
  | .WRPR_TL rs1 op2 => Sys2Proof.Machine.execWRPR_TL rs1 op2 s
  | .WRPR_PIL rs1 op2 => Sys2Proof.Machine.execWRPR_PIL rs1 op2 s
  | .WRPR_CWP rs1 op2 => Sys2Proof.Machine.execWRPR_CWP rs1 op2 s
  | .WRPR_CANSAVE rs1 op2 => Sys2Proof.Machine.execWRPR_CANSAVE rs1 op2 s
  | .WRPR_CANRESTORE rs1 op2 => Sys2Proof.Machine.execWRPR_CANRESTORE rs1 op2 s
  | .WRPR_CLEANWIN rs1 op2 => Sys2Proof.Machine.execWRPR_CLEANWIN rs1 op2 s
  | .WRPR_OTHERWIN rs1 op2 => Sys2Proof.Machine.execWRPR_OTHERWIN rs1 op2 s
  | .WRPR_WSTATE rs1 op2 => Sys2Proof.Machine.execWRPR_WSTATE rs1 op2 s
  | .WRPR_GL rs1 op2 => Sys2Proof.Machine.execWRPR_GL rs1 op2 s
  | .SIAM mode => Sys2Proof.Machine.execSIAM mode s
  | .FMOVs rd rs2 => Sys2Proof.Machine.execFMOVs rd rs2 s
  | .FMOVd rd rs2 => Sys2Proof.Machine.execFMOVd rd rs2 s
  | .FMOVq rd rs2 => Sys2Proof.Machine.execFMOVq rd rs2 s
  | .FNEGs rd rs2 => Sys2Proof.Machine.execFNEGs rd rs2 s
  | .FNEGd rd rs2 => Sys2Proof.Machine.execFNEGd rd rs2 s
  | .FNEGq rd rs2 => Sys2Proof.Machine.execFNEGq rd rs2 s
  | .FABSs rd rs2 => Sys2Proof.Machine.execFABSs rd rs2 s
  | .FABSd rd rs2 => Sys2Proof.Machine.execFABSd rd rs2 s
  | .FABSq rd rs2 => Sys2Proof.Machine.execFABSq rd rs2 s
  | .FSQRTs rd rs2 => Sys2Proof.Machine.execFSQRTs rd rs2 s
  | .FSQRTd rd rs2 => Sys2Proof.Machine.execFSQRTd rd rs2 s
  | .FSQRTq rd rs2 => Sys2Proof.Machine.execFSQRTq rd rs2 s
  | .FADDs rd rs1 rs2 => Sys2Proof.Machine.execFADDs rd rs1 rs2 s
  | .FADDd rd rs1 rs2 => Sys2Proof.Machine.execFADDd rd rs1 rs2 s
  | .FADDq rd rs1 rs2 => Sys2Proof.Machine.execFADDq rd rs1 rs2 s
  | .FSUBs rd rs1 rs2 => Sys2Proof.Machine.execFSUBs rd rs1 rs2 s
  | .FSUBd rd rs1 rs2 => Sys2Proof.Machine.execFSUBd rd rs1 rs2 s
  | .FSUBq rd rs1 rs2 => Sys2Proof.Machine.execFSUBq rd rs1 rs2 s
  | .FMULs rd rs1 rs2 => Sys2Proof.Machine.execFMULs rd rs1 rs2 s
  | .FMULd rd rs1 rs2 => Sys2Proof.Machine.execFMULd rd rs1 rs2 s
  | .FMULq rd rs1 rs2 => Sys2Proof.Machine.execFMULq rd rs1 rs2 s
  | .FDIVs rd rs1 rs2 => Sys2Proof.Machine.execFDIVs rd rs1 rs2 s
  | .FDIVd rd rs1 rs2 => Sys2Proof.Machine.execFDIVd rd rs1 rs2 s
  | .FDIVq rd rs1 rs2 => Sys2Proof.Machine.execFDIVq rd rs1 rs2 s
  | .FNADDs rd rs1 rs2 => Sys2Proof.Machine.execFNADDs rd rs1 rs2 s
  | .FNADDd rd rs1 rs2 => Sys2Proof.Machine.execFNADDd rd rs1 rs2 s
  | .FNMULs rd rs1 rs2 => Sys2Proof.Machine.execFNMULs rd rs1 rs2 s
  | .FNMULd rd rs1 rs2 => Sys2Proof.Machine.execFNMULd rd rs1 rs2 s
  | .FHADDs rd rs1 rs2 => Sys2Proof.Machine.execFHADDs rd rs1 rs2 s
  | .FHADDd rd rs1 rs2 => Sys2Proof.Machine.execFHADDd rd rs1 rs2 s
  | .FHSUBs rd rs1 rs2 => Sys2Proof.Machine.execFHSUBs rd rs1 rs2 s
  | .FHSUBd rd rs1 rs2 => Sys2Proof.Machine.execFHSUBd rd rs1 rs2 s
  | .FsMULd rd rs1 rs2 => Sys2Proof.Machine.execFsMULd rd rs1 rs2 s
  | .FdMULq rd rs1 rs2 => Sys2Proof.Machine.execFdMULq rd rs1 rs2 s
  | .FNHADDs rd rs1 rs2 => Sys2Proof.Machine.execFNHADDs rd rs1 rs2 s
  | .FNHADDd rd rs1 rs2 => Sys2Proof.Machine.execFNHADDd rd rs1 rs2 s
  | .FNsMULd rd rs1 rs2 => Sys2Proof.Machine.execFNsMULd rd rs1 rs2 s
  | .FsTOx rd rs2 => Sys2Proof.Machine.execFsTOx rd rs2 s
  | .FdTOx rd rs2 => Sys2Proof.Machine.execFdTOx rd rs2 s
  | .FqTOx rd rs2 => Sys2Proof.Machine.execFqTOx rd rs2 s
  | .FxTOs rd rs2 => Sys2Proof.Machine.execFxTOs rd rs2 s
  | .FxTOd rd rs2 => Sys2Proof.Machine.execFxTOd rd rs2 s
  | .FxTOq rd rs2 => Sys2Proof.Machine.execFxTOq rd rs2 s
  | .FiTOs rd rs2 => Sys2Proof.Machine.execFiTOs rd rs2 s
  | .FdTOs rd rs2 => Sys2Proof.Machine.execFdTOs rd rs2 s
  | .FqTOs rd rs2 => Sys2Proof.Machine.execFqTOs rd rs2 s
  | .FiTOd rd rs2 => Sys2Proof.Machine.execFiTOd rd rs2 s
  | .FsTOd rd rs2 => Sys2Proof.Machine.execFsTOd rd rs2 s
  | .FqTOd rd rs2 => Sys2Proof.Machine.execFqTOd rd rs2 s
  | .FiTOq rd rs2 => Sys2Proof.Machine.execFiTOq rd rs2 s
  | .FsTOq rd rs2 => Sys2Proof.Machine.execFsTOq rd rs2 s
  | .FdTOq rd rs2 => Sys2Proof.Machine.execFdTOq rd rs2 s
  | .FsTOi rd rs2 => Sys2Proof.Machine.execFsTOi rd rs2 s
  | .FdTOi rd rs2 => Sys2Proof.Machine.execFdTOi rd rs2 s
  | .FqTOi rd rs2 => Sys2Proof.Machine.execFqTOi rd rs2 s
  | .FMOVSfcc0 rd cond rs2 => Sys2Proof.Machine.execFMOVSfcc0 rd cond rs2 s
  | .FMOVDfcc0 rd cond rs2 => Sys2Proof.Machine.execFMOVDfcc0 rd cond rs2 s
  | .FMOVQfcc0 rd cond rs2 => Sys2Proof.Machine.execFMOVQfcc0 rd cond rs2 s
  | .FMOVSfcc1 rd cond rs2 => Sys2Proof.Machine.execFMOVSfcc1 rd cond rs2 s
  | .FMOVDfcc1 rd cond rs2 => Sys2Proof.Machine.execFMOVDfcc1 rd cond rs2 s
  | .FMOVQfcc1 rd cond rs2 => Sys2Proof.Machine.execFMOVQfcc1 rd cond rs2 s
  | .FMOVSfcc2 rd cond rs2 => Sys2Proof.Machine.execFMOVSfcc2 rd cond rs2 s
  | .FMOVDfcc2 rd cond rs2 => Sys2Proof.Machine.execFMOVDfcc2 rd cond rs2 s
  | .FMOVQfcc2 rd cond rs2 => Sys2Proof.Machine.execFMOVQfcc2 rd cond rs2 s
  | .FMOVSfcc3 rd cond rs2 => Sys2Proof.Machine.execFMOVSfcc3 rd cond rs2 s
  | .FMOVDfcc3 rd cond rs2 => Sys2Proof.Machine.execFMOVDfcc3 rd cond rs2 s
  | .FMOVQfcc3 rd cond rs2 => Sys2Proof.Machine.execFMOVQfcc3 rd cond rs2 s
  | .FMOVSicc rd cond rs2 => Sys2Proof.Machine.execFMOVSicc rd cond rs2 s
  | .FMOVDicc rd cond rs2 => Sys2Proof.Machine.execFMOVDicc rd cond rs2 s
  | .FMOVQicc rd cond rs2 => Sys2Proof.Machine.execFMOVQicc rd cond rs2 s
  | .FMOVSxcc rd cond rs2 => Sys2Proof.Machine.execFMOVSxcc rd cond rs2 s
  | .FMOVDxcc rd cond rs2 => Sys2Proof.Machine.execFMOVDxcc rd cond rs2 s
  | .FMOVQxcc rd cond rs2 => Sys2Proof.Machine.execFMOVQxcc rd cond rs2 s
  | .FCMPs cc rs1 rs2 => Sys2Proof.Machine.execFCMPs cc rs1 rs2 s
  | .FCMPd cc rs1 rs2 => Sys2Proof.Machine.execFCMPd cc rs1 rs2 s
  | .FCMPq cc rs1 rs2 => Sys2Proof.Machine.execFCMPq cc rs1 rs2 s
  | .FCMPEs cc rs1 rs2 => Sys2Proof.Machine.execFCMPEs cc rs1 rs2 s
  | .FCMPEd cc rs1 rs2 => Sys2Proof.Machine.execFCMPEd cc rs1 rs2 s
  | .FCMPEq cc rs1 rs2 => Sys2Proof.Machine.execFCMPEq cc rs1 rs2 s
  | .FMOVRsZ rd rs1 rs2 => Sys2Proof.Machine.execFMOVRsZ rd rs1 rs2 s
  | .FMOVRdZ rd rs1 rs2 => Sys2Proof.Machine.execFMOVRdZ rd rs1 rs2 s
  | .FMOVRqZ rd rs1 rs2 => Sys2Proof.Machine.execFMOVRqZ rd rs1 rs2 s
  | .FMOVRsLEZ rd rs1 rs2 => Sys2Proof.Machine.execFMOVRsLEZ rd rs1 rs2 s
  | .FMOVRdLEZ rd rs1 rs2 => Sys2Proof.Machine.execFMOVRdLEZ rd rs1 rs2 s
  | .FMOVRqLEZ rd rs1 rs2 => Sys2Proof.Machine.execFMOVRqLEZ rd rs1 rs2 s
  | .FMOVRsLZ rd rs1 rs2 => Sys2Proof.Machine.execFMOVRsLZ rd rs1 rs2 s
  | .FMOVRdLZ rd rs1 rs2 => Sys2Proof.Machine.execFMOVRdLZ rd rs1 rs2 s
  | .FMOVRqLZ rd rs1 rs2 => Sys2Proof.Machine.execFMOVRqLZ rd rs1 rs2 s
  | .FMOVRsNZ rd rs1 rs2 => Sys2Proof.Machine.execFMOVRsNZ rd rs1 rs2 s
  | .FMOVRdNZ rd rs1 rs2 => Sys2Proof.Machine.execFMOVRdNZ rd rs1 rs2 s
  | .FMOVRqNZ rd rs1 rs2 => Sys2Proof.Machine.execFMOVRqNZ rd rs1 rs2 s
  | .FMOVRsGZ rd rs1 rs2 => Sys2Proof.Machine.execFMOVRsGZ rd rs1 rs2 s
  | .FMOVRdGZ rd rs1 rs2 => Sys2Proof.Machine.execFMOVRdGZ rd rs1 rs2 s
  | .FMOVRqGZ rd rs1 rs2 => Sys2Proof.Machine.execFMOVRqGZ rd rs1 rs2 s
  | .FMOVRsGEZ rd rs1 rs2 => Sys2Proof.Machine.execFMOVRsGEZ rd rs1 rs2 s
  | .FMOVRdGEZ rd rs1 rs2 => Sys2Proof.Machine.execFMOVRdGEZ rd rs1 rs2 s
  | .FMOVRqGEZ rd rs1 rs2 => Sys2Proof.Machine.execFMOVRqGEZ rd rs1 rs2 s
  | .FLCMPs cc rs1 rs2 => Sys2Proof.Machine.execFLCMPs cc rs1 rs2 s
  | .FLCMPd cc rs1 rs2 => Sys2Proof.Machine.execFLCMPd cc rs1 rs2 s
  | .FMADDs rd rs1 rs2 rs3 => Sys2Proof.Machine.execFMADDs rd rs1 rs2 rs3 s
  | .FMADDd rd rs1 rs2 rs3 => Sys2Proof.Machine.execFMADDd rd rs1 rs2 rs3 s
  | .FMSUBs rd rs1 rs2 rs3 => Sys2Proof.Machine.execFMSUBs rd rs1 rs2 rs3 s
  | .FMSUBd rd rs1 rs2 rs3 => Sys2Proof.Machine.execFMSUBd rd rs1 rs2 rs3 s
  | .FNMSUBs rd rs1 rs2 rs3 => Sys2Proof.Machine.execFNMSUBs rd rs1 rs2 rs3 s
  | .FNMSUBd rd rs1 rs2 rs3 => Sys2Proof.Machine.execFNMSUBd rd rs1 rs2 rs3 s
  | .FNMADDs rd rs1 rs2 rs3 => Sys2Proof.Machine.execFNMADDs rd rs1 rs2 rs3 s
  | .FNMADDd rd rs1 rs2 rs3 => Sys2Proof.Machine.execFNMADDd rd rs1 rs2 rs3 s
  | .EDGE8cc rd rs1 rs2 => Sys2Proof.Machine.execEDGE8cc rd rs1 rs2 s
  | .EDGE8N rd rs1 rs2 => Sys2Proof.Machine.execEDGE8N rd rs1 rs2 s
  | .EDGE8Lcc rd rs1 rs2 => Sys2Proof.Machine.execEDGE8Lcc rd rs1 rs2 s
  | .EDGE8LN rd rs1 rs2 => Sys2Proof.Machine.execEDGE8LN rd rs1 rs2 s
  | .EDGE16cc rd rs1 rs2 => Sys2Proof.Machine.execEDGE16cc rd rs1 rs2 s
  | .EDGE16N rd rs1 rs2 => Sys2Proof.Machine.execEDGE16N rd rs1 rs2 s
  | .EDGE16Lcc rd rs1 rs2 => Sys2Proof.Machine.execEDGE16Lcc rd rs1 rs2 s
  | .EDGE16LN rd rs1 rs2 => Sys2Proof.Machine.execEDGE16LN rd rs1 rs2 s
  | .EDGE32cc rd rs1 rs2 => Sys2Proof.Machine.execEDGE32cc rd rs1 rs2 s
  | .EDGE32N rd rs1 rs2 => Sys2Proof.Machine.execEDGE32N rd rs1 rs2 s
  | .EDGE32Lcc rd rs1 rs2 => Sys2Proof.Machine.execEDGE32Lcc rd rs1 rs2 s
  | .EDGE32LN rd rs1 rs2 => Sys2Proof.Machine.execEDGE32LN rd rs1 rs2 s
  | .ARRAY8 rd rs1 rs2 => Sys2Proof.Machine.execARRAY8 rd rs1 rs2 s
  | .ARRAY16 rd rs1 rs2 => Sys2Proof.Machine.execARRAY16 rd rs1 rs2 s
  | .ARRAY32 rd rs1 rs2 => Sys2Proof.Machine.execARRAY32 rd rs1 rs2 s
  | .ALIGNADDRESS rd rs1 rs2 => Sys2Proof.Machine.execALIGNADDRESS rd rs1 rs2 s
  | .BMASK rd rs1 rs2 => Sys2Proof.Machine.execBMASK rd rs1 rs2 s
  | .ALIGNADDRESS_LITTLE rd rs1 rs2 => Sys2Proof.Machine.execALIGNADDRESS_LITTLE rd rs1 rs2 s
  | .CMASK8 rs2 => Sys2Proof.Machine.execCMASK8 rs2 s
  | .CMASK16 rs2 => Sys2Proof.Machine.execCMASK16 rs2 s
  | .CMASK32 rs2 => Sys2Proof.Machine.execCMASK32 rs2 s
  | .FPCMPLE16 rd rs1 rs2 => Sys2Proof.Machine.execFPCMPLE16 rd rs1 rs2 s
  | .FSLL16 rd rs1 rs2 => Sys2Proof.Machine.execFSLL16 rd rs1 rs2 s
  | .FPCMPNE16 rd rs1 rs2 => Sys2Proof.Machine.execFPCMPNE16 rd rs1 rs2 s
  | .FSRL16 rd rs1 rs2 => Sys2Proof.Machine.execFSRL16 rd rs1 rs2 s
  | .FPCMPLE32 rd rs1 rs2 => Sys2Proof.Machine.execFPCMPLE32 rd rs1 rs2 s
  | .FSLL32 rd rs1 rs2 => Sys2Proof.Machine.execFSLL32 rd rs1 rs2 s
  | .FPCMPNE32 rd rs1 rs2 => Sys2Proof.Machine.execFPCMPNE32 rd rs1 rs2 s
  | .FSRL32 rd rs1 rs2 => Sys2Proof.Machine.execFSRL32 rd rs1 rs2 s
  | .FPCMPGT16 rd rs1 rs2 => Sys2Proof.Machine.execFPCMPGT16 rd rs1 rs2 s
  | .FSLAS16 rd rs1 rs2 => Sys2Proof.Machine.execFSLAS16 rd rs1 rs2 s
  | .FPCMPEQ16 rd rs1 rs2 => Sys2Proof.Machine.execFPCMPEQ16 rd rs1 rs2 s
  | .FSRA16 rd rs1 rs2 => Sys2Proof.Machine.execFSRA16 rd rs1 rs2 s
  | .FPCMPGT32 rd rs1 rs2 => Sys2Proof.Machine.execFPCMPGT32 rd rs1 rs2 s
  | .FSLAS32 rd rs1 rs2 => Sys2Proof.Machine.execFSLAS32 rd rs1 rs2 s
  | .FPCMPEQ32 rd rs1 rs2 => Sys2Proof.Machine.execFPCMPEQ32 rd rs1 rs2 s
  | .FSRA32 rd rs1 rs2 => Sys2Proof.Machine.execFSRA32 rd rs1 rs2 s
  | .FMUL8x16 rd rs1 rs2 => Sys2Proof.Machine.execFMUL8x16 rd rs1 rs2 s
  | .FMUL8x16AU rd rs1 rs2 => Sys2Proof.Machine.execFMUL8x16AU rd rs1 rs2 s
  | .FPCMPLE8 rd rs1 rs2 => Sys2Proof.Machine.execFPCMPLE8 rd rs1 rs2 s
  | .FMUL8x16AL rd rs1 rs2 => Sys2Proof.Machine.execFMUL8x16AL rd rs1 rs2 s
  | .FMUL8SUx16 rd rs1 rs2 => Sys2Proof.Machine.execFMUL8SUx16 rd rs1 rs2 s
  | .FMUL8ULx16 rd rs1 rs2 => Sys2Proof.Machine.execFMUL8ULx16 rd rs1 rs2 s
  | .FMULD8SUx16 rd rs1 rs2 => Sys2Proof.Machine.execFMULD8SUx16 rd rs1 rs2 s
  | .FMULD8ULx16 rd rs1 rs2 => Sys2Proof.Machine.execFMULD8ULx16 rd rs1 rs2 s
  | .FPACK32 rd rs1 rs2 => Sys2Proof.Machine.execFPACK32 rd rs1 rs2 s
  | .FPACK16 rd rs2 => Sys2Proof.Machine.execFPACK16 rd rs2 s
  | .FPCMPGT8 rd rs1 rs2 => Sys2Proof.Machine.execFPCMPGT8 rd rs1 rs2 s
  | .FPACKFIX rd rs2 => Sys2Proof.Machine.execFPACKFIX rd rs2 s
  | .PDIST rd rs1 rs2 => Sys2Proof.Machine.execPDIST rd rs1 rs2 s
  | .PDISTN rd rs1 rs2 => Sys2Proof.Machine.execPDISTN rd rs1 rs2 s
  | .FMEAN16 rd rs1 rs2 => Sys2Proof.Machine.execFMEAN16 rd rs1 rs2 s
  | .FPADD64 rd rs1 rs2 => Sys2Proof.Machine.execFPADD64 rd rs1 rs2 s
  | .FCHKSM16 rd rs1 rs2 => Sys2Proof.Machine.execFCHKSM16 rd rs1 rs2 s
  | .FPSUB64 rd rs1 rs2 => Sys2Proof.Machine.execFPSUB64 rd rs1 rs2 s
  | .FALIGNDATAg rd rs1 rs2 => Sys2Proof.Machine.execFALIGNDATAg rd rs1 rs2 s
  | .FALIGNDATAi rd rs1 rs2 => Sys2Proof.Machine.execFALIGNDATAi rd rs1 rs2 s
  | .FPMERGE rd rs1 rs2 => Sys2Proof.Machine.execFPMERGE rd rs1 rs2 s
  | .BSHUFFLE rd rs1 rs2 => Sys2Proof.Machine.execBSHUFFLE rd rs1 rs2 s
  | .FEXPAND rd rs2 => Sys2Proof.Machine.execFEXPAND rd rs2 s
  | .FPADD16 rd rs1 rs2 => Sys2Proof.Machine.execFPADD16 rd rs1 rs2 s
  | .FPADD16s rd rs1 rs2 => Sys2Proof.Machine.execFPADD16s rd rs1 rs2 s
  | .FPADD32 rd rs1 rs2 => Sys2Proof.Machine.execFPADD32 rd rs1 rs2 s
  | .FPADD32s rd rs1 rs2 => Sys2Proof.Machine.execFPADD32s rd rs1 rs2 s
  | .FPSUB16 rd rs1 rs2 => Sys2Proof.Machine.execFPSUB16 rd rs1 rs2 s
  | .FPSUB16s rd rs1 rs2 => Sys2Proof.Machine.execFPSUB16s rd rs1 rs2 s
  | .FPSUB32 rd rs1 rs2 => Sys2Proof.Machine.execFPSUB32 rd rs1 rs2 s
  | .FPSUB32s rd rs1 rs2 => Sys2Proof.Machine.execFPSUB32s rd rs1 rs2 s
  | .FPADDS16 rd rs1 rs2 => Sys2Proof.Machine.execFPADDS16 rd rs1 rs2 s
  | .FPADDS16s rd rs1 rs2 => Sys2Proof.Machine.execFPADDS16s rd rs1 rs2 s
  | .FPADDS32 rd rs1 rs2 => Sys2Proof.Machine.execFPADDS32 rd rs1 rs2 s
  | .FPADDS32s rd rs1 rs2 => Sys2Proof.Machine.execFPADDS32s rd rs1 rs2 s
  | .FPSUBS16 rd rs1 rs2 => Sys2Proof.Machine.execFPSUBS16 rd rs1 rs2 s
  | .FPSUBS16s rd rs1 rs2 => Sys2Proof.Machine.execFPSUBS16s rd rs1 rs2 s
  | .FPSUBS32 rd rs1 rs2 => Sys2Proof.Machine.execFPSUBS32 rd rs1 rs2 s
  | .FPSUBS32s rd rs1 rs2 => Sys2Proof.Machine.execFPSUBS32s rd rs1 rs2 s
  | .FZEROd rd => Sys2Proof.Machine.execFZEROd rd s
  | .FZEROs rd => Sys2Proof.Machine.execFZEROs rd s
  | .FNORd rd rs1 rs2 => Sys2Proof.Machine.execFNORd rd rs1 rs2 s
  | .FNORs rd rs1 rs2 => Sys2Proof.Machine.execFNORs rd rs1 rs2 s
  | .FANDNOT2d rd rs1 rs2 => Sys2Proof.Machine.execFANDNOT2d rd rs1 rs2 s
  | .FANDNOT2s rd rs1 rs2 => Sys2Proof.Machine.execFANDNOT2s rd rs1 rs2 s
  | .FNOT2d rd rs2 => Sys2Proof.Machine.execFNOT2d rd rs2 s
  | .FNOT2s rd rs2 => Sys2Proof.Machine.execFNOT2s rd rs2 s
  | .FANDNOT1d rd rs1 rs2 => Sys2Proof.Machine.execFANDNOT1d rd rs1 rs2 s
  | .FANDNOT1s rd rs1 rs2 => Sys2Proof.Machine.execFANDNOT1s rd rs1 rs2 s
  | .FNOT1d rd rs1 => Sys2Proof.Machine.execFNOT1d rd rs1 s
  | .FNOT1s rd rs1 => Sys2Proof.Machine.execFNOT1s rd rs1 s
  | .FXORd rd rs1 rs2 => Sys2Proof.Machine.execFXORd rd rs1 rs2 s
  | .FXORs rd rs1 rs2 => Sys2Proof.Machine.execFXORs rd rs1 rs2 s
  | .FNANDd rd rs1 rs2 => Sys2Proof.Machine.execFNANDd rd rs1 rs2 s
  | .FNANDs rd rs1 rs2 => Sys2Proof.Machine.execFNANDs rd rs1 rs2 s
  | .FANDd rd rs1 rs2 => Sys2Proof.Machine.execFANDd rd rs1 rs2 s
  | .FANDs rd rs1 rs2 => Sys2Proof.Machine.execFANDs rd rs1 rs2 s
  | .FXNORd rd rs1 rs2 => Sys2Proof.Machine.execFXNORd rd rs1 rs2 s
  | .FXNORs rd rs1 rs2 => Sys2Proof.Machine.execFXNORs rd rs1 rs2 s
  | .FSRC1d rd rs1 => Sys2Proof.Machine.execFSRC1d rd rs1 s
  | .FSRC1s rd rs1 => Sys2Proof.Machine.execFSRC1s rd rs1 s
  | .FORNOT2d rd rs1 rs2 => Sys2Proof.Machine.execFORNOT2d rd rs1 rs2 s
  | .FORNOT2s rd rs1 rs2 => Sys2Proof.Machine.execFORNOT2s rd rs1 rs2 s
  | .FSRC2d rd rs2 => Sys2Proof.Machine.execFSRC2d rd rs2 s
  | .FSRC2s rd rs2 => Sys2Proof.Machine.execFSRC2s rd rs2 s
  | .FORNOT1d rd rs1 rs2 => Sys2Proof.Machine.execFORNOT1d rd rs1 rs2 s
  | .FORNOT1s rd rs1 rs2 => Sys2Proof.Machine.execFORNOT1s rd rs1 rs2 s
  | .FORd rd rs1 rs2 => Sys2Proof.Machine.execFORd rd rs1 rs2 s
  | .FORs rd rs1 rs2 => Sys2Proof.Machine.execFORs rd rs1 rs2 s
  | .FONEd rd => Sys2Proof.Machine.execFONEd rd s
  | .FONEs rd => Sys2Proof.Machine.execFONEs rd s
  | .MOVdTOx rd rs2 => Sys2Proof.Machine.execMOVdTOx rd rs2 s
  | .MOVsTOuw rd rs2 => Sys2Proof.Machine.execMOVsTOuw rd rs2 s
  | .MOVsTOsw rd rs2 => Sys2Proof.Machine.execMOVsTOsw rd rs2 s
  | .MOVxTOd rd rs2 => Sys2Proof.Machine.execMOVxTOd rd rs2 s
  | .MOVwTOs rd rs2 => Sys2Proof.Machine.execMOVwTOs rd rs2 s
  | .FPMIN8 rd rs1 rs2 => Sys2Proof.Machine.execFPMIN8 rd rs1 rs2 s
  | .FPMIN16 rd rs1 rs2 => Sys2Proof.Machine.execFPMIN16 rd rs1 rs2 s
  | .FPMIN32 rd rs1 rs2 => Sys2Proof.Machine.execFPMIN32 rd rs1 rs2 s
  | .FPMAX8 rd rs1 rs2 => Sys2Proof.Machine.execFPMAX8 rd rs1 rs2 s
  | .FPMAX16 rd rs1 rs2 => Sys2Proof.Machine.execFPMAX16 rd rs1 rs2 s
  | .FPMAX32 rd rs1 rs2 => Sys2Proof.Machine.execFPMAX32 rd rs1 rs2 s
  | .FPCMPULE8 rd rs1 rs2 => Sys2Proof.Machine.execFPCMPULE8 rd rs1 rs2 s
  | .FPCMPNE8 rd rs1 rs2 => Sys2Proof.Machine.execFPCMPNE8 rd rs1 rs2 s
  | .FPADDUS16 rd rs1 rs2 => Sys2Proof.Machine.execFPADDUS16 rd rs1 rs2 s
  | .FPADD8 rd rs1 rs2 => Sys2Proof.Machine.execFPADD8 rd rs1 rs2 s
  | .FPADDS8 rd rs1 rs2 => Sys2Proof.Machine.execFPADDS8 rd rs1 rs2 s
  | .FPADDUS8 rd rs1 rs2 => Sys2Proof.Machine.execFPADDUS8 rd rs1 rs2 s
  | .FPCMPUGT8 rd rs1 rs2 => Sys2Proof.Machine.execFPCMPUGT8 rd rs1 rs2 s
  | .FPCMPEQ8 rd rs1 rs2 => Sys2Proof.Machine.execFPCMPEQ8 rd rs1 rs2 s
  | .FPCMPUGT16 rd rs1 rs2 => Sys2Proof.Machine.execFPCMPUGT16 rd rs1 rs2 s
  | .FPCMPUGT32 rd rs1 rs2 => Sys2Proof.Machine.execFPCMPUGT32 rd rs1 rs2 s
  | .FPCMPULE16 rd rs1 rs2 => Sys2Proof.Machine.execFPCMPULE16 rd rs1 rs2 s
  | .FPCMPULE32 rd rs1 rs2 => Sys2Proof.Machine.execFPCMPULE32 rd rs1 rs2 s
  | .FPSUBUS16 rd rs1 rs2 => Sys2Proof.Machine.execFPSUBUS16 rd rs1 rs2 s
  | .FPSUB8 rd rs1 rs2 => Sys2Proof.Machine.execFPSUB8 rd rs1 rs2 s
  | .FPSUBS8 rd rs1 rs2 => Sys2Proof.Machine.execFPSUBS8 rd rs1 rs2 s
  | .FPSUBUS8 rd rs1 rs2 => Sys2Proof.Machine.execFPSUBUS8 rd rs1 rs2 s
  | .FPMINU8 rd rs1 rs2 => Sys2Proof.Machine.execFPMINU8 rd rs1 rs2 s
  | .FPMINU16 rd rs1 rs2 => Sys2Proof.Machine.execFPMINU16 rd rs1 rs2 s
  | .FPMINU32 rd rs1 rs2 => Sys2Proof.Machine.execFPMINU32 rd rs1 rs2 s
  | .FPMAXU8 rd rs1 rs2 => Sys2Proof.Machine.execFPMAXU8 rd rs1 rs2 s
  | .FPMAXU16 rd rs1 rs2 => Sys2Proof.Machine.execFPMAXU16 rd rs1 rs2 s
  | .FPMAXU32 rd rs1 rs2 => Sys2Proof.Machine.execFPMAXU32 rd rs1 rs2 s
  | .FPMADDX rd rs1 rs2 rs3 => Sys2Proof.Machine.execFPMADDX rd rs1 rs2 rs3 s
  | .FPMADDXHI rd rs1 rs2 rs3 => Sys2Proof.Machine.execFPMADDXHI rd rs1 rs2 rs3 s
  | .AES_KEXPAND0 rd rs1 rs2 => Sys2Proof.Machine.execAES_KEXPAND0 rd rs1 rs2 s
  | .AES_KEXPAND2 rd rs1 rs2 => Sys2Proof.Machine.execAES_KEXPAND2 rd rs1 rs2 s
  | .DES_IP rd rs1 => Sys2Proof.Machine.execDES_IP rd rs1 s
  | .DES_IIP rd rs1 => Sys2Proof.Machine.execDES_IIP rd rs1 s
  | .DES_KEXPAND rd rs1 imm5 => Sys2Proof.Machine.execDES_KEXPAND rd rs1 imm5 s
  | .CAMELLIA_FL rd rs1 rs2 => Sys2Proof.Machine.execCAMELLIA_FL rd rs1 rs2 s
  | .CAMELLIA_FLI rd rs1 rs2 => Sys2Proof.Machine.execCAMELLIA_FLI rd rs1 rs2 s
  | .MD5 => Sys2Proof.Machine.execMD5 s
  | .SHA1 => Sys2Proof.Machine.execSHA1 s
  | .SHA256 => Sys2Proof.Machine.execSHA256 s
  | .SHA512 => Sys2Proof.Machine.execSHA512 s
  | .CRC32C rd rs1 rs2 => Sys2Proof.Machine.execCRC32C rd rs1 rs2 s
  | .MPMUL imm5 => Sys2Proof.Machine.execMPMUL imm5 s
  | .XMPMUL imm5 => Sys2Proof.Machine.execXMPMUL imm5 s
  | .MONTMUL imm5 => Sys2Proof.Machine.execMONTMUL imm5 s
  | .XMONTMUL imm5 => Sys2Proof.Machine.execXMONTMUL imm5 s
  | .MONTSQR imm5 => Sys2Proof.Machine.execMONTSQR imm5 s
  | .XMONTSQR imm5 => Sys2Proof.Machine.execXMONTSQR imm5 s
  | .AES_EROUND01 rd rs1 rs2 rs3 => Sys2Proof.Machine.execAES_EROUND01 rd rs1 rs2 rs3 s
  | .AES_EROUND23 rd rs1 rs2 rs3 => Sys2Proof.Machine.execAES_EROUND23 rd rs1 rs2 rs3 s
  | .AES_DROUND01 rd rs1 rs2 rs3 => Sys2Proof.Machine.execAES_DROUND01 rd rs1 rs2 rs3 s
  | .AES_DROUND23 rd rs1 rs2 rs3 => Sys2Proof.Machine.execAES_DROUND23 rd rs1 rs2 rs3 s
  | .AES_EROUND01_LAST rd rs1 rs2 rs3 => Sys2Proof.Machine.execAES_EROUND01_LAST rd rs1 rs2 rs3 s
  | .AES_EROUND23_LAST rd rs1 rs2 rs3 => Sys2Proof.Machine.execAES_EROUND23_LAST rd rs1 rs2 rs3 s
  | .AES_DROUND01_LAST rd rs1 rs2 rs3 => Sys2Proof.Machine.execAES_DROUND01_LAST rd rs1 rs2 rs3 s
  | .AES_DROUND23_LAST rd rs1 rs2 rs3 => Sys2Proof.Machine.execAES_DROUND23_LAST rd rs1 rs2 rs3 s
  | .DES_ROUND rd rs1 rs2 rs3 => Sys2Proof.Machine.execDES_ROUND rd rs1 rs2 rs3 s
  | .CAMELLIA_F rd rs1 rs2 rs3 => Sys2Proof.Machine.execCAMELLIA_F rd rs1 rs2 rs3 s
  | .AES_KEXPAND1 rd rs1 rs2 imm5 => Sys2Proof.Machine.execAES_KEXPAND1 rd rs1 rs2 imm5 s

end Sys2Proof.Machine
end

