-- ==== Sys2Proof/Machine/Execute.lean ====
section
/-!
DEFINITION. One execution at an instruction boundary: fetch, decode, execute (R92, R107, R108), and the choice
between the exceptions of the instruction at PC and the pending disrupting traps (R453). The decoder is
noncomputable, because its tables are too large for Lean's compiler; the kernel evaluates it.
-/

namespace Sys2Proof.Machine

open Sys2Proof

/-- The word is of an instruction that this implementation leaves to software (OPTIONAL_INSNS, R132). -/
def emulated (par : Config.Params) (w : Word32) : Bool := par.emulated.any fun p => w &&& p.mask == p.value

/-- The exception of an instruction that is left to software, in place of every other (R132, R463). -/
def emulationTrap : Instr → Exc
  | .LDTW _ _ _ | .LDTWA _ _ _ => .unimplementedLdtw
  | .STTW _ _ _ | .STTWA _ _ _ => .unimplementedSttw
  | _ => .illegalInstruction

/-- The implementation-dependent ASR that a RDasr reads, when IMPL_ASRS says that it exists (R4, R29, D8): bits 13:0 of
the word are 0 (R295). -/
def readsImplAsr (par : Config.Params) (w : Word32) : Option Config.ImplAsr :=
  if field w 30 2 = 2 ∧ field w 19 6 = 0x28 ∧ field w 0 14 = 0 then
    par.implAsrs.find? fun x => x.number == field w 14 5 && decide (x.number ∈ [16, 17, 18, 28, 29, 30, 31])
  else none

/-- The implementation-dependent ASR that a WRasr writes, when IMPL_ASRS says that it exists (R4, R29, D8): with i = 0
bits 12:5 of the word are 0 (R298). ASR 28 is WRMWAIT. -/
def writesImplAsr (par : Config.Params) (w : Word32) : Option Config.ImplAsr :=
  if field w 30 2 = 2 ∧ field w 19 6 = 0x30 ∧ (bit w 13 = true ∨ field w 5 8 = 0) then
    par.implAsrs.find? fun x => x.number == field w 25 5 && decide (x.number ∈ [16, 17, 18, 29, 30, 31])
  else none

/-- The word is WRPR %tick, its reserved bits zero (R299). -/
def namesWrprTick (w : Word32) : Bool :=
  field w 30 2 == 2 && field w 25 5 == 4 && field w 19 6 == 0x32 && (bit w 13 || field w 5 8 == 0)

/-- WRPR %tick raises illegal_instruction in nonprivileged mode, by the order of R299, and not privileged_opcode, by
R33: what the parameter says, and where it says nothing, as at reset, a free choice (log entry 40). -/
def wrprTickIllegal (s : State) : Bool := s.par.wrprTickIllegal.getD Config.wrprTickOpen

/-- The exception of a word that decodes to no instruction (R107): illegal_instruction, but for WRPR %tick in
nonprivileged mode where the implementation raises privileged_opcode (R33, R299). -/
def undecodedTrap (s : State) (w : Word32) : Exc :=
  if namesWrprTick w && !s.pstate.priv && !wrprTickIllegal s then .privilegedOpcode else .illegalInstruction

/-- The use of an implementation-dependent ASR, which leaves `t`: a privileged one needs privileged mode (#9-V8-Cs20).
-/
def useImplAsr (s t : State) (x : Config.ImplAsr) : Out :=
  finish s do
    require (!x.privileged || s.pstate.priv) .privilegedOpcode
    .ok (advance t)

/-- The outcome of a word that decodes to no instruction. A read of an implementation-dependent ASR that exists gives a
free value, and a write has no other effect (#47-V8-Cs20, #48-V8-Cs20, D8, log entry 28); any other such word raises an
exception (R107). -/
def undecoded (s : State) (w : Word32) : Out :=
  match readsImplAsr s.par w, writesImplAsr s.par w with
  | some x, _ => useImplAsr s (openR s 8 unsignedBytes (field w 25 5)) x
  | none, some x => useImplAsr s s x
  | none, none => takeTrap (undecodedTrap s w) s

/-- Fetch and execute the instruction at PC. An undefined or reserved word is an illegal instruction (R107), and one
left to software traps (R132). -/
noncomputable def attempt (s : State) : Out :=
  match fetch s with
  | .error e => finish s (.error e)
  | .ok w =>
    match decode w with
    | none => undecoded s w
    | some i => if emulated s.par w then takeTrap (emulationTrap i) s else exec i s

/-- Whether an instruction writes TL itself, without a trap: WRPR %tl in privileged mode. -/
def writesTl (s : State) : Instr → Bool
  | .WRPR_TL _ _ => s.pstate.priv
  | _ => false

/-- Whether executing an instruction took a trap: the terminal event, or a higher trap level. -/
def tookTrap (s : State) : Out → Bool
  | .fault (.hyperprivilegedTrap _ _ _) => true
  | .next t => decide (s.tl.val < t.tl.val)
  | _ => false

/-- Whether the instruction at PC raises a precise exception (R453 candidates (a)). -/
noncomputable def raises (s : State) : Bool :=
  match fetch s with
  | .error (.trap _) => true
  | .error _ => false
  | .ok w =>
    match decode w with
    | none => tookTrap s (undecoded s w)
    | some i => emulated s.par w || (!writesTl s i && tookTrap s (exec i s))

/-- The strand at an instruction boundary (R453): a precise exception of the instruction at PC, else the pending
disrupting trap of the highest priority, else the instruction. A suspended strand does nothing, and an unmasked
disrupting request ends its suspension (R43, R44). A pending trap is taken after a free number of further boundaries,
which execute their instructions (R453, R497). -/
noncomputable def boundary (s : State) : Out :=
  match pendingTrap s with
  | none => if suspended s then .next s else attempt s
  | some e =>
    let t := awaiting s
    match t.trapDelay with
    | some (delay + 1) => attempt { t with trapDelay := some delay }
    | _ => if raises t then attempt t else takeTrap e { t with trapDelay := none }

/-- Nonprivileged mode with TL > 0 is undefined (R60, R450): the strand is stuck. -/
def undefinedMode (s : State) : Bool := !s.pstate.priv && decide (0 < s.tl.val)

end Sys2Proof.Machine
end

