-- ==== Sys2Proof/Machine/Step.lean ====
section
/-!
DEFINITION. The step: what happens at one instruction boundary, and after it the environment (R497).
-/

namespace Sys2Proof.Machine

open Sys2Proof

/-- One step of the machine. -/
noncomputable def step (s : State) : Host.Outcome State Fault Refusal :=
  if undefinedMode s then .fault .nonprivilegedAtTrapLevel
  else
    match boundary s with
    | .next t => .next (elapse t)
    | .fault f => .fault f
    | .refused r => .refused r

/-- `s` with the instruction `w` stored where the next step fetches: four bytes, big-endian (R108), of which the
instruction side has no other copy. -/
def State.withFetchWord (s : State) (nbits w : Nat) : State :=
  { s with
    mem := s.mem.writeBE (fetchAddress s) 4 (w % 2 ^ nbits)
    code := s.code.filter fun c => c.ra != fetchAddress s }

end Sys2Proof.Machine
end

