-- ==== Sys2Proof/Safety.lean ====
section
/-!
DEFINITION. What statements use: the states the machine can reach and the runs that end as the spec says, the
invariants every step keeps, what "an instruction answers a next state that differs only here" means, and the tables
that give each group of instructions its results in the spec's own terms.
-/

namespace Sys2Proof.Machine

open Sys2Proof

/-! ## Runs -/

/-- The states reachable from `s` by steps. -/
inductive Reaches : State → State → Prop where
  | refl (s : State) : Reaches s s
  | step {s t u : State} (h : step s = .next t) (rest : Reaches t u) : Reaches s u

/-- A fault that the spec itself defines: the terminal event of a trap delivered to hyperprivileged mode (R456).
Every other fault is a case the spec leaves undefined. -/
def Fault.defined : Fault → Bool
  | .hyperprivilegedTrap _ _ _ => true
  | .returnInDelaySlot | .savedUndefined | .restoredUndefined | .nonprivilegedAtTrapLevel
  | .multipleTranslations => false

/-- A step that neither refuses nor meets a case the spec leaves undefined. -/
def SafeStep (s : State) : Prop :=
  match step s with
  | .next _ => True
  | .fault f => f.defined = true
  | .refused _ => False

/-! ## Invariants -/

/-- The window registers keep the relation the spec asks of them (R52). -/
def windowsConsistent (s : State) : Prop :=
  s.cansave.toNat + s.canrestore.toNat + s.otherwin.toNat = Config.nRegWindows - 2 ∧
    s.canrestore.toNat ≤ s.cleanwin.toNat

/-- A program counter is word-aligned. -/
def wordAligned (v : Word64) : Prop := field v 0 2 = 0

/-- PC, NPC and the saved program counters are word-aligned (R34, R53, R54). -/
def countersAligned (s : State) : Prop :=
  wordAligned s.pc ∧ wordAligned s.npc ∧ wordAligned s.trap1.tpc ∧ wordAligned s.trap1.tnpc ∧
    wordAligned s.trap2.tpc ∧ wordAligned s.trap2.tnpc

/-- Control transfers trap under PSTATE.tct (R203). -/
def transfersTrap (s : State) : Bool := s.par.hasTct && s.pstate.tct

/-- A step whose instruction or trap answered `o`: what the environment does follows (R497). -/
def thenEnvironment : Out → Out
  | .next t => .next (elapse t)
  | .fault f => .fault f
  | .refused r => .refused r

/-- The word is a RDasr of an implementation-dependent ASR, whose bits 13:0 are 0 (R4, R29, R295), and IMPL_ASRS has `x`
for it (D8). -/
def readsAsr (par : Config.Params) (w : Word32) (x : Config.ImplAsr) : Prop :=
  field w 30 2 = 0b10 ∧ field w 19 6 = 0b101000 ∧ field w 0 14 = 0 ∧ field w 14 5 ∈ [16, 17, 18, 28, 29, 30, 31] ∧
    par.implAsrs.find? (fun y => y.number == field w 14 5) = some x

/-- The word is a WRasr of an implementation-dependent ASR, with i = 1 or bits 12:5 of 0 (R4, R29, R298), and
IMPL_ASRS has `x` for it (D8). -/
def writesAsr (par : Config.Params) (w : Word32) (x : Config.ImplAsr) : Prop :=
  field w 30 2 = 0b10 ∧ field w 19 6 = 0b110000 ∧ (bit w 13 = true ∨ field w 5 8 = 0) ∧
    field w 25 5 ∈ [16, 17, 18, 29, 30, 31] ∧
    par.implAsrs.find? (fun y => y.number == field w 25 5) = some x

/-- An implementation-dependent ASR may be used in the present mode (#9-V8-Cs20). -/
abbrev mayUseAsr (s : State) (x : Config.ImplAsr) : Prop := x.privileged = false ∨ s.pstate.priv = true

/-- The exception of any other word that is no instruction (R107): illegal_instruction. For a well-formed WRPR %tick in
nonprivileged mode R33 names privileged_opcode and R299 illegal_instruction, and either may come where the parameter
does not say which (log entry 40). -/
def undecodedExc (s : State) (w : Word32) : Exc :=
  if field w 30 2 = 0b10 ∧ field w 25 5 = 4 ∧ field w 19 6 = 0b110010 ∧ (bit w 13 = true ∨ field w 5 8 = 0) ∧
      s.pstate.priv = false ∧
      (s.par.wrprTickIllegal = some false ∨ (s.par.wrprTickIllegal = none ∧ Config.wrprTickOpen = false))
    then .privilegedOpcode
  else .illegalInstruction

/-- The default platform of R101 and R491: identity mapping, no translation table, no watchpoint. -/
def plainPlatform (s : State) : Prop :=
  s.par.mappings = [] ∧ s.par.tsbs = [] ∧ s.par.identityMap = true ∧ s.par.vaBits = 64 ∧ s.par.watchData = [] ∧
    s.par.watchInsn = [] ∧ s.par.watchOther = false

/-! ## What an instruction leaves unchanged -/

/-- Every byte of memory reads as before. -/
def memoryKept (s t : State) : Prop := ∀ a, t.mem.read a = s.mem.read a

/-- Every byte of memory outside the `n` bytes from real address `first` on reads as before. -/
def memoryKeptOutside (s t : State) (first n : Nat) : Prop :=
  ∀ a, a < first ∨ first + n ≤ a → t.mem.read a = s.mem.read a

/-- Every global of every set and every windowed register, but those that `rds` name in the current set and
window, is as before. -/
def registersKept (s t : State) (rds : List Reg) : Prop :=
  (∀ i : Fin 24, (∀ n ∈ rds, n.toNat = 0 ∨ 8 ≤ n.toNat ∨ i ≠ globalSlot s.gl n) → t.g[i] = s.g[i]) ∧
  (∀ i : Fin 128, (∀ n ∈ rds, n.toNat < 8 ∨ i ≠ windowSlot s.cwp n) → t.w[i] = s.w[i])

/-- The instruction answers a next state that is `u` but for R[rd], which holds `v` (R[0] stays 0, R12). -/
def nextWithR (o : Out) (u : State) (rd : Reg) (v : Word64) : Prop :=
  ∃ t, o = .next t ∧ readR t rd = (if rd = 0 then 0 else v) ∧ registersKept u t [rd] ∧ memoryKept u t ∧
    t = { u with g := t.g, w := t.w }

/-- The instruction answers a next state that is `u` but for the pair R[rd], R[rd + 1], `rd` even. -/
def nextWithPair (o : Out) (u : State) (rd : Reg) (v1 v2 : Word64) : Prop :=
  ∃ t, o = .next t ∧ readR t rd = (if rd = 0 then 0 else v1) ∧ readR t (rd ||| 1) = v2 ∧
    registersKept u t [rd, rd ||| 1] ∧ memoryKept u t ∧ t = { u with g := t.g, w := t.w }

/-- Every 32-bit word of the F registers but those listed is as before. -/
def fWordsKept (s t : State) (words : List (Fin 64)) : Prop := ∀ i : Fin 64, i ∉ words → t.f[i] = s.f[i]

/-- The instruction answers a next state that is `u` but for F_S[rd], which holds `v`, and FPRS.dl = 1. -/
def nextWithFS (o : Out) (u : State) (rd : FReg) (v : Word32) : Prop :=
  ∃ t, o = .next t ∧ readFS t rd = v ∧ fWordsKept u t [sSlot rd] ∧ memoryKept u t ∧
    t = { u with f := t.f, fprs := { u.fprs with dl := true } }

/-- FPRS after a write of F_D[2k] (R35): du for the registers from F_D[32] on, dl for those below. -/
def dirtyD (x : Fprs) (k : DReg) : Fprs :=
  if k.toNat < 16 then { x with dl := true } else { x with du := true }

/-- The instruction answers a next state that is `u` but for F_D[2k], which holds `v`, and FPRS. -/
def nextWithFD (o : Out) (u : State) (k : DReg) (v : Word64) : Prop :=
  ∃ t, o = .next t ∧ readFD t k = v ∧ fWordsKept u t [dSlot k, dSlotLow k] ∧ memoryKept u t ∧
    t = { u with f := t.f, fprs := dirtyD u.fprs k }

/-- The instruction answers a next state that is `u` but for F_Q[2k], `k` even, which holds `v`, and FPRS. -/
def nextWithFQ (o : Out) (u : State) (k : DReg) (v : Word128) : Prop :=
  ∃ t, o = .next t ∧ readFQ t k = v ∧ fWordsKept u t [dSlot k, dSlotLow k, dSlot (k ||| 1), dSlotLow (k ||| 1)] ∧
    memoryKept u t ∧ t = { u with f := t.f, fprs := dirtyD u.fprs k }

/-- The instruction answers a next state that is `u` but for the registers from F_D[0] on, as many as the values, which
are at most sixteen, and FPRS.dl = 1. -/
def nextWithRun (o : Out) (u : State) (values : List Word64) : Prop :=
  ∃ t, o = .next t ∧ (∀ k, k < values.length → readFD t (BitVec.ofNat 5 k) = values.getD k 0) ∧
    (∀ k : DReg, values.length ≤ k.toNat → readFD t k = readFD u k) ∧ memoryKept u t ∧
    t = { u with f := t.f, fprs := { u.fprs with dl := true } }

/-- The `n` bytes at a place hold the low `n` bytes of `v`, in the place's byte order (R70). -/
def bytesStored (t : State) (x : Place) (n v : Nat) : Prop :=
  ∀ k, k < n → t.mem.read (x.ra + k) = BitVec.ofNat 8 (v / 256 ^ (if x.little then k else n - 1 - k))

/-- The instruction answers a next state that is `u` but for the `n` bytes stored at `x`. -/
def nextStored (o : Out) (u : State) (x : Place) (n v : Nat) : Prop :=
  ∃ t, o = .next t ∧ bytesStored t x n v ∧ memoryKeptOutside u t x.ra n ∧ t = { u with mem := t.mem }

/-- What a store of `n` bytes at `x` with an explicit ASI keeps: every other byte, but that a block-initialising store
may change the rest of its line where the implementation leaves it unspecified (R80, STBI_LINE_EFFECT). -/
def memoryKeptByStore (u t : State) (asi : BitVec 8) (x : Place) (n : Nat) : Prop :=
  ∀ a, a < x.ra ∨ x.ra + n ≤ a →
    (asi ∉ asiStbi ++ asiStbiX ∨ u.par.stbiLineEffect = .unchanged ∨ a < lineOf u x.ra ∨
      lineOf u x.ra + u.par.cacheLine ≤ a) → t.mem.read a = u.mem.read a

/-- As `nextStored`, for a store with an explicit ASI. -/
def nextStoredAsi (o : Out) (u : State) (asi : BitVec 8) (x : Place) (n v : Nat) : Prop :=
  ∃ t, o = .next t ∧ bytesStored t x n v ∧ memoryKeptByStore u t asi x n ∧
    t = { u with mem := t.mem, freeCount := t.freeCount }

/-- What fetching and executing at `s` answers (R92, R107, R131, R132, R463): a fetch that raises an exception takes
that trap; a word that decodes and is in hardware is executed; one that OPTIONAL_INSNS leaves to software takes
illegal_instruction, unimplemented_LDTW or unimplemented_STTW; of the other words one that reads an
implementation-dependent ASR gives a free value, one that writes it has no further effect (log entry 28), and the rest
take their exception. -/
def executes (s : State) (o : Out) : Prop :=
  (∀ e, fetch s = .error (.trap e) → o = takeTrap e s) ∧ (∀ f, fetch s = .error (.stuck f) → o = .fault f) ∧
  (∀ w i, fetch s = .ok w → decode w = some i → emulated s.par w = false → o = exec i s) ∧
  (∀ w i, fetch s = .ok w → decode w = some i → emulated s.par w = true →
    let load : Prop := (∃ rd rs1 op2, i = .LDTW rd rs1 op2) ∨ ∃ rd rs1 addr, i = .LDTWA rd rs1 addr
    let store : Prop := (∃ rd rs1 op2, i = .STTW rd rs1 op2) ∨ ∃ rd rs1 addr, i = .STTWA rd rs1 addr
    (load → o = takeTrap .unimplementedLdtw s) ∧ (store → o = takeTrap .unimplementedSttw s) ∧
      (¬load → ¬store → o = takeTrap .illegalInstruction s)) ∧
  (∀ w, fetch s = .ok w → decode w = none →
    (∀ x, readsAsr s.par w x → mayUseAsr s x →
      nextWithR o { advance s with freeCount := s.freeCount + 1 } (field w 25 5) (Config.freeWord s.freeCount)) ∧
    (∀ x, writesAsr s.par w x → mayUseAsr s x → o = .next (advance s)) ∧
    (∀ x, readsAsr s.par w x ∨ writesAsr s.par w x → ¬mayUseAsr s x → o = takeTrap .privilegedOpcode s) ∧
    ((∀ x, ¬readsAsr s.par w x ∧ ¬writesAsr s.par w x) → o = takeTrap (undecodedExc s w) s))

/-- The instruction at PC raises a precise exception itself (R453 candidates (a)): in fetching; as an undefined word; as
one that is left to software; or in executing, where it enters a trap or the terminal event. WRPR %tl in privileged
mode raises TL without a trap. -/
def raisesOwn (s : State) : Prop :=
  (∃ e, fetch s = .error (.trap e)) ∨
  (∃ w, fetch s = .ok w ∧ decode w = none ∧
    ∀ x, readsAsr s.par w x ∨ writesAsr s.par w x → ¬mayUseAsr s x) ∨
  (∃ w i, fetch s = .ok w ∧ decode w = some i ∧ emulated s.par w = true) ∨
  (∃ w i, fetch s = .ok w ∧ decode w = some i ∧ (s.pstate.priv = false ∨ ∀ rs1 op2, i ≠ .WRPR_TL rs1 op2) ∧
    ((∃ t, exec i s = .next t ∧ s.tl.val < t.tl.val) ∨
      ∃ tt pc npc, exec i s = .fault (.hyperprivilegedTrap tt pc npc)))

/-- An access whose checks answer `p` at state `s`: an exception of the checks is taken, and a case that the spec leaves
undefined stops the strand. -/
def stopsAs (o : Out) (s : State) (p : Eff Place) : Prop :=
  (∀ e, p = .error (.trap e) → o = takeTrap e s) ∧ (∀ f, p = .error (.stuck f) → o = .fault f)

/-- An access with this explicit ASI reaches an address space of the implementation that IMPL_ASIS says exists (R75,
D9): the privilege check of R73 lets it. What is read there is a free value, and what is stored there has no further
effect (log entry 28). -/
abbrev opensAsi (s : State) (asi : BitVec 8) : Prop :=
  asi ∈ asiImplementation ∧ asi ∈ s.par.implAsis ∧ asiPrivileged s asi = false

/-! ## Values in the spec's terms

The constructors in the tables are functions into `Instr`, which only the kernel evaluates. -/

noncomputable section

/-- A Boolean as the number 0 or 1. -/
def one (b : Bool) : Word64 := if b then 1 else 0

/-- A Boolean as the integer 0 or 1. -/
def oneInt (b : Bool) : Int := if b then 1 else 0

/-- `x` fits a signed number of `n` bits. -/
def fits (n : Nat) (x : Int) : Bool := decide (-(2 ^ (n - 1)) ≤ x ∧ x < 2 ^ (n - 1))

/-- `x` moved into the range of a signed number of `n` bits. -/
def clampSigned (n : Nat) (x : Int) : Int := max (-(2 ^ (n - 1))) (min (2 ^ (n - 1) - 1) x)

/-- `x` moved into the range of an unsigned number of `n` bits. -/
def clampUnsigned (n : Nat) (x : Int) : Int := max 0 (min (2 ^ n - 1) x)

/-- Condition codes of a 64-bit result: n and z of its 64 and its 32 bits, v and c as given (R31). -/
def codes (res : Word64) (xv xc iv ic : Bool) : Ccr where
  xcc := { n := res.msb, z := decide (res = 0), v := xv, c := xc }
  icc := { n := (field res 0 32).msb, z := decide (field res 0 32 = 0), v := iv, c := ic }

/-- The condition codes of a sum (R139): v when the exact sum does not fit the signed width, c when it does not fit
the unsigned one. -/
def sumCodes (a b : Word64) (c : Bool) : Ccr :=
  codes (a + b + one c)
    (!fits 64 (a.toInt + b.toInt + oneInt c))
    (decide (2 ^ 64 ≤ a.toNat + b.toNat + c.toNat))
    (!fits 32 ((field a 0 32).toInt + (field b 0 32).toInt + oneInt c))
    (decide (2 ^ 32 ≤ (field a 0 32).toNat + (field b 0 32).toNat + c.toNat))

/-- The condition codes of a difference (R140): v when the exact difference does not fit the signed width, c on a
borrow. -/
def diffCodes (a b : Word64) (c : Bool) : Ccr :=
  codes (a - b - one c)
    (!fits 64 (a.toInt - b.toInt - oneInt c))
    (decide (a.toNat < b.toNat + c.toNat))
    (!fits 32 ((field a 0 32).toInt - (field b 0 32).toInt - oneInt c))
    (decide ((field a 0 32).toNat < (field b 0 32).toNat + c.toNat))

/-- The condition codes of a logical result (R141). -/
def logicCodes (res : Word64) : Ccr := codes res false false false false

/-- The tag bits of both operands are 0 (R182). -/
def tagsClear (a b : Word64) : Bool := decide (a.toNat % 4 = 0 ∧ b.toNat % 4 = 0)

/-- Condition codes of a tagged operation: icc.v also when a tag is not 0 (R182). -/
def tagged (x : Ccr) (a b : Word64) : Ccr := { x with icc := { x.icc with v := x.icc.v || !tagsClear a b } }

/-! ## Integer instructions -/

/-- R[rs1] with the second operand of R138. -/
abbrev ArithForm := Reg → Reg → RegImm 13 → Instr

/-- rd, rs1 and rs2. -/
abbrev Three := BitVec 5 → BitVec 5 → BitVec 5 → Instr

/-- Arithmetic and logic without condition codes (R142, R144, R148 to R162, R176, R178, R194, R196): the result from
R[rs1] and the second operand. -/
def intRows : List (ArithForm × (State → Word64 → Word64 → Word64)) :=
  [(.ADD, fun _ a b => a + b), (.ADDC, fun s a b => a + b + one s.ccr.icc.c), (.SUB, fun _ a b => a - b),
   (.SUBC, fun s a b => a - b - one s.ccr.icc.c), (.MULX, fun _ a b => a * b), (.AND, fun _ a b => a &&& b),
   (.OR, fun _ a b => a ||| b), (.XOR, fun _ a b => a ^^^ b), (.ANDN, fun _ a b => a &&& ~~~b),
   (.ORN, fun _ a b => a ||| ~~~b), (.XNOR, fun _ a b => ~~~(a ^^^ b))]

/-- Bit `i` of the product of `a` and `b` without carries (R446). -/
def carrylessBit (a b : Word64) (i : Nat) : Bool :=
  (List.range (i + 1)).foldl (fun acc j => acc ^^ (a.getLsbD j && b.getLsbD (i - j))) false

/-- Arithmetic without condition codes on two registers (R146, R180, R191 to R193). -/
def intRegRows : List (Three × (State → Word64 → Word64 → Word64)) :=
  [(.ADDXC, fun s a b => a + b + one s.ccr.xcc.c), (.SUBXC, fun s a b => a - b - one s.ccr.xcc.c),
   (.UMULXHI, fun _ a b => BitVec.ofNat 64 (a.toNat * b.toNat / 2 ^ 64)),
   (.XMULX, fun _ a b => buildLanes 64 1 64 fun i => BitVec.ofBool (carrylessBit a b i)),
   (.XMULXHI, fun _ a b => buildLanes 64 1 64 fun i => BitVec.ofBool (carrylessBit a b (64 + i)))]

/-- Arithmetic and logic with condition codes (R143, R145, R149 to R162, R177, R179, R183, R185, R195, R197): the
result and CCR. -/
def intCcRows : List (ArithForm × (State → Word64 → Word64 → Word64) × (State → Word64 → Word64 → Ccr)) :=
  [(.ADDcc, fun _ a b => a + b, fun _ a b => sumCodes a b false),
   (.ADDCcc, fun s a b => a + b + one s.ccr.icc.c, fun s a b => sumCodes a b s.ccr.icc.c),
   (.SUBcc, fun _ a b => a - b, fun _ a b => diffCodes a b false),
   (.SUBCcc, fun s a b => a - b - one s.ccr.icc.c, fun s a b => diffCodes a b s.ccr.icc.c),
   (.TADDcc, fun _ a b => a + b, fun _ a b => tagged (sumCodes a b false) a b),
   (.TSUBcc, fun _ a b => a - b, fun _ a b => tagged (diffCodes a b false) a b),
   (.ANDcc, fun _ a b => a &&& b, fun _ a b => logicCodes (a &&& b)),
   (.ORcc, fun _ a b => a ||| b, fun _ a b => logicCodes (a ||| b)),
   (.XORcc, fun _ a b => a ^^^ b, fun _ a b => logicCodes (a ^^^ b)),
   (.ANDNcc, fun _ a b => a &&& ~~~b, fun _ a b => logicCodes (a &&& ~~~b)),
   (.ORNcc, fun _ a b => a ||| ~~~b, fun _ a b => logicCodes (a ||| ~~~b)),
   (.XNORcc, fun _ a b => ~~~(a ^^^ b), fun _ a b => logicCodes (~~~(a ^^^ b)))]

/-- Arithmetic with condition codes on two registers (R147, R181). -/
def intRegCcRows : List (Three × (State → Word64 → Word64 → Word64) × (State → Word64 → Word64 → Ccr)) :=
  [(.ADDXCcc, fun s a b => a + b + one s.ccr.xcc.c, fun s a b => sumCodes a b s.ccr.xcc.c),
   (.SUBXCcc, fun s a b => a - b - one s.ccr.xcc.c, fun s a b => diffCodes a b s.ccr.xcc.c)]

/-- The tagged operations that trap (R184, R186): the result, its codes, and whether a 32-bit overflow traps. -/
def tagTrapRows : List (ArithForm × (Word64 → Word64 → Word64) × (Word64 → Word64 → Ccr)) :=
  [(.TADDccTV, fun a b => a + b, fun a b => sumCodes a b false),
   (.TSUBccTV, fun a b => a - b, fun a b => diffCodes a b false)]

/-- The low word of a register as a signed number. -/
def lowInt (x : Word64) : Int := (field x 0 32).toInt

/-- The low word of a register as an unsigned number. -/
def lowNat (x : Word64) : Nat := (field x 0 32).toNat

/-- The 32-bit multiplies (R174, R175, R189, R190): the product, and whether CCR is written. -/
def multiplyRows : List (ArithForm × (Word64 → Word64 → Word64) × Bool) :=
  [(.UMUL, fun a b => BitVec.ofNat 64 (lowNat a * lowNat b), false),
   (.UMULcc, fun a b => BitVec.ofNat 64 (lowNat a * lowNat b), true),
   (.SMUL, fun a b => BitVec.ofInt 64 (lowInt a * lowInt b), false),
   (.SMULcc, fun a b => BitVec.ofInt 64 (lowInt a * lowInt b), true)]

/-- The exact quotient of a 32-bit divide: of Y :: R[rs1]{31:0} by the low word, toward zero (R164, R187). -/
def exactQuotient (signed : Bool) (y : Word32) (a b : Word64) : Int :=
  if signed then (y ++ field a 0 32).toInt.tdiv (lowInt b) else ((y ++ field a 0 32).toNat / lowNat b : Nat)

/-- The quotient of a 32-bit divide, saturated (R164, R187). -/
def saturatedQuotient (signed : Bool) (y : Word32) (a b : Word64) : Int :=
  if signed then clampSigned 32 (exactQuotient true y a b) else clampUnsigned 32 (exactQuotient false y a b)

/-- The 32-bit divides (R164, R165, R187, R188): whether signed, and whether CCR is written. -/
def divideRows : List (ArithForm × Bool × Bool) :=
  [(.UDIV, false, false), (.UDIVcc, false, true), (.SDIV, true, false), (.SDIVcc, true, true)]

/-- The 64-bit divides (R156, R157). -/
def divideXRows : List (ArithForm × (Word64 → Word64 → Word64)) :=
  [(.UDIVX, fun a b => BitVec.ofNat 64 (a.toNat / b.toNat)),
   (.SDIVX, fun a b => BitVec.ofInt 64 (a.toInt.tdiv b.toInt))]

/-- A shift count: the low bits of R[rs2], or the immediate (R167). -/
def countOf {n : Nat} (s : State) : RegImm n → Nat
  | .reg rs2 => (readR s rs2).toNat % 2 ^ n
  | .imm v => v.toNat

/-- The shifts with x = 0 (R168 to R170). -/
def shift32Rows : List ((Reg → Reg → RegImm 5 → Instr) × (Word64 → Nat → Word64)) :=
  [(.SLL, fun a n => BitVec.ofNat 64 (a.toNat * 2 ^ n)),
   (.SRL, fun a n => BitVec.ofNat 64 (lowNat a / 2 ^ n)),
   (.SRA, fun a n => BitVec.ofInt 64 (lowInt a / 2 ^ n))]

/-- The shifts with x = 1 (R171 to R173). -/
def shift64Rows : List ((Reg → Reg → RegImm 6 → Instr) × (Word64 → Nat → Word64)) :=
  [(.SLLX, fun a n => BitVec.ofNat 64 (a.toNat * 2 ^ n)),
   (.SRLX, fun a n => BitVec.ofNat 64 (a.toNat / 2 ^ n)),
   (.SRAX, fun a n => BitVec.ofInt 64 (a.toInt / 2 ^ n))]

/-! ## Control transfers -/

/-- The program counters after a branch (R200). -/
def branchNext (s : State) (always taken a : Bool) (ea : Word64) : State :=
  if taken then
    if always && a then { s with pc := ea, npc := ea + 4 } else { s with pc := s.npc, npc := ea }
  else if a then { s with pc := s.npc + 4, npc := s.npc + 8 }
  else { s with pc := s.npc, npc := s.npc + 4 }

/-- The integer conditions (R202): whether the branch is unconditional, the test, and Bicc, BPcc and Tcc. -/
def iccRows : List (Bool × (Cc → Bool) × (Bool → BitVec 22 → Instr) ×
    (Bool → IccSel → Bool → BitVec 19 → Instr) × (IccSel → Reg → RegImm 8 → Instr)) :=
  [(true, fun _ => true, .BA, .BPA, .TA),
   (false, fun _ => false, .BN, .BPN, .TN),
   (false, fun x => !x.z, .BNE, .BPNE, .TNE),
   (false, fun x => x.z, .BE, .BPE, .TE),
   (false, fun x => !(x.z || x.n != x.v), .BG, .BPG, .TG),
   (false, fun x => x.z || x.n != x.v, .BLE, .BPLE, .TLE),
   (false, fun x => x.n == x.v, .BGE, .BPGE, .TGE),
   (false, fun x => x.n != x.v, .BL, .BPL, .TL),
   (false, fun x => !(x.c || x.z), .BGU, .BPGU, .TGU),
   (false, fun x => x.c || x.z, .BLEU, .BPLEU, .TLEU),
   (false, fun x => !x.c, .BCC, .BPCC, .TCC),
   (false, fun x => x.c, .BCS, .BPCS, .TCS),
   (false, fun x => !x.n, .BPOS, .BPPOS, .TPOS),
   (false, fun x => x.n, .BNEG, .BPNEG, .TNEG),
   (false, fun x => !x.v, .BVC, .BPVC, .TVC),
   (false, fun x => x.v, .BVS, .BPVS, .TVS)]

/-- The compare-and-branch instructions (R207), the 32-bit and the 64-bit form of each condition. -/
def compareRows : List ((Cc → Bool) × (Reg → RegImm 5 → BitVec 10 → Instr) × (Reg → RegImm 5 → BitVec 10 → Instr)) :=
  [(fun x => !x.z, .CWBNE, .CXBNE),
   (fun x => x.z, .CWBE, .CXBE),
   (fun x => !(x.z || x.n != x.v), .CWBG, .CXBG),
   (fun x => x.z || x.n != x.v, .CWBLE, .CXBLE),
   (fun x => x.n == x.v, .CWBGE, .CXBGE),
   (fun x => x.n != x.v, .CWBL, .CXBL),
   (fun x => !(x.c || x.z), .CWBGU, .CXBGU),
   (fun x => x.c || x.z, .CWBLEU, .CXBLEU),
   (fun x => !x.c, .CWBCC, .CXBCC),
   (fun x => x.c, .CWBCS, .CXBCS),
   (fun x => !x.n, .CWBPOS, .CXBPOS),
   (fun x => x.n, .CWBNEG, .CXBNEG),
   (fun x => !x.v, .CWBVC, .CXBVC),
   (fun x => x.v, .CWBVS, .CXBVS)]

/-- The floating-point conditions (R210): whether unconditional, the values of fcc for which the branch is taken
(0 equal, 1 less, 2 greater, 3 unordered), and FBfcc and FBPfcc. -/
def fccRows : List (Bool × List (BitVec 2) × (Bool → BitVec 22 → Instr) ×
    (Bool → BitVec 2 → Bool → BitVec 19 → Instr)) :=
  [(true, [0, 1, 2, 3], .FBA, .FBPA), (false, [], .FBN, .FBPN), (false, [3], .FBU, .FBPU),
   (false, [2], .FBG, .FBPG), (false, [2, 3], .FBUG, .FBPUG), (false, [1], .FBL, .FBPL),
   (false, [1, 3], .FBUL, .FBPUL), (false, [1, 2], .FBLG, .FBPLG), (false, [1, 2, 3], .FBNE, .FBPNE),
   (false, [0], .FBE, .FBPE), (false, [0, 3], .FBUE, .FBPUE), (false, [0, 2], .FBGE, .FBPGE),
   (false, [0, 2, 3], .FBUGE, .FBPUGE), (false, [0, 1], .FBLE, .FBPLE), (false, [0, 1, 3], .FBULE, .FBPULE),
   (false, [0, 1, 2], .FBO, .FBPO)]

/-- The conditions on a register (R129, R154, R206, R320): the test on its signed value, BPr, MOVr, and FMOVRs,
FMOVRd and FMOVRq. -/
def regRows : List ((Int → Bool) × (Bool → Bool → Reg → BitVec 16 → Instr) × (Reg → Reg → RegImm 10 → Instr) ×
    Three × Three × Three) :=
  [(fun v => decide (v = 0), .BRZ, .MOVRZ, .FMOVRsZ, .FMOVRdZ, .FMOVRqZ),
   (fun v => decide (v ≤ 0), .BRLEZ, .MOVRLEZ, .FMOVRsLEZ, .FMOVRdLEZ, .FMOVRqLEZ),
   (fun v => decide (v < 0), .BRLZ, .MOVRLZ, .FMOVRsLZ, .FMOVRdLZ, .FMOVRqLZ),
   (fun v => decide (v ≠ 0), .BRNZ, .MOVRNZ, .FMOVRsNZ, .FMOVRdNZ, .FMOVRqNZ),
   (fun v => decide (0 < v), .BRGZ, .MOVRGZ, .FMOVRsGZ, .FMOVRdGZ, .FMOVRqGZ),
   (fun v => decide (0 ≤ v), .BRGEZ, .MOVRGEZ, .FMOVRsGEZ, .FMOVRdGEZ, .FMOVRqGEZ)]

/-! ## Loads and stores -/

/-- The sign- or zero-extended value of `n` bytes (R6). -/
def extended (signed : Bool) (n v : Nat) : Word64 :=
  if signed then BitVec.ofInt 64 (BitVec.ofNat (8 * n) v).toInt else BitVec.ofNat 64 v

/-- The integer loads (R223 to R237): with the implicit ASI, with an explicit ASI, the width in bytes, signed. -/
def loadRows : List (ArithForm × (Reg → Reg → AltOperand → Instr) × Nat × Bool) :=
  [(.LDSB, .LDSBA, 1, true), (.LDSH, .LDSHA, 2, true), (.LDSW, .LDSWA, 4, true), (.LDUB, .LDUBA, 1, false),
   (.LDUH, .LDUHA, 2, false), (.LDUW, .LDUWA, 4, false), (.LDX, .LDXA, 8, false)]

/-- The ASIs that a store alternate accepts (R250): those of STXA differ in their block-initialising ones. -/
def storeAsis (n : Nat) : List (BitVec 8) := asiStore ++ (if n = 8 then asiStbiX else asiStbi)

/-- The integer stores (R246 to R254): with the implicit ASI, with an explicit ASI, the width in bytes. -/
def storeRows : List (ArithForm × (Reg → Reg → AltOperand → Instr) × Nat) :=
  [(.STB, .STBA, 1), (.STH, .STHA, 2), (.STW, .STWA, 4), (.STX, .STXA, 8)]

/-! ## State registers -/

/-- What SOFTINT holds of a value (R37), with or without its bit 0 (log entry 14). -/
def softintPart (s : State) (v : Word64) : BitVec 17 :=
  if s.par.softintBit0 then field v 0 17 else field v 0 17 &&& 0x1FFFE

/-- The reads of ancillary registers that any mode may do (R295). -/
def readRows : List ((Reg → Instr) × (State → Word64)) :=
  [(.RDY, fun s => s.y.setWidth 64), (.RDCCR, fun s => s.ccr.bits.setWidth 64), (.RDASI, fun s => s.asi.setWidth 64),
   (.RDPC, fun s => if s.pstate.am then BitVec.ofNat 64 (s.pc.toNat % 2 ^ 32) else s.pc),
   (.RDFPRS, fun s => s.fprs.bits.setWidth 64), (.RDCFR, fun s => (s.par.cfr &&& 0x7FFB).setWidth 64)]

/-- The privileged reads (R295, R296). -/
def readPrivRows : List ((Reg → Instr) × (State → Word64)) :=
  [(.RDSOFTINT, fun s => (softintPart s (s.softint.setWidth 64)).setWidth 64),
   (.RDSTICK_CMPR, fun s => BitVec.ofBool s.stickCmpr.intDis ++ clearLow s.stickCmpr.cmpr s.par.stickCmprN),
   (.RDPR_TBA, fun s => s.tba.setWidth 64 <<< 15), (.RDPR_PSTATE, fun s => s.pstate.bits.setWidth 64),
   (.RDPR_TL, fun s => BitVec.ofNat 64 s.tl.val), (.RDPR_PIL, fun s => s.pil.setWidth 64),
   (.RDPR_CWP, fun s => s.cwp.setWidth 64), (.RDPR_CANSAVE, fun s => s.cansave.setWidth 64),
   (.RDPR_CANRESTORE, fun s => s.canrestore.setWidth 64), (.RDPR_CLEANWIN, fun s => s.cleanwin.setWidth 64),
   (.RDPR_OTHERWIN, fun s => s.otherwin.setWidth 64),
   (.RDPR_WSTATE, fun s => BitVec.ofNat 64 (8 * s.wstate.other.toNat + s.wstate.normal.toNat)),
   (.RDPR_GL, fun s => BitVec.ofNat 64 s.gl.val)]

/-- The reads of the trap stack (R53 to R56, R296). -/
def readTrapRows : List ((Reg → Instr) × (TrapEntry → Word64)) :=
  [(.RDPR_TPC, fun e => e.tpc), (.RDPR_TNPC, fun e => e.tnpc), (.RDPR_TSTATE, fun e => e.tstate.bits),
   (.RDPR_TT, fun e => e.tt.setWidth 64)]

/-- The writes of ancillary registers that any mode may do (R298): what the value changes. -/
def writeRows : List ((Reg → RegImm 13 → Instr) × (State → Word64 → State)) :=
  [(.WRY, fun s v => { s with y := field v 0 32 }),
   (.WRCCR, fun s v => { s with ccr := .ofBits (field v 0 8) }),
   (.WRASI, fun s v => { s with asi := field v 0 8 }),
   (.WRFPRS, fun s v => { s with fprs := .ofBits (field v 0 3) })]

/-- The privileged writes (R37 to R41, R45 to R51, R57 to R62, R298, R299): what the value changes. -/
def writePrivRows : List ((Reg → RegImm 13 → Instr) × (State → Word64 → State)) :=
  [(.WRSOFTINT, fun s v => { s with softint := softintPart s v }),
   (.WRSOFTINT_SET, fun s v => { s with softint := s.softint ||| softintPart s v }),
   (.WRSOFTINT_CLR, fun s v => { s with softint := s.softint &&& ~~~softintPart s v }),
   (.WRSTICK_CMPR, fun s v => { s with stickCmpr := { intDis := v.msb, cmpr := field v 0 63 } }),
   (.WRPR_TBA, fun s v => { s with tba := field v 15 49 }),
   (.WRPR_PSTATE, fun s v => { s with pstate := .ofBits s.par (field v 0 13) }),
   (.WRPR_TL, fun s v => { s with tl := if v.toNat % 8 = 0 then 0 else if v.toNat % 8 = 1 then 1 else 2 }),
   (.WRPR_PIL, fun s v => { s with pil := field v 0 4 }),
   (.WRPR_CWP, fun s v => { s with cwp := field v 0 3 }),
   (.WRPR_CANSAVE, fun s v => { s with cansave := field v 0 3 }),
   (.WRPR_CANRESTORE, fun s v => { s with canrestore := field v 0 3 }),
   (.WRPR_CLEANWIN, fun s v => { s with cleanwin := field v 0 3 }),
   (.WRPR_OTHERWIN, fun s v => { s with otherwin := field v 0 3 }),
   (.WRPR_WSTATE, fun s v => { s with wstate := { other := field v 3 3, normal := field v 0 3 } }),
   (.WRPR_GL, fun s v => { s with gl := if v.toNat % 8 = 0 then 0 else if v.toNat % 8 = 1 then 1 else 2 })]

/-- The writes of the trap stack (R53 to R56, R299). -/
def writeTrapRows : List ((Reg → RegImm 13 → Instr) × (Config.Params → TrapEntry → Word64 → TrapEntry)) :=
  [(.WRPR_TPC, fun _ e v => { e with tpc := v &&& ~~~3 }), (.WRPR_TNPC, fun _ e v => { e with tnpc := v &&& ~~~3 }),
   (.WRPR_TSTATE, fun par e v => { e with tstate := .ofBits par v }),
   (.WRPR_TT, fun _ e v => { e with tt := field v 0 9 })]

/-! ## Floating point -/

/-- The moves of bits (R300 to R302, R318, R325) between single, double and quad registers. -/
def moveSRows : List ((FReg → FReg → Instr) × (Word32 → Word32)) :=
  [(.FMOVs, fun x => x), (.FABSs, fun x => x &&& 0x7FFFFFFF), (.FNEGs, fun x => x ^^^ 0x80000000)]

/-- The moves of bits between double registers. -/
def moveDRows : List ((DReg → DReg → Instr) × (Word64 → Word64)) :=
  [(.FMOVd, fun x => x), (.FABSd, fun x => x &&& 0x7FFFFFFFFFFFFFFF), (.FNEGd, fun x => x ^^^ 0x8000000000000000)]

/-- The moves of bits between quad registers. -/
def moveQRows : List ((DReg → DReg → Instr) × (Word128 → Word128)) :=
  [(.FMOVq, fun x => x), (.FABSq, fun x => x &&& 0x7FFFFFFFFFFFFFFFFFFFFFFFFFFFFFFF),
   (.FNEGq, fun x => x ^^^ 0x80000000000000000000000000000000)]

/-- The conditional moves on FSR.fccn (R153, R319): n, MOVfccn, and FMOVSfccn, FMOVDfccn, FMOVQfccn. -/
def fccMoveRows : List (BitVec 2 × (Reg → FCond → RegImm 11 → Instr) × (FReg → FCond → FReg → Instr) ×
    (DReg → FCond → DReg → Instr) × (DReg → FCond → DReg → Instr)) :=
  [(0, .MOVfcc0, .FMOVSfcc0, .FMOVDfcc0, .FMOVQfcc0), (1, .MOVfcc1, .FMOVSfcc1, .FMOVDfcc1, .FMOVQfcc1),
   (2, .MOVfcc2, .FMOVSfcc2, .FMOVDfcc2, .FMOVQfcc2), (3, .MOVfcc3, .FMOVSfcc3, .FMOVDfcc3, .FMOVQfcc3)]

/-- The conditional moves on CCR (R153, R319): icc or xcc, MOVicc, and FMOVSicc, FMOVDicc, FMOVQicc. -/
def iccMoveRows : List (IccSel × (Reg → ICond → RegImm 11 → Instr) × (FReg → ICond → FReg → Instr) ×
    (DReg → ICond → DReg → Instr) × (DReg → ICond → DReg → Instr)) :=
  [(.icc, .MOVicc, .FMOVSicc, .FMOVDicc, .FMOVQicc), (.xcc, .MOVxcc, .FMOVSxcc, .FMOVDxcc, .FMOVQxcc)]

/-- The outcome of an arithmetic FPop whose result is `r` (R341): an exception that FSR.tem enables traps and leaves
FSR.cexc one-hot; otherwise the destination holds the result's bits, cexc the exceptions raised, aexc has them added
and ftt is 0. -/
def fpCompletes (o : Out) (s : State) (dst : Prec) (rd : BitVec 5) (r : FpResult) : Prop :=
  let c := r.cexc s.fsr.tem
  let u := { advance s with fsr := { s.fsr with cexc := c, aexc := s.fsr.aexc.or c, ftt := 0 } }
  match dst with
  | .s => nextWithFS o u rd (BitVec.ofNat 32 r.bits)
  | .d => nextWithFD o u rd (BitVec.ofNat 64 r.bits)
  | .q => nextWithFQ o u rd (BitVec.ofNat 128 r.bits)

/-- The FPops with two sources (R303 to R310, R321 to R328, R335): the precisions of the sources and of the
destination, the operation on two operands that are no NaNs, and the operation of UNFINISHED_FPOP_CASES (R351). -/
def fpBinaryRows : List (Three × Prec × Prec × (BitVec 2 → FpValue → FpValue → FpResult) ×
    Option Config.FpOperation) :=
  let sum (p : Prec) (n1 n2 : Bool) (scale : Int) :=
    fun dir (a b : FpValue) => sumResult p.format dir scale (a.negate n1) (b.negate n2)
  let product (p : Prec) (n : Bool) := fun dir a b => productResult p.format dir n a b
  let quotient (p : Prec) := fun dir a b => quotientResult p.format dir a b
  [(.FADDs, .s, .s, sum .s false false 0, some .add), (.FADDd, .d, .d, sum .d false false 0, some .add),
   (.FADDq, .q, .q, sum .q false false 0, some .add), (.FSUBs, .s, .s, sum .s false true 0, some .subtract),
   (.FSUBd, .d, .d, sum .d false true 0, some .subtract), (.FSUBq, .q, .q, sum .q false true 0, some .subtract),
   (.FNADDs, .s, .s, sum .s true true 0, some .negativeAdd),
   (.FNADDd, .d, .d, sum .d true true 0, some .negativeAdd), (.FHADDs, .s, .s, sum .s false false (-1), none),
   (.FHADDd, .d, .d, sum .d false false (-1), none), (.FHSUBs, .s, .s, sum .s false true (-1), none),
   (.FHSUBd, .d, .d, sum .d false true (-1), none), (.FNHADDs, .s, .s, sum .s true true (-1), none),
   (.FNHADDd, .d, .d, sum .d true true (-1), none), (.FMULs, .s, .s, product .s false, some .multiply),
   (.FMULd, .d, .d, product .d false, some .multiply), (.FMULq, .q, .q, product .q false, some .multiply),
   (.FNMULs, .s, .s, product .s true, some .negativeMultiply),
   (.FNMULd, .d, .d, product .d true, some .negativeMultiply), (.FsMULd, .s, .d, product .d false, some .multiply),
   (.FNsMULd, .s, .d, product .d true, some .negativeMultiply), (.FdMULq, .d, .q, product .q false, none),
   (.FDIVs, .s, .s, quotient .s, some .divide), (.FDIVd, .d, .d, quotient .d, some .divide),
   (.FDIVq, .q, .q, quotient .q, some .divide)]

/-- What an FPop with one floating-point source computes: a square root, a number of another format, an integer. -/
inductive UnaryKind where
  | root
  | format
  | integer
deriving DecidableEq, Repr

/-- The FPops with one floating-point source (R329 to R334): the precisions, the operation, its kind, and the operation
of UNFINISHED_FPOP_CASES (R351). -/
def fpUnaryRows : List ((BitVec 5 → BitVec 5 → Instr) × Prec × Prec × (BitVec 2 → FpValue → FpResult) × UnaryKind ×
    Option Config.FpOperation) :=
  let root (p : Prec) := fun dir (x : FpValue) => x.nanOr p.format p.format (sqrtResult p.format dir x)
  let convert (src dst : Prec) :=
    fun dir (x : FpValue) => x.nanOr dst.format src.format (convertResult dst.format dir x)
  let toInt (n : Nat) := fun (_ : BitVec 2) (x : FpValue) => toIntResult n x
  let formats := some Config.FpOperation.convertFormat
  let integers := some Config.FpOperation.convertInteger
  [(.FSQRTs, .s, .s, root .s, .root, some .squareRoot), (.FSQRTd, .d, .d, root .d, .root, some .squareRoot),
   (.FSQRTq, .q, .q, root .q, .root, some .squareRoot),
   (.FsTOd, .s, .d, convert .s .d, .format, formats), (.FsTOq, .s, .q, convert .s .q, .format, none),
   (.FdTOs, .d, .s, convert .d .s, .format, formats), (.FdTOq, .d, .q, convert .d .q, .format, formats),
   (.FqTOs, .q, .s, convert .q .s, .format, none), (.FqTOd, .q, .d, convert .q .d, .format, formats),
   (.FsTOx, .s, .d, toInt 64, .integer, integers), (.FdTOx, .d, .d, toInt 64, .integer, integers),
   (.FqTOx, .q, .d, toInt 64, .integer, integers), (.FsTOi, .s, .s, toInt 32, .integer, integers),
   (.FdTOi, .d, .s, toInt 32, .integer, integers), (.FqTOi, .q, .s, toInt 32, .integer, integers)]

/-- The number is subnormal in the format of a precision (R18). -/
def subnormalValue (p : Prec) (x : FpValue) : Prop :=
  ∃ n sig e, x = .fin n sig e ∧ 0 < sig ∧ sig < 2 ^ p.format.fracBits

/-- UNFINISHED_FPOP_CASES holds the operation, with its precisions, with a subnormal operand, with a subnormal result,
or on the bit patterns of these operands, as the case is (R351). -/
def isUnfinished (s : State) (op : Option Config.FpOperation) (src dst : Prec) (operands : List Nat)
    (operand result : Prop) : Prop :=
  ∃ c ∈ s.par.unfinishedCases, some c.operation = op ∧ c.source = src.width ∧ c.destination = dst.width ∧
    match c.condition with
    | .subnormalOperand => operand
    | .subnormalResult => result
    | .chosenOperands => Config.unfinishedChoice c.operation c.source c.destination operands = true

/-- What nonstandard mode may take for a source of a comparison or a conversion (R349): itself, or for a subnormal one
the zero of its sign; `zeroed` says that it did. -/
def nsSource (p : Prec) (x y : FpValue) (zeroed : Bool) : Prop :=
  (zeroed = false ∧ y = x) ∨
    (zeroed = true ∧ subnormalValue p x ∧ y = .fin x.neg 0 p.format.minQuantum)

/-- The real number that a finite value stands for. -/
def FpValue.real : FpValue → ℝ
  | .fin n sig e => (if n then -1 else 1) * sig * (2 : ℝ) ^ e
  | _ => 0

/-- The pattern `bits` of a format stands for the finite number `v` (R18). -/
def FpFormat.represents (m : FpFormat) (bits : Nat) (v : ℝ) : Prop :=
  ∃ n sig e, m.decode bits = .fin n sig e ∧ (FpValue.fin n sig e).real = v

/-- The largest finite number of a format (R18). -/
def FpFormat.largest (m : FpFormat) : ℝ := (2 ^ (m.fracBits + 1) - 1) * (2 : ℝ) ^ ((m.bias : ℤ) - m.fracBits)

/-- The rounded magnitude of `x` exceeds the largest finite number, the exponent range unbounded (R28, R340). -/
def overflows (m : FpFormat) (dir : BitVec 2) (x : ℝ) : Prop :=
  let next := (2 : ℝ) ^ ((m.bias : ℤ) + 1)
  if dir = 0 then (m.largest + next) / 2 ≤ |x|
  else if (dir = 2 ∧ 0 < x) ∨ (dir = 3 ∧ x < 0) then m.largest < |x|
  else next ≤ |x|

/-- `y`, with the pattern `bits`, is `x` rounded to a number of the format: toward the nearest, and to the even pattern
of two equally near; toward zero; up; or down (R340). -/
def roundsTo (m : FpFormat) (dir : BitVec 2) (x : ℝ) (bits : Nat) (y : ℝ) : Prop :=
  ∀ b z, m.represents b z →
    if dir = 0 then |x - y| ≤ |x - z| ∧ (|x - y| = |x - z| → z ≠ y → bits % 2 = 0)
    else if dir = 1 then |y| ≤ |x| ∧ (|z| ≤ |x| → |z| ≤ |y|)
    else if dir = 2 then x ≤ y ∧ (x ≤ z → y ≤ z)
    else y ≤ x ∧ (z ≤ x → z ≤ y)

/-- The result is the exact value `x`, which is not 0, rounded once, with the exceptions of R28 and R342: inexact where
the rounded number differs from `x`, tiny where `x` lies below the smallest normal number, overflow with the result of
R340. -/
def roundedOnce (m : FpFormat) (dir : BitVec 2) (x : ℝ) (r : FpResult) : Prop :=
  r.nv = false ∧ r.dz = false ∧ (r.tiny = true ↔ |x| < (2 : ℝ) ^ (1 - (m.bias : ℤ))) ∧
  (r.of = true ↔ overflows m dir x) ∧
  (r.of = false → ∃ y, m.represents r.bits y ∧ roundsTo m dir x r.bits y ∧ (r.nx = true ↔ y ≠ x) ∧
    r.bits / 2 ^ (m.expBits + m.fracBits) = if x < 0 then 1 else 0) ∧
  (r.of = true → r.nx = true ∧
    let toInf : Prop := dir = 0 ∨ (dir = 2 ∧ 0 < x) ∨ (dir = 3 ∧ x < 0)
    let magnitude := m.maxExp * 2 ^ m.fracBits
    r.bits = (if x < 0 then 2 ^ (m.expBits + m.fracBits) else 0) + magnitude - (if toInf then 0 else 1))

/-- The conversions from integers (R311, R336): the source (`.s` a 32-bit, `.d` a 64-bit integer) and the
destination. -/
def fpFromIntRows : List ((BitVec 5 → BitVec 5 → Instr) × Prec × Prec) :=
  [(.FiTOs, .s, .s), (.FiTOd, .s, .d), (.FiTOq, .s, .q), (.FxTOs, .d, .s), (.FxTOd, .d, .d), (.FxTOq, .d, .q)]

/-- The signed integer in an F register. -/
def Prec.intValue (p : Prec) (s : State) (r : BitVec 5) : Int :=
  match p with
  | .s => (readFS s r).toInt
  | .d => (readFD s r).toInt
  | .q => (readFQ s r).toInt

/-- The fused multiply-adds (R313 to R317): whether the product and the addend are negated. -/
def fpFusedRows :
    List ((BitVec 5 → BitVec 5 → BitVec 5 → BitVec 5 → Instr) × Prec × Bool × Bool × Config.FpOperation) :=
  [(.FMADDs, .s, false, false, .multiplyAdd), (.FMADDd, .d, false, false, .multiplyAdd),
   (.FMSUBs, .s, false, true, .multiplySubtract), (.FMSUBd, .d, false, true, .multiplySubtract),
   (.FNMSUBs, .s, true, false, .negativeMultiplySubtract), (.FNMSUBd, .d, true, false, .negativeMultiplySubtract),
   (.FNMADDs, .s, true, true, .negativeMultiplyAdd), (.FNMADDd, .d, true, true, .negativeMultiplyAdd)]

/-- The comparisons (R306, R307): the precision, and whether a quiet NaN is invalid. -/
def fpCompareRows : List ((BitVec 2 → BitVec 5 → BitVec 5 → Instr) × Prec × Bool) :=
  [(.FCMPs, .s, false), (.FCMPd, .d, false), (.FCMPq, .q, false),
   (.FCMPEs, .s, true), (.FCMPEd, .d, true), (.FCMPEq, .q, true)]

/-- FSR with fccn replaced. -/
def setFcc (x : Fsr) (n v : BitVec 2) : Fsr :=
  { x with fcc0 := if n = 0 then v else x.fcc0, fcc1 := if n = 1 then v else x.fcc1,
           fcc2 := if n = 2 then v else x.fcc2, fcc3 := if n = 3 then v else x.fcc3 }

/-- FSR.fccn by its number. -/
def getFcc (x : Fsr) (n : BitVec 2) : BitVec 2 :=
  if n = 0 then x.fcc0 else if n = 1 then x.fcc1 else if n = 2 then x.fcc2 else x.fcc3

/-- The quad registers of an FPop can be used: the implementation has quad operations, and the numbers of quad
registers are multiples of 4 (R115, R339). -/
def quadUsable (s : State) (regs : List (Prec × BitVec 5)) : Bool :=
  regs.all fun r => decide (r.1 ≠ .q) || (s.par.hasQuad && !bit r.2 0)

/-! ## VIS -/

/-- An instruction that works lane by lane: the width of a lane, and what it does to two lanes. -/
structure LaneRow where
  make : Three
  width : Nat
  op : BitVec width → BitVec width → BitVec width

/-- An instruction that compares lane by lane: lane `k` answers bit `k` of R[rd]. -/
structure CompareRow where
  make : Three
  width : Nat
  test : BitVec width → BitVec width → Bool

/-- The result of a lane from an exact integer, wrapping. -/
def wrapLane (w : Nat) (f : Int → Int → Int) (a b : BitVec w) : BitVec w := BitVec.ofInt w (f a.toInt b.toInt)

/-- The result of a lane from an exact integer, saturated as a signed number. -/
def satLane (w : Nat) (f : Int → Int → Int) (a b : BitVec w) : BitVec w :=
  BitVec.ofInt w (clampSigned w (f a.toInt b.toInt))

/-- The result of a lane from an exact integer, saturated as an unsigned number. -/
def usatLane (w : Nat) (f : Int → Int → Int) (a b : BitVec w) : BitVec w :=
  BitVec.ofInt w (clampUnsigned w (f a.toNat b.toNat))

/-- A shift of a lane: the count is the low bits of the other lane (R409). -/
def shiftBy (w : Nat) (f : BitVec w → Nat → BitVec w) (a b : BitVec w) : BitVec w := f a (b.toNat % w)

/-- The lane-wise instructions on double registers (R377, R379, R383, R384, R390 to R392, R397, R399 to R402, R408,
R409). -/
def laneRows : List LaneRow :=
  [⟨.FPADD8, 8, wrapLane 8 (· + ·)⟩, ⟨.FPADD16, 16, wrapLane 16 (· + ·)⟩, ⟨.FPADD32, 32, wrapLane 32 (· + ·)⟩,
   ⟨.FPADD64, 64, wrapLane 64 (· + ·)⟩, ⟨.FPSUB8, 8, wrapLane 8 (· - ·)⟩, ⟨.FPSUB16, 16, wrapLane 16 (· - ·)⟩,
   ⟨.FPSUB32, 32, wrapLane 32 (· - ·)⟩, ⟨.FPSUB64, 64, wrapLane 64 (· - ·)⟩,
   ⟨.FPADDS8, 8, satLane 8 (· + ·)⟩, ⟨.FPADDS16, 16, satLane 16 (· + ·)⟩, ⟨.FPADDS32, 32, satLane 32 (· + ·)⟩,
   ⟨.FPSUBS8, 8, satLane 8 (· - ·)⟩, ⟨.FPSUBS16, 16, satLane 16 (· - ·)⟩, ⟨.FPSUBS32, 32, satLane 32 (· - ·)⟩,
   ⟨.FPADDUS8, 8, usatLane 8 (· + ·)⟩, ⟨.FPADDUS16, 16, usatLane 16 (· + ·)⟩,
   ⟨.FPSUBUS8, 8, usatLane 8 (· - ·)⟩, ⟨.FPSUBUS16, 16, usatLane 16 (· - ·)⟩,
   ⟨.FPMAX8, 8, fun a b => if b.toInt ≤ a.toInt then a else b⟩,
   ⟨.FPMAX16, 16, fun a b => if b.toInt ≤ a.toInt then a else b⟩,
   ⟨.FPMAX32, 32, fun a b => if b.toInt ≤ a.toInt then a else b⟩,
   ⟨.FPMAXU8, 8, fun a b => if b.toNat ≤ a.toNat then a else b⟩,
   ⟨.FPMAXU16, 16, fun a b => if b.toNat ≤ a.toNat then a else b⟩,
   ⟨.FPMAXU32, 32, fun a b => if b.toNat ≤ a.toNat then a else b⟩,
   ⟨.FPMIN8, 8, fun a b => if a.toInt ≤ b.toInt then a else b⟩,
   ⟨.FPMIN16, 16, fun a b => if a.toInt ≤ b.toInt then a else b⟩,
   ⟨.FPMIN32, 32, fun a b => if a.toInt ≤ b.toInt then a else b⟩,
   ⟨.FPMINU8, 8, fun a b => if a.toNat ≤ b.toNat then a else b⟩,
   ⟨.FPMINU16, 16, fun a b => if a.toNat ≤ b.toNat then a else b⟩,
   ⟨.FPMINU32, 32, fun a b => if a.toNat ≤ b.toNat then a else b⟩,
   ⟨.FCHKSM16, 16, fun a b => BitVec.ofNat 16 ((a.toNat + b.toNat) % 2 ^ 16 + (a.toNat + b.toNat) / 2 ^ 16)⟩,
   ⟨.FMEAN16, 16, wrapLane 16 fun a b => (a + b + 1) / 2⟩,
   ⟨.FMUL8SUx16, 16, fun a b => BitVec.ofInt 16 (((field a 8 8).toInt * b.toInt + 128) / 256)⟩,
   ⟨.FMUL8ULx16, 16, fun a b => BitVec.ofInt 16 (((field a 0 8).toNat * b.toInt + 32768) / 65536)⟩,
   ⟨.FSLL16, 16, shiftBy 16 fun a n => BitVec.ofNat 16 (a.toNat * 2 ^ n)⟩,
   ⟨.FSLL32, 32, shiftBy 32 fun a n => BitVec.ofNat 32 (a.toNat * 2 ^ n)⟩,
   ⟨.FSRL16, 16, shiftBy 16 fun a n => BitVec.ofNat 16 (a.toNat / 2 ^ n)⟩,
   ⟨.FSRL32, 32, shiftBy 32 fun a n => BitVec.ofNat 32 (a.toNat / 2 ^ n)⟩,
   ⟨.FSRA16, 16, shiftBy 16 fun a n => BitVec.ofInt 16 (a.toInt / 2 ^ n)⟩,
   ⟨.FSRA32, 32, shiftBy 32 fun a n => BitVec.ofInt 32 (a.toInt / 2 ^ n)⟩,
   ⟨.FSLAS16, 16, shiftBy 16 fun a n => BitVec.ofInt 16 (clampSigned 16 (a.toInt * 2 ^ n))⟩,
   ⟨.FSLAS32, 32, shiftBy 32 fun a n => BitVec.ofInt 32 (clampSigned 32 (a.toInt * 2 ^ n))⟩,
   ⟨.FORd, 64, fun a b => a ||| b⟩, ⟨.FNORd, 64, fun a b => ~~~(a ||| b)⟩, ⟨.FANDd, 64, fun a b => a &&& b⟩,
   ⟨.FNANDd, 64, fun a b => ~~~(a &&& b)⟩, ⟨.FXORd, 64, fun a b => a ^^^ b⟩, ⟨.FXNORd, 64, fun a b => ~~~(a ^^^ b)⟩,
   ⟨.FORNOT1d, 64, fun a b => ~~~a ||| b⟩, ⟨.FORNOT2d, 64, fun a b => a ||| ~~~b⟩,
   ⟨.FANDNOT1d, 64, fun a b => ~~~a &&& b⟩, ⟨.FANDNOT2d, 64, fun a b => a &&& ~~~b⟩]

/-- The lane-wise instructions on single registers (R390, R391, R400, R401, R408). -/
def laneSRows : List LaneRow :=
  [⟨.FPADD16s, 16, wrapLane 16 (· + ·)⟩, ⟨.FPADD32s, 32, wrapLane 32 (· + ·)⟩,
   ⟨.FPSUB16s, 16, wrapLane 16 (· - ·)⟩, ⟨.FPSUB32s, 32, wrapLane 32 (· - ·)⟩,
   ⟨.FPADDS16s, 16, satLane 16 (· + ·)⟩, ⟨.FPADDS32s, 32, satLane 32 (· + ·)⟩,
   ⟨.FPSUBS16s, 16, satLane 16 (· - ·)⟩, ⟨.FPSUBS32s, 32, satLane 32 (· - ·)⟩,
   ⟨.FORs, 32, fun a b => a ||| b⟩, ⟨.FNORs, 32, fun a b => ~~~(a ||| b)⟩, ⟨.FANDs, 32, fun a b => a &&& b⟩,
   ⟨.FNANDs, 32, fun a b => ~~~(a &&& b)⟩, ⟨.FXORs, 32, fun a b => a ^^^ b⟩, ⟨.FXNORs, 32, fun a b => ~~~(a ^^^ b)⟩,
   ⟨.FORNOT1s, 32, fun a b => ~~~a ||| b⟩, ⟨.FORNOT2s, 32, fun a b => a ||| ~~~b⟩,
   ⟨.FANDNOT1s, 32, fun a b => ~~~a &&& b⟩, ⟨.FANDNOT2s, 32, fun a b => a &&& ~~~b⟩]

/-- The lane-wise comparisons (R393, R394). -/
def laneCompareRows : List CompareRow :=
  [⟨.FPCMPLE8, 8, fun a b => decide (a.toInt ≤ b.toInt)⟩, ⟨.FPCMPLE16, 16, fun a b => decide (a.toInt ≤ b.toInt)⟩,
   ⟨.FPCMPLE32, 32, fun a b => decide (a.toInt ≤ b.toInt)⟩, ⟨.FPCMPGT8, 8, fun a b => decide (b.toInt < a.toInt)⟩,
   ⟨.FPCMPGT16, 16, fun a b => decide (b.toInt < a.toInt)⟩, ⟨.FPCMPGT32, 32, fun a b => decide (b.toInt < a.toInt)⟩,
   ⟨.FPCMPEQ8, 8, fun a b => decide (a = b)⟩, ⟨.FPCMPEQ16, 16, fun a b => decide (a = b)⟩,
   ⟨.FPCMPEQ32, 32, fun a b => decide (a = b)⟩, ⟨.FPCMPNE8, 8, fun a b => decide (a ≠ b)⟩,
   ⟨.FPCMPNE16, 16, fun a b => decide (a ≠ b)⟩, ⟨.FPCMPNE32, 32, fun a b => decide (a ≠ b)⟩,
   ⟨.FPCMPULE8, 8, fun a b => decide (a.toNat ≤ b.toNat)⟩, ⟨.FPCMPULE16, 16, fun a b => decide (a.toNat ≤ b.toNat)⟩,
   ⟨.FPCMPULE32, 32, fun a b => decide (a.toNat ≤ b.toNat)⟩, ⟨.FPCMPUGT8, 8, fun a b => decide (b.toNat < a.toNat)⟩,
   ⟨.FPCMPUGT16, 16, fun a b => decide (b.toNat < a.toNat)⟩, ⟨.FPCMPUGT32, 32, fun a b => decide (b.toNat < a.toNat)⟩]

/-- Byte `j` of sixteen, byte 0 the most significant (R358, R375). -/
def byteOf (hi lo : Word64) (j : Nat) : BitVec 8 := field (hi ++ lo) (8 * (15 - j)) 8

/-- The other VIS instructions that write a double register (R358, R375, R376, R378, R380 to R382, R385, R386, R388,
R395, R396, R398, R403 to R407, R414, R415): the instruction for any operands, its destination, and its value. -/
def visDoubleRows : List ((BitVec 5 → BitVec 5 → BitVec 5 → BitVec 5 → Instr) ×
    (State → BitVec 5 → BitVec 5 → BitVec 5 → BitVec 5 → Word64)) :=
  [(fun rd r1 r2 _ => .BSHUFFLE rd r1 r2, fun s _ r1 r2 _ =>
      buildLanes 64 8 8 fun j => byteOf (readFD s r1) (readFD s r2) (lane 4 j s.gsr.mask).toNat),
   (fun rd r1 r2 _ => .FALIGNDATAg rd r1 r2, fun s _ r1 r2 _ =>
      buildLanes 64 8 8 fun j => byteOf (readFD s r1) (readFD s r2) (7 - j + s.gsr.align.toNat)),
   (fun rd r1 r2 _ => .FALIGNDATAi rd r1 r2, fun s rd r1 r2 _ =>
      buildLanes 64 8 8 fun j => byteOf (readFD s rd) (readFD s r2) (7 - j + (readR s r1).toNat % 8)),
   (fun rd _ r2 _ => .FEXPAND rd r2, fun s _ _ r2 _ =>
      buildLanes 64 16 4 fun k => BitVec.ofNat 16 (16 * (lane 8 k (readFS s r2)).toNat)),
   (fun rd r1 r2 _ => .FMUL8x16 rd r1 r2, fun s _ r1 r2 _ => buildLanes 64 16 4 fun k =>
      BitVec.ofInt 16 (((lane 8 k (readFS s r1)).toNat * (lane 16 k (readFD s r2)).toInt + 128) / 256)),
   (fun rd r1 r2 _ => .FMUL8x16AU rd r1 r2, fun s _ r1 r2 _ => buildLanes 64 16 4 fun k =>
      BitVec.ofInt 16 (((lane 8 k (readFS s r1)).toNat * (lane 16 1 (readFS s r2)).toInt + 128) / 256)),
   (fun rd r1 r2 _ => .FMUL8x16AL rd r1 r2, fun s _ r1 r2 _ => buildLanes 64 16 4 fun k =>
      BitVec.ofInt 16 (((lane 8 k (readFS s r1)).toNat * (lane 16 0 (readFS s r2)).toInt + 128) / 256)),
   (fun rd r1 r2 _ => .FMULD8SUx16 rd r1 r2, fun s _ r1 r2 _ => buildLanes 64 32 2 fun k =>
      BitVec.ofInt 32 ((lane 8 (2 * k + 1) (readFS s r1)).toInt * (lane 16 k (readFS s r2)).toInt * 256)),
   (fun rd r1 r2 _ => .FMULD8ULx16 rd r1 r2, fun s _ r1 r2 _ => buildLanes 64 32 2 fun k =>
      BitVec.ofInt 32 ((lane 8 (2 * k) (readFS s r1)).toNat * (lane 16 k (readFS s r2)).toInt)),
   (fun rd r1 r2 _ => .FPACK32 rd r1 r2, fun s _ r1 r2 _ => pack32 s.gsr.scale (readFD s r1) (readFD s r2)),
   (fun rd r1 r2 _ => .FPMERGE rd r1 r2, fun s _ r1 r2 _ => buildLanes 64 8 8 fun k =>
      if k % 2 = 1 then lane 8 (k / 2) (readFS s r1) else lane 8 (k / 2) (readFS s r2)),
   (fun rd r1 r2 _ => .PDIST rd r1 r2, fun s rd r1 r2 _ =>
      readFD s rd + pixelDistance (readFD s r1) (readFD s r2)),
   (.FPMADDX, fun s _ r1 r2 r3 =>
      BitVec.ofNat 64 ((readFD s r1).toNat * (readFD s r2).toNat + (readFD s r3).toNat)),
   (.FPMADDXHI, fun s _ r1 r2 r3 =>
      BitVec.ofNat 64 (((readFD s r1).toNat * (readFD s r2).toNat + (readFD s r3).toNat) / 2 ^ 64)),
   (fun rd _ _ _ => .FZEROd rd, fun _ _ _ _ _ => 0),
   (fun rd _ _ _ => .FONEd rd, fun _ _ _ _ _ => 0xFFFFFFFFFFFFFFFF),
   (fun rd r1 _ _ => .FSRC1d rd r1, fun s _ r1 _ _ => readFD s r1),
   (fun rd _ r2 _ => .FSRC2d rd r2, fun s _ _ r2 _ => readFD s r2),
   (fun rd r1 _ _ => .FNOT1d rd r1, fun s _ r1 _ _ => ~~~readFD s r1),
   (fun rd _ r2 _ => .FNOT2d rd r2, fun s _ _ r2 _ => ~~~readFD s r2),
   (fun rd _ r2 _ => .MOVxTOd rd r2, fun s _ _ r2 _ => readR s r2)]

/-- The other VIS instructions that write a single register (R387, R389, R403 to R407, R413). -/
def visSingleRows : List ((BitVec 5 → BitVec 5 → BitVec 5 → Instr) × (State → BitVec 5 → BitVec 5 → Word32)) :=
  [(fun rd _ r2 => .FPACK16 rd r2, fun s _ r2 => pack16 s.gsr.scale (readFD s r2)),
   (fun rd _ r2 => .FPACKFIX rd r2, fun s _ r2 => packFix s.gsr.scale (readFD s r2)),
   (fun rd _ _ => .FZEROs rd, fun _ _ _ => 0),
   (fun rd _ _ => .FONEs rd, fun _ _ _ => 0xFFFFFFFF),
   (fun rd r1 _ => .FSRC1s rd r1, fun s r1 _ => readFS s r1),
   (fun rd _ r2 => .FSRC2s rd r2, fun s _ r2 => readFS s r2),
   (fun rd r1 _ => .FNOT1s rd r1, fun s r1 _ => ~~~readFS s r1),
   (fun rd _ r2 => .FNOT2s rd r2, fun s _ r2 => ~~~readFS s r2),
   (fun rd _ r2 => .MOVwTOs rd r2, fun s _ r2 => BitVec.ofNat 32 (readR s r2).toNat)]

/-- The VIS instructions that need the FPU and write an R register, without the comparisons (R410 to R412, R416). -/
def visIntRows : List ((BitVec 5 → BitVec 5 → BitVec 5 → Instr) × (State → BitVec 5 → BitVec 5 → Word64)) :=
  [(fun rd _ r2 => .MOVsTOsw rd r2, fun s _ r2 => BitVec.ofInt 64 (readFS s r2).toInt),
   (fun rd _ r2 => .MOVsTOuw rd r2, fun s _ r2 => BitVec.ofNat 64 (readFS s r2).toNat),
   (fun rd _ r2 => .MOVdTOx rd r2, fun s _ r2 => readFD s r2),
   (.PDISTN, fun s r1 r2 => pixelDistance (readFD s r1) (readFD s r2))]

/-- The EDGE instructions (R363 to R374): without and with condition codes, the element size, little-endian. -/
def edgeRows : List (Three × Three × Nat × Bool) :=
  [(.EDGE8N, .EDGE8cc, 8, false), (.EDGE8LN, .EDGE8Lcc, 8, true), (.EDGE16N, .EDGE16cc, 16, false),
   (.EDGE16LN, .EDGE16Lcc, 16, true), (.EDGE32N, .EDGE32cc, 32, false), (.EDGE32LN, .EDGE32Lcc, 32, true)]

/-- The ARRAY instructions (R354 to R356): the element size in bytes. -/
def arrayRows : List (Three × Nat) := [(.ARRAY8, 1), (.ARRAY16, 2), (.ARRAY32, 4)]

/-! ## Cryptography -/

/-- The cryptographic instructions that write F_D[rd] (R418 to R436): the instruction for any operands, its CFR bit
and its value. -/
def cryptoRows : List ((BitVec 5 → BitVec 5 → BitVec 5 → BitVec 5 → Instr) × Nat ×
    (Word64 → Word64 → Word64 → BitVec 5 → Word64)) :=
  [(.AES_EROUND01, 0, fun a b c _ => aesEncrypt true false a b c),
   (.AES_EROUND23, 0, fun a b c _ => aesEncrypt false false a b c),
   (.AES_DROUND01, 0, fun a b c _ => aesDecrypt true false a b c),
   (.AES_DROUND23, 0, fun a b c _ => aesDecrypt false false a b c),
   (.AES_EROUND01_LAST, 0, fun a b c _ => aesEncrypt true true a b c),
   (.AES_EROUND23_LAST, 0, fun a b c _ => aesEncrypt false true a b c),
   (.AES_DROUND01_LAST, 0, fun a b c _ => aesDecrypt true true a b c),
   (.AES_DROUND23_LAST, 0, fun a b c _ => aesDecrypt false true a b c),
   (.AES_KEXPAND1, 0, fun a b _ n => keyStep (subWord (rotWord (field b 0 32)) ^^^ rcon n) a),
   (fun rd r1 r2 _ => .AES_KEXPAND0 rd r1 r2, 0, fun a b _ _ => keyStep (subWord (field b 0 32)) a),
   (fun rd r1 r2 _ => .AES_KEXPAND2 rd r1 r2, 0, fun a b _ _ => keyStep (field b 0 32) a),
   (.DES_ROUND, 1, fun a b c _ => desTwoRounds a b c),
   (fun rd r1 _ _ => .DES_IP rd r1, 1, fun a _ _ _ => permute 64 desIpTable a),
   (fun rd r1 _ _ => .DES_IIP rd r1, 1, fun a _ _ _ => permute 64 desFpTable (a.rotateLeft 32)),
   (.CAMELLIA_F, 3, fun a b c _ => camelliaF c a ^^^ b),
   (fun rd r1 r2 _ => .CAMELLIA_FL rd r1 r2, 3, fun a b _ _ => camelliaFL b a),
   (fun rd r1 r2 _ => .CAMELLIA_FLI rd r1 r2, 3, fun a b _ _ => camelliaFLI b a)]

/-- CRC32C (R432): the two steps of the function of CRC32C_FN. -/
def crcResult (step : Word32 → Word32 → Word32) (a b : Word64) : Word64 :=
  (step (step (field a 0 32) (field b 32 32)) (field b 0 32)).setWidth 64

/-- The instructions without operand registers in their word, and their CFR bit (R437 to R449). -/
def multiRows (imm5 : BitVec 5) : List (Instr × Nat) :=
  [(.MD5, 4), (.SHA1, 5), (.SHA256, 6), (.SHA512, 7), (.MPMUL imm5, 8), (.MONTMUL imm5, 9), (.MONTSQR imm5, 10),
   (.XMPMUL imm5, 12), (.XMONTMUL imm5, 13), (.XMONTSQR imm5, 14)]

/-- Where a multiple-precision instruction does not complete (R439): compatibility_feature without its CFR bit, then
fp_disabled, then a fill trap unless CANRESTORE = 6. -/
def multiStops (o : Out) (s : State) (cfrBit : Nat) : Prop :=
  let fill : Exc := if s.otherwin ≠ 0 then .fill true s.wstate.other else .fill false s.wstate.normal
  (bit s.par.cfr cfrBit = false → o = takeTrap .compatibilityFeature s) ∧
  (bit s.par.cfr cfrBit = true → fpuEnabled s = false → o = takeTrap .fpDisabled s) ∧
  (bit s.par.cfr cfrBit = true → fpuEnabled s = true → s.canrestore ≠ 6 → o = takeTrap fill s)

/-- One of the places is an F register of the lower half, or of the upper one (R35). -/
def reachesHalf (upper : Bool) (ps : List MpPlace) : Bool :=
  ps.any fun
    | .freg k => decide (16 ≤ k.toNat) == upper
    | .reg _ _ => false

/-- The Montgomery instructions (R441, R442, R448, R449): with carries, squaring, and their CFR bit. -/
def montgomeryRows : List ((BitVec 5 → Instr) × Bool × Bool × Nat) :=
  [(.MONTMUL, true, false, 9), (.MONTSQR, true, true, 10), (.XMONTMUL, false, false, 13),
   (.XMONTSQR, false, true, 14)]

end

end Sys2Proof.Machine
end

