-- ==== Sys2Proof/Certificates/Slice0/Obligations.lean ====
section
/-!
DEFINITION. The statements. Each docstring names the rules of the spec it formalises, and the log entry where it rests
on a choice of the model. A conclusion `nextWith… (exec i s) u …` says that the instruction answers a next state that is
`u` but for the register or the bytes named: `u` gives every other register, flag and byte of memory.
-/

open Sys2Proof Sys2Proof.Machine

/-! ## Encoding, fetching and the instruction boundary -/

/-- The encoder and the decoder agree on every well-formed instruction, for every operand (R108 to R130). -/
def Obligations.DecodeOfEncode : Prop :=
  ∀ i : Instr, wellFormed i = true → decode (encode i) = some i

/-- Every word that decodes is the encoding of what it decodes to, and that is well formed: no bit of a word is
dropped, and every nonzero reserved field is refused (R131, D6). -/
def Obligations.EncodeOfDecode : Prop :=
  ∀ (w : Word32) (i : Instr), decode w = some i → encode i = w ∧ wellFormed i = true

/-- Words written out from the encodings of their rules decode to their instructions. -/
def Obligations.DecodeSamples : Prop :=
  decode 0x86006001 = some (.ADD 3 1 (.imm 1)) ∧
  decode 0x03000001 = some (.SETHI 1 1) ∧
  decode 0x40000002 = some (.CALL 2) ∧
  decode 0x12800003 = some (.BNE false 3) ∧
  decode 0x81C3E008 = some (.JMPL 0 15 (.imm 8)) ∧
  decode 0xC2588002 = some (.LDX 1 2 (.reg 2)) ∧
  decode 0x9DE3BFA0 = some (.SAVE 14 14 (.imm 0x1FA0)) ∧
  decode 0x83F00000 = some .RETRY ∧
  decode 0x9190200F = some (.WRPR_PIL 0 (.imm 15)) ∧
  decode 0x8190200F = some (.WRPR_TPC 0 (.imm 15)) ∧
  decode 0x85A00842 = some (.FADDd 1 0 1)

/-- When the word at PC decodes to an instruction that is in hardware, no disrupting trap is pending and the strand is
not suspended, the step is that instruction's execution, followed by what the environment does (R92, R107, R132, R453,
R497). -/
def Obligations.StepRunsDecoded : Prop :=
  ∀ (s : State) (w : Word32) (i : Instr), undefinedMode s = false → pendingTrap s = none → suspended s = false →
    fetch s = .ok w → decode w = some i → emulated s.par w = false → step s = thenEnvironment (exec i s)

/-- The instruction boundary (R43, R44, R453, R454, R497). With no unmasked disrupting request a suspended strand does
nothing while time passes, and else the instruction at PC is fetched and executed, as `executes` says: R92 for a fetch
that raises an exception, R107 and R131 for an undefined word, R132 and R463 for one left to software, and of the
undefined words those of an implementation-dependent ASR (R29, R295, R298, D8; log entry 28), while WRPR %tick in
nonprivileged mode takes illegal_instruction by R299 or privileged_opcode by R33, as a parameter of the model says, or
either where it says nothing (log entry 40). With a request the strand wakes. How many boundaries then pass before its trap is taken is free (row 34-V8 of
file 93; log entry 15), and they execute their instructions; at the boundary at which the trap is due, an instruction
that raises a precise exception itself goes first (R454). -/
def Obligations.BoundaryTraps : Prop :=
  (∀ s : State, undefinedMode s = false → pendingTrap s = none →
     (suspended s = false → ∃ o, executes s o ∧ step s = thenEnvironment o) ∧
     (suspended s = true → step s = .next (elapse s))) ∧
  (∀ (s : State) (e : Exc), undefinedMode s = false → pendingTrap s = some e →
     (s.trapDelay = none →
       step s = step { s with trapDelay := some (Config.freeDelay s.freeCount), freeCount := s.freeCount + 1 }) ∧
     (∀ n, s.trapDelay = some (n + 1) →
       ∃ o, executes { wake s with trapDelay := some n } o ∧ step s = thenEnvironment o) ∧
     (s.trapDelay = some 0 → raisesOwn (wake s) → ∃ o, executes (wake s) o ∧ step s = thenEnvironment o) ∧
     (s.trapDelay = some 0 → ¬raisesOwn (wake s) →
       step s = thenEnvironment (takeTrap e { wake s with trapDelay := none })))

/-- Which unmasked disrupting trap is taken: none with PSTATE.ie = 0; else cpu_mondo, dev_mondo, the highest requested
interrupt level above PIL, where SOFTINT.sm also requests level 14, resumable_error, nonresumable_error (R453, R454,
R486, R488). -/
def Obligations.PendingPriority : Prop :=
  ∀ s : State,
    let requested (n : BitVec 4) : Prop :=
      0 < n.toNat ∧ (bit s.softint n.toNat = true ∨ (n = 14 ∧ bit s.softint 16 = true))
    let levels : Prop := ∃ n, requested n ∧ s.pil.toNat < n.toNat
    let cpu : Prop := s.queueHead.cpuMondo ≠ s.queueTail.cpuMondo
    let dev : Prop := s.queueHead.devMondo ≠ s.queueTail.devMondo
    let res : Prop := s.queueHead.resumable ≠ s.queueTail.resumable
    let nonres : Prop := s.queueHead.nonresumable ≠ s.queueTail.nonresumable
    (s.pstate.ie = false → pendingTrap s = none) ∧
    (s.pstate.ie = true →
      (cpu → pendingTrap s = some .cpuMondo) ∧
      (¬cpu → dev → pendingTrap s = some .devMondo) ∧
      (¬cpu → ¬dev → ∀ n, requested n → s.pil.toNat < n.toNat →
        (∀ m, requested m → m.toNat ≤ n.toNat) → pendingTrap s = some (.interruptLevel n)) ∧
      (¬cpu → ¬dev → ¬levels → res → pendingTrap s = some .resumableError) ∧
      (¬cpu → ¬dev → ¬levels → ¬res → nonres → pendingTrap s = some .nonresumableError) ∧
      (¬cpu → ¬dev → ¬levels → ¬res → ¬nonres → pendingTrap s = none))

/-- What happens between two instructions. A tick is of at least a nanosecond (R497); with every bit of STICK and
STICK_CMPR implemented the counters advance, the PAUSE and MWAIT counts fall, an MWAIT that ends disarms the
Load-Monitor (R44, and log entry 18: the model's choice), and SOFTINT.sm is set exactly when STICK comes to a nonzero
STICK_CMPR whose interrupt is enabled (R33, R40, R41, R43). A request sets SOFTINT bits 15:1 (R486); an entry is
appended to a queue that is not full (R488); an aligned store of another strand is visible whole, at one instant (R68,
R93), and one to the monitored line ends the monitor and an MWAIT (R44, R293). The instruction side may take a copy of
a word of memory, and may begin or cease to use one (R99, log entry 11). Which of these fall into one gap, and that a
free tick comes after a free number of gaps once none are given, is the model's choice (log entry 7). -/
def Obligations.TickEvent : Prop :=
  (∀ (s : State) (ns cycles : Nat), s.par.stickM = 0 → s.par.stickCmprN = 0 → 0 < s.stickCmpr.cmpr.toNat → 0 < ns →
    let reached : Prop := s.stickCmpr.intDis = false ∧
      ∃ k, 0 < k ∧ k ≤ ns ∧ (s.stick.toNat + k) % 2 ^ 63 = s.stickCmpr.cmpr.toNat
    ∃ t, applyEvent s (.tick ns cycles) = t ∧
      t.stick.toNat = (s.stick.toNat + ns) % 2 ^ 63 ∧ t.tick.toNat = (s.tick.toNat + cycles) % 2 ^ 63 ∧
      t.pause = s.pause - ns ∧ t.mwait = s.mwait - ns ∧
      (reached → t.softint = s.softint ||| 0x10000) ∧ (¬reached → t.softint = s.softint) ∧
      t.monitor = (if 0 < s.mwait ∧ s.mwait ≤ ns then none else s.monitor) ∧
      t = { s with stick := t.stick, tick := t.tick, pause := t.pause, mwait := t.mwait, softint := t.softint,
                   monitor := t.monitor }) ∧
  (∀ (s : State) (cycles : Nat), applyEvent s (.tick 0 cycles) = applyEvent s (.tick 1 cycles)) ∧
  (∀ (s : State) (levels : BitVec 15),
    applyEvent s (.request levels) = { s with softint := s.softint ||| BitVec.ofNat 17 (2 * levels.toNat) }) ∧
  (∀ (s : State) (q : Queue),
    let next := BitVec.ofNat 64 (((s.queueTail.get q).toNat + 64) % (s.par.queueMaxOffset + 64))
    (next = s.queueHead.get q → applyEvent s (.enqueue q) = s) ∧
    (next ≠ s.queueHead.get q → applyEvent s (.enqueue q) = { s with queueTail := s.queueTail.set q next })) ∧
  (∀ (s : State) (ra : Nat) (log : Fin 4) (v : Word64), s.mem.wf = true → ra % 2 ^ log.val = 0 →
    ra + 2 ^ log.val ≤ 2 ^ s.par.raBits →
    let line := ra / s.par.cacheLine * s.par.cacheLine
    ∃ t, applyEvent s (.remoteStore ra log v) = t ∧ bytesStored t ⟨ra, false⟩ (2 ^ log.val) v.toNat ∧
      memoryKeptOutside s t ra (2 ^ log.val) ∧
      (s.monitor = some line → t = { s with mem := t.mem, monitor := none, mwait := 0 }) ∧
      (s.monitor ≠ some line → t = { s with mem := t.mem })) ∧
  (∀ (s : State) (ra : Nat),
    let word := s.mem.read ra ++ s.mem.read (ra + 1) ++ s.mem.read (ra + 2) ++ s.mem.read (ra + 3)
    applyEvent s (.copyCode ra) = { s with code := ⟨ra, word, false⟩ :: s.code }) ∧
  (∀ (s : State) (n : Nat) (used : Bool),
    (∀ c, s.code[n]? = some c →
      applyEvent s (.useCode n used) = { s with code := s.code.set n { c with used := used } }) ∧
    (s.code.length ≤ n → applyEvent s (.useCode n used) = s)) ∧
  (∀ (s : State) (events : List EnvEvent) (rest : List (List EnvEvent)), s.env = events :: rest →
    elapse s = events.foldl applyEvent { s with env := rest }) ∧
  (∀ s : State, s.env = [] →
    (0 < s.gap → elapse s = { s with gap := s.gap - 1 }) ∧
    (s.gap = 0 → ∃ ns cycles gap, 0 < ns ∧
      elapse s = applyEvent { s with gap := gap, freeCount := s.freeCount + 1 } (.tick ns cycles)))

/-! ## Reset and invariants -/

/-- The start state has the values of R493's record INIT, and meets the invariants that the steps keep and the window
relation of R52. PC = 0, the values R493 leaves open, and that the instruction side holds no copy of memory are the
model's (log entries 1, 2, 3 and 11). -/
def Obligations.ResetState : Prop :=
  (let s := State.reset
   s.npc = s.pc + 4 ∧ wordAligned s.pc ∧
   s.pstate = { tct := false, cle := false, tle := false, pef := true, am := false, priv := true, ie := false } ∧
   s.tl = 0 ∧ s.gl = 0 ∧ s.pil = 0 ∧ s.cwp = 0 ∧ s.cansave = 6 ∧ s.canrestore = 0 ∧ s.otherwin = 0 ∧
   s.cleanwin = 7 ∧ s.wstate = { other := 0, normal := 0 } ∧
   s.fprs = { fef := true, du := false, dl := false } ∧ s.fsr.bits s.par.fsrVer = 0 ∧
   s.softint = 0 ∧ s.stickCmpr = { intDis := true, cmpr := 0 } ∧ s.pause = 0 ∧ s.mwait = 0 ∧ s.monitor = none ∧
   (∀ q, s.queueHead.get q = 0 ∧ s.queueTail.get q = 0) ∧ s.par.cfr = 0x7FFB ∧ s.code = [] ∧ pendingTrap s = none ∧
   fpuEnabled s = true ∧ plainPlatform s) ∧
  (State.reset.mem.wf = true ∧ countersAligned State.reset ∧ windowsConsistent State.reset)

/-- Every step keeps memory in its canonical form, so that equal memories are equal data (R64). -/
def Obligations.CanonicalMemoryKept : Prop :=
  ∀ s t : State, s.mem.wf = true → step s = .next t → t.mem.wf = true

/-- Every step keeps PC, NPC, TPC and TNPC word-aligned (R34, R53, R54). -/
def Obligations.AlignedCountersKept : Prop :=
  ∀ s t : State, countersAligned s → step s = .next t → countersAligned t

/-- No step changes the parameters of the implementation (R4). Each uses up one list of environment events: that is
the model's choice (log entry 7), for R497 lets a tick occur any number of times between two instructions. -/
def Obligations.ParametersKept : Prop :=
  ∀ s t : State, step s = .next t → t.par = s.par ∧ t.env = s.env.tail

/-- Nonprivileged software at TL = 0 cannot change the privileged registers but CWP, CANSAVE and CANRESTORE, which
SAVE, RESTORE and RETURN move in any mode (R37 to R39, R41, R45, R49 to R51, R53 to R58, R60 to R62, R73, R86 to R88,
R462): an instruction that it completes without a trap leaves GL, PIL, TBA, the trap stack, PSTATE, CLEANWIN, WSTATE,
OTHERWIN, the scratchpad, context and queue registers, SOFTINT and STICK_CMPR as they were. -/
def Obligations.UserModeIsolation : Prop :=
  ∀ (s t : State) (i : Instr), exec i s = .next t → s.pstate.priv = false → s.tl = 0 → t.tl = 0 →
    t.gl = s.gl ∧ t.pil = s.pil ∧ t.tba = s.tba ∧ t.trap1 = s.trap1 ∧ t.trap2 = s.trap2 ∧ t.pstate = s.pstate ∧
      t.cleanwin = s.cleanwin ∧ t.wstate = s.wstate ∧ t.otherwin = s.otherwin ∧ t.scratchpad = s.scratchpad ∧
      t.primary = s.primary ∧ t.secondary = s.secondary ∧ t.queueHead = s.queueHead ∧ t.queueTail = s.queueTail ∧
      t.softint = s.softint ∧ t.stickCmpr = s.stickCmpr

/-! ## Traps -/

/-- Taking a trap in privileged mode (R455 to R458): what is saved, the new status, window and global level, and the
handler's address; everything else is unchanged but FSR, which a floating-point exception records into, and the
Load-Monitor, which is disarmed: R44 names any trap, and log entry 18 has the model's choices about it. A
control_transfer_instruction trap saves the whole PC and NPC (R203). The CWP of a fill trap is the model's choice (log
entry 12). A trap delivered to hyperprivileged mode ends at the terminal event under the policy exit, and so do a trap
at TL = MAXPTL, htrap_instruction and a condition without a trap type (R456, log entry 6). -/
def Obligations.TrapEntered : Prop :=
  (∀ (s : State) (e : Exc) (tt : BitVec 9), e.tt = some tt → s.tl.val < 2 → e.alwaysExits = false →
     (e.toHyper = true → s.par.htrapPolicy = .reflect) →
     let saved (v : Word64) : Word64 :=
       if s.pstate.am = true ∧ tt ≠ 0x074 then BitVec.ofNat 64 (v.toNat % 2 ^ 32) else v
     let entry : TrapEntry :=
       { tpc := saved s.pc, tnpc := saved s.npc, tt := tt,
         tstate := { gl := BitVec.ofNat 3 s.gl.val, ccr := s.ccr, asi := s.asi, pstate := s.pstate,
                     cwp := s.cwp.setWidth 5 } }
     ∃ t, takeTrap e s = .next t ∧
       t.tl.val = s.tl.val + 1 ∧ t.gl.val = min 2 (s.gl.val + 1) ∧
       (s.tl.val = 0 → t.trap1 = entry ∧ t.trap2 = s.trap2) ∧ (s.tl.val = 1 → t.trap1 = s.trap1 ∧ t.trap2 = entry) ∧
       t.pstate = { tct := false, cle := s.pstate.tle, tle := s.pstate.tle, pef := s.par.hasFpu, am := false,
                    priv := true, ie := false } ∧
       t.pc.toNat = 2 ^ 15 * s.tba.toNat + (if 0 < s.tl.val then 2 ^ 14 else 0) + 32 * tt.toNat ∧
       t.npc = t.pc + 4 ∧
       t.cwp = (if tt = 0x024 then s.cwp + 1
                else if 0x080 ≤ tt.toNat ∧ tt.toNat < 0x0C0 then s.cwp + s.cansave + 2
                else if 0x0C0 ≤ tt.toNat ∧ tt.toNat < 0x100 then s.cwp - s.canrestore - 1 else s.cwp) ∧
       t.monitor = none ∧
       (∀ c, e = .fpIeee c → t.fsr = { s.fsr with ftt := 1, cexc := c }) ∧
       (∀ f, e = .fpOther f → t.fsr = { s.fsr with ftt := f }) ∧
       ((∀ c, e ≠ .fpIeee c) → (∀ f, e ≠ .fpOther f) → t.fsr = s.fsr) ∧
       t = { s with tl := t.tl, gl := t.gl, trap1 := t.trap1, trap2 := t.trap2, pstate := t.pstate, cwp := t.cwp,
                    pc := t.pc, npc := t.npc, monitor := none, fsr := t.fsr }) ∧
  (∀ (s : State) (e : Exc),
     e.tt = none ∨ e.alwaysExits = true ∨ s.tl = 2 ∨ (e.toHyper = true ∧ s.par.htrapPolicy = .exit) →
     takeTrap e s = .fault (.hyperprivilegedTrap e.tt s.pc s.npc))

/-- RETRY and DONE executed at once in the handler undo a trap (R209, R215, R458, R459): every field is back but the
trap stack, the monitor, FSR and the instruction side's copies of memory, which go (R99); RETRY resumes at the trapped
PC and DONE at its NPC, their upper words cleared where PSTATE.am was 1. -/
def Obligations.ReturnUndoesTrap : Prop :=
  ∀ (s t : State) (e : Exc) (tt : BitVec 9), e.tt = some tt → takeTrap e s = .next t →
    let low (v : Word64) : Word64 := BitVec.ofNat 64 (v.toNat % 2 ^ 32)
    let saved (v : Word64) : Word64 := if s.pstate.am = true ∧ tt ≠ 0x074 then low v else v
    let resumed (v : Word64) : Word64 :=
      if s.pstate.am = true ∧ s.par.doneRetryMasksPc = true then low v else v
    exec .RETRY t = .next { s with pc := resumed (saved s.pc), npc := resumed (saved s.npc), trap1 := t.trap1,
                                   trap2 := t.trap2, monitor := none, fsr := t.fsr, code := [] } ∧
    exec .DONE t = .next { s with pc := resumed (saved s.npc), npc := resumed (saved s.npc + 4), trap1 := t.trap1,
                                  trap2 := t.trap2, monitor := none, fsr := t.fsr, code := [] }

/-- DONE and RETRY (R209, R215): in privileged mode with TL > 0 they restore GL, CCR, ASI, PSTATE and CWP from
TSTATE[TL], lower TL, go to TNPC or TPC and synchronise the instruction side (R99); at TL = 0 illegal_instruction;
with NPC ≠ PC + 4, that is in a delay slot, the spec leaves them undefined and the model is stuck (log entry 9). For a
TSTATE that no trap saved, CWP modulo 8 and GL at most 2 are the model's choice (log entry 24). -/
def Obligations.ReturnFromTrap : Prop :=
  ∀ s : State, s.pstate.priv = true →
    (s.tl = 0 → exec .DONE s = takeTrap .illegalInstruction s ∧ exec .RETRY s = takeTrap .illegalInstruction s) ∧
    (0 < s.tl.val → transfersTrap s = true →
      exec .DONE s = takeTrap .controlTransfer s ∧ exec .RETRY s = takeTrap .controlTransfer s) ∧
    (0 < s.tl.val → transfersTrap s = false → s.npc ≠ s.pc + 4 →
      exec .DONE s = .fault .returnInDelaySlot ∧ exec .RETRY s = .fault .returnInDelaySlot) ∧
    (0 < s.tl.val → transfersTrap s = false → s.npc = s.pc + 4 →
      let x := trapEntry s
      let pc (v : Word64) : Word64 :=
        if x.tstate.pstate.am = true ∧ s.par.doneRetryMasksPc = true then BitVec.ofNat 64 (v.toNat % 2 ^ 32) else v
      let restored (t : State) : Prop :=
        t.gl.val = min 2 x.tstate.gl.toNat ∧ t.cwp.toNat = x.tstate.cwp.toNat % 8 ∧ t.tl.val + 1 = s.tl.val ∧
          t = { s with gl := t.gl, cwp := t.cwp, tl := t.tl, pc := t.pc, npc := t.npc, ccr := x.tstate.ccr,
                       asi := x.tstate.asi, pstate := x.tstate.pstate, code := [] }
      (∃ t, exec .DONE s = .next t ∧ restored t ∧ t.pc = pc x.tnpc ∧ t.npc = pc (x.tnpc + 4)) ∧
      (∃ t, exec .RETRY s = .next t ∧ restored t ∧ t.pc = pc x.tpc ∧ t.npc = pc x.tnpc))

/-- Privileged instructions in nonprivileged mode take privileged_opcode (R209, R215, R284, R286 to R288, R290, R292,
R295, R296, R298, R299, R462). -/
def Obligations.PrivilegedOpcode : Prop :=
  ∀ s : State, s.pstate.priv = false → s.tl.val < 2 →
    (∀ i ∈ [Instr.DONE, .RETRY, .ALLCLEAN, .INVALW, .NORMALW, .OTHERW, .SAVED, .RESTORED],
      exec i s = .next (enterTrap s 0x011)) ∧
    (∀ rd : Reg, exec (.RDPR_TICK rd) s = .next (enterTrap s 0x011) ∧
      (∀ r ∈ readPrivRows, exec (r.1 rd) s = .next (enterTrap s 0x011)) ∧
      (∀ r ∈ readTrapRows, exec (r.1 rd) s = .next (enterTrap s 0x011))) ∧
    (∀ (rs1 : Reg) (op2 : RegImm 13),
      (∀ r ∈ writePrivRows, exec (r.1 rs1 op2) s = .next (enterTrap s 0x011)) ∧
      (∀ r ∈ writeTrapRows, exec (r.1 rs1 op2) s = .next (enterTrap s 0x011)))

/-- Where the FPU is absent or disabled by PSTATE.pef or FPRS.fef, the instructions that use the F registers, FSR or
GSR take fp_disabled (R338): the FPops, moves and comparisons, the branches on FSR.fccn, the loads and stores of F
registers and FSR in every form, the VIS, cryptographic and multiple-precision instructions. Quad FPops (R115, R305,
R339, R341): illegal_instruction on an implementation without them; fp_exception_other with ftt = 6 for a register
number that is no multiple of 4, and for FADDq also where bit 0 of the rd field is 1. The same checks of the
conditional quad moves, and of LDQF, STQF, LDQFA and STQFA at an aligned address (R263, R267, R275, R279). -/
def Obligations.FloatUnitChecks : Prop :=
  (∀ (s : State) (rd rs1 rs2 rs3 : BitVec 5) (op2 : RegImm 13) (op11 : RegImm 11) (addr : AltOperand), s.tl.val < 2 →
     s.par.hasFpu = false ∨ s.pstate.pef = false ∨ s.fprs.fef = false →
     let trapped (i : Instr) : Prop := exec i s = .next (enterTrap s 0x020)
     let usable (p q : Prec) : Prop := p = .q ∨ q = .q → s.par.hasQuad = true
     let asi := altAsi s addr
     (∀ r ∈ fpBinaryRows, usable r.2.1 r.2.2.1 → trapped (r.1 rd rs1 rs2)) ∧
     (∀ r ∈ fpUnaryRows, usable r.2.1 r.2.2.1 → trapped (r.1 rd rs2)) ∧
     (∀ r ∈ fpFromIntRows, usable r.2.1 r.2.2 → trapped (r.1 rd rs2)) ∧
     (∀ r ∈ fpFusedRows, trapped (r.1 rd rs1 rs2 rs3)) ∧
     (∀ r ∈ fpCompareRows, ∀ cc, usable r.2.1 r.2.1 → trapped (r.1 cc rs1 rs2)) ∧
     (∀ r ∈ moveSRows, trapped (r.1 rd rs2)) ∧ (∀ r ∈ moveDRows, trapped (r.1 rd rs2)) ∧
     (s.par.hasQuad = true → ∀ r ∈ moveQRows, trapped (r.1 rd rs2)) ∧
     (∀ r ∈ fccMoveRows, ∀ cond, trapped (r.2.1 rd cond op11) ∧ trapped (r.2.2.1 rd cond rs2) ∧
       trapped (r.2.2.2.1 rd cond rs2) ∧ (s.par.hasQuad = true → trapped (r.2.2.2.2 rd cond rs2))) ∧
     (∀ r ∈ iccMoveRows, ∀ cond, trapped (r.2.2.1 rd cond rs2) ∧ trapped (r.2.2.2.1 rd cond rs2) ∧
       (s.par.hasQuad = true → trapped (r.2.2.2.2 rd cond rs2))) ∧
     (∀ r ∈ regRows, trapped (r.2.2.2.1 rd rs1 rs2) ∧ trapped (r.2.2.2.2.1 rd rs1 rs2) ∧
       (s.par.hasQuad = true → trapped (r.2.2.2.2.2 rd rs1 rs2))) ∧
     (∀ r ∈ laneRows, trapped (r.make rd rs1 rs2)) ∧ (∀ r ∈ laneSRows, trapped (r.make rd rs1 rs2)) ∧
     (∀ r ∈ laneCompareRows, trapped (r.make rd rs1 rs2)) ∧
     (∀ r ∈ visDoubleRows, trapped (r.1 rd rs1 rs2 rs3)) ∧ (∀ r ∈ visSingleRows, trapped (r.1 rd rs1 rs2)) ∧
     (∀ r ∈ visIntRows, trapped (r.1 rd rs1 rs2)) ∧
     (∀ r ∈ fccRows, ∀ a p cc disp disp19, trapped (r.2.2.1 a disp) ∧ trapped (r.2.2.2 a cc p disp19)) ∧
     (∀ (mode : BitVec 3) (cc : BitVec 2), ∀ i ∈ [Instr.SIAM mode, .FLCMPs cc rs1 rs2, .FLCMPd cc rs1 rs2], trapped i) ∧
     (∀ i ∈ [Instr.RDGSR rd, .WRGSR rs1 op2, .LDF rd rs1 op2, .LDDF rd rs1 op2, .LDFSR rs1 op2, .LDXFSR rs1 op2,
         .LDXEFSR rs1 op2, .STF rd rs1 op2, .STDF rd rs1 op2, .STFSR rs1 op2, .STXFSR rs1 op2, .LDFA rd rs1 addr,
         .STFA rd rs1 addr, .ALIGNADDRESS rd rs1 rs2, .ALIGNADDRESS_LITTLE rd rs1 rs2, .BMASK rd rs1 rs2, .CMASK8 rs2,
         .CMASK16 rs2, .CMASK32 rs2], trapped i) ∧
     (s.par.hasQuad = true →
       ∀ i ∈ [Instr.LDQF rd rs1 op2, .STQF rd rs1 op2, .LDQFA rd rs1 addr, .STQFA rd rs1 addr], trapped i) ∧
     (∀ a : BitVec 8,
       ∀ i ∈ [Instr.LDSHORTF rd rs1 rs2 a, .STSHORTF rd rs1 rs2 a, .STPARTIALF rd rs1 rs2 a], trapped i) ∧
     (rd.toNat % 8 = 0 → ∀ a : BitVec 8,
       trapped (.LDBLOCKF rd rs1 rs2 a) ∧ trapped (.STBLOCKF rd rs1 rs2 a)) ∧
     (rd.toNat % 8 = 0 ∨ asi ∉ asiBlock ++ asiCommit →
       trapped (.LDDFA rd rs1 addr) ∧ (asi ∉ asiPartial → trapped (.STDFA rd rs1 addr))) ∧
     (∀ r ∈ cryptoRows, bit s.par.cfr r.2.1 = true → trapped (r.1 rd rs1 rs2 rs3)) ∧
     (bit s.par.cfr 11 = true → trapped (.CRC32C rd rs1 rs2)) ∧
     (∀ imm5 : BitVec 5, (bit s.par.cfr 1 = true → imm5.toNat ≤ 3 → trapped (.DES_KEXPAND rd rs1 imm5)) ∧
       ∀ r ∈ multiRows imm5, bit s.par.cfr r.2 = true → trapped r.1)) ∧
  (∀ (s : State) (rd rs1 rs2 : BitVec 5),
     let stops (i : Instr) (regs : List (Prec × BitVec 5)) : Prop :=
       (∃ k, (Prec.q, k) ∈ regs) →
         (s.par.hasQuad = false → exec i s = takeTrap .illegalInstruction s) ∧
         (s.par.hasQuad = true → fpuEnabled s = true → (∃ k, (Prec.q, k) ∈ regs ∧ k.toNat % 2 = 1) →
           exec i s = takeTrap (.fpOther 6) s)
     (∀ r ∈ fpBinaryRows, stops (r.1 rd rs1 rs2) [(r.2.1, rs1), (r.2.1, rs2), (r.2.2.1, rd)]) ∧
     (s.par.hasQuad = true → fpuEnabled s = true → 16 ≤ rd.toNat →
       exec (.FADDq rd rs1 rs2) s = takeTrap (.fpOther 6) s) ∧
     (∀ r ∈ fpUnaryRows, stops (r.1 rd rs2) [(r.2.1, rs2), (r.2.2.1, rd)]) ∧
     (∀ r ∈ fpFromIntRows, stops (r.1 rd rs2) [(r.2.2, rd)]) ∧
     (∀ r ∈ moveQRows, stops (r.1 rd rs2) [(.q, rs2), (.q, rd)]) ∧
     (∀ r ∈ iccMoveRows, ∀ cond, stops (r.2.2.2.2 rd cond rs2) [(.q, rs2), (.q, rd)]) ∧
     (∀ r ∈ fccMoveRows, ∀ cond, stops (r.2.2.2.2 rd cond rs2) [(.q, rs2), (.q, rd)]) ∧
     (∀ r ∈ regRows, stops (r.2.2.2.2.2 rd rs1 rs2) [(.q, rs2), (.q, rd)]) ∧
     (∀ r ∈ fpCompareRows, ∀ cc, stops (r.1 cc rs1 rs2) [(r.2.1, rs1), (r.2.1, rs2)]) ∧
     (∀ (op2 : RegImm 13) (addr : AltOperand),
       let plain := [Instr.LDQF rd rs1 op2, .STQF rd rs1 op2]
       let alternate := [Instr.LDQFA rd rs1 addr, .STQFA rd rs1 addr]
       let bad (i : Instr) : Prop := exec i s = takeTrap (.fpOther 6) s
       (s.par.hasQuad = false → ∀ i ∈ plain ++ alternate, exec i s = takeTrap .illegalInstruction s) ∧
       (s.par.hasQuad = true → fpuEnabled s = true → rd.toNat % 2 = 1 →
         ((readR s rs1 + operand2 s op2).toNat % 16 = 0 → ∀ i ∈ plain, bad i) ∧
         ((altAddr s rs1 addr).toNat % 16 = 0 → ∀ i ∈ alternate, bad i))))

/-! ## Registers -/

/-- R[0] reads 0 in every global set and window, and writing it has no effect, directly or as the destination of an
instruction; CALL writes its own address into R[15] (R12). -/
def Obligations.RegisterZero : Prop :=
  (∀ (s : State) (gl : Fin 3) (cwp : BitVec 3), readR { s with gl := gl, cwp := cwp } 0 = 0) ∧
  (∀ (s : State) (v : Word64), writeR s 0 v = s) ∧
  (∀ (s : State) (rs1 : Reg) (op2 : RegImm 13), ∀ r ∈ intRows, exec (r.1 0 rs1 op2) s = .next (advance s)) ∧
  (∀ (s : State) (disp : BitVec 30), transfersTrap s = false → s.pstate.am = false →
    ∃ t, exec (.CALL disp) s = .next t ∧ readR t 15 = s.pc)

/-- The windows overlap and nothing else does (R11, R13): the outs of a window are the ins of the next, its locals are
its own, the globals belong to the set of GL, and a write changes the one register it names. Between any two windows
and any two values of GL, a register written shows in a register read if and only if the two share storage so. -/
def Obligations.WindowOverlap : Prop :=
  ∀ (s : State) (n m : Reg) (v : Word64),
    (readR (writeR s n v) n = if n = 0 then 0 else v) ∧
    (m ≠ n → readR (writeR s n v) m = readR s m) ∧
    (8 ≤ n.toNat → n.toNat < 16 → readR { s with cwp := s.cwp + 1 } (n + 16) = readR s n) ∧
    (n.toNat < 8 → ∀ c, readR { s with cwp := c } n = readR s n) ∧
    (16 ≤ n.toNat → n.toNat < 24 → 8 ≤ m.toNat → ∀ c, c ≠ s.cwp →
      readR { writeR s n v with cwp := c } m = readR { s with cwp := c } m) ∧
    (n.toNat < 8 → m.toNat < 8 → ∀ gl, gl ≠ s.gl → readR { writeR s n v with gl := gl } m = readR { s with gl := gl } m) ∧
    (∀ (gl1 gl2 : Fin 3) (cwp1 cwp2 : BitVec 3),
      let after := readR { writeR { s with gl := gl1, cwp := cwp1 } m v with gl := gl2, cwp := cwp2 } n
      let shared : Prop :=
        (m.toNat < 8 ∧ n = m ∧ gl1 = gl2) ∨
        (8 ≤ m.toNat ∧ 8 ≤ n.toNat ∧
          ((cwp1 = cwp2 ∧ n = m) ∨ (cwp2 = cwp1 + 1 ∧ m.toNat < 16 ∧ n.toNat = m.toNat + 16) ∨
            (cwp1 = cwp2 + 1 ∧ n.toNat < 16 ∧ m.toNat = n.toNat + 16)))
      (m ≠ 0 → shared → after = v) ∧ (m = 0 ∨ ¬shared → after = readR { s with gl := gl2, cwp := cwp2 } n))

/-- The views of the F registers (R16, R17): a double is two singles or the words above them, a quad is two doubles,
the first the more significant; writing one view changes the words it covers and no other, and sets FPRS.dl or FPRS.du
for its half (R35). -/
def Obligations.FRegisterViews : Prop :=
  ∀ (s : State) (k : DReg) (n : FReg) (x : Word32) (v : Word64) (q : Word128),
    (k.toNat < 16 → ∀ m, m.toNat = 2 * k.toNat → readFD s k = readFS s m ++ readFS s (m + 1)) ∧
    (k.toNat % 2 = 0 → readFQ s k = readFD s k ++ readFD s (k + 1)) ∧
    readFS (writeFS s n x) n = x ∧ (∀ m, m ≠ n → readFS (writeFS s n x) m = readFS s m) ∧
    readFD (writeFD s k v) k = v ∧ (∀ j, j ≠ k → readFD (writeFD s k v) j = readFD s j) ∧
    (k.toNat % 2 = 0 → readFQ (writeFQ s k q) k = q ∧
      ∀ j, j ≠ k → j ≠ k + 1 → readFD (writeFQ s k q) j = readFD s j) ∧
    (n.toNat / 2 = k.toNat →
      readFD (writeFS s n x) k = if n.toNat % 2 = 0 then x ++ field (readFD s k) 0 32 else field (readFD s k) 32 32 ++ x) ∧
    (writeFS s n x).fprs = { s.fprs with dl := true } ∧ (writeFD s k v).fprs = dirtyD s.fprs k

/-- The places of the fields in the images of CCR, FPRS, PSTATE, TSTATE, GSR and FSR (R20, R31, R35, R36, R55, R58);
every other bit reads 0. -/
def Obligations.RegisterImages : Prop :=
  (∀ (x : Ccr) (i : Nat), x.bits.getLsbD i =
    if i = 7 then x.xcc.n else if i = 6 then x.xcc.z else if i = 5 then x.xcc.v else if i = 4 then x.xcc.c
    else if i = 3 then x.icc.n else if i = 2 then x.icc.z else if i = 1 then x.icc.v else if i = 0 then x.icc.c
    else false) ∧
  (∀ b, (Ccr.ofBits b).bits = b) ∧ (∀ b, (Fprs.ofBits b).bits = b) ∧
  (∀ (par : Config.Params) (b : BitVec 13) (v : Word64), par.hasFpu = true → par.hasTct = true →
    (PState.ofBits par b).bits = b &&& 0x131E ∧ (TState.ofBits par v).bits = v &&& 0x000007FFFF131E1F) ∧
  (∀ (x : Fprs) (i : Nat), x.bits.getLsbD i =
    if i = 2 then x.fef else if i = 1 then x.du else if i = 0 then x.dl else false) ∧
  (∀ (x : PState) (i : Nat), x.bits.getLsbD i =
    if i = 12 then x.tct else if i = 9 then x.cle else if i = 8 then x.tle else if i = 4 then x.pef
    else if i = 3 then x.am else if i = 2 then x.priv else if i = 1 then x.ie else false) ∧
  (∀ x : TState, field x.bits 40 3 = x.gl ∧ field x.bits 32 8 = x.ccr.bits ∧ field x.bits 24 8 = x.asi ∧
    field x.bits 8 13 = x.pstate.bits ∧ field x.bits 0 5 = x.cwp ∧
    x.bits &&& 0x000007FFFF1FFF1F = x.bits) ∧
  (∀ x : Gsr, field x.bits 32 32 = x.mask ∧ x.bits.getLsbD 27 = x.im ∧ field x.bits 25 2 = x.irnd ∧
    field x.bits 3 5 = x.scale ∧ field x.bits 0 3 = x.align ∧ x.bits &&& 0xFFFFFFFF0E0000FF = x.bits ∧
    Gsr.ofBits x.bits = x) ∧
  (∀ (x : Fsr) (ver : BitVec 3), field (x.bits ver) 36 2 = x.fcc3 ∧ field (x.bits ver) 34 2 = x.fcc2 ∧
    field (x.bits ver) 32 2 = x.fcc1 ∧ field (x.bits ver) 30 2 = x.rd ∧ field (x.bits ver) 23 5 = x.tem.bits ∧
    (x.bits ver).getLsbD 22 = x.ns ∧
    field (x.bits ver) 17 3 = ver ∧ field (x.bits ver) 14 3 = x.ftt ∧ field (x.bits ver) 10 2 = x.fcc0 ∧
    field (x.bits ver) 5 5 = x.aexc.bits ∧ field (x.bits ver) 0 5 = x.cexc.bits ∧
    x.bits ver &&& 0x0000003FCFCFCFFF = x.bits ver)

/-! ## Integer instructions -/

/-- Integer results without condition codes (R138, R142, R144, R146, R148, R150, R155, R159, R161, R176, R178, R180,
R191 to R194, R196): R[rd] takes the result and nothing else changes but PC and NPC. -/
def Obligations.IntegerResults : Prop :=
  ∀ (s : State) (rd rs1 rs2 : Reg) (op2 : RegImm 13),
    (∀ r ∈ intRows, nextWithR (exec (r.1 rd rs1 op2) s) (advance s) rd (r.2 s (readR s rs1) (operand2 s op2))) ∧
    (∀ r ∈ intRegRows, nextWithR (exec (r.1 rd rs1 rs2) s) (advance s) rd (r.2 s (readR s rs1) (readR s rs2)))

/-- Integer results with condition codes (R139 to R141, R143, R145, R147, R149, R151, R160, R162, R177, R179, R181 to
R183, R185, R195, R197): the codes are those of the exact signed and unsigned result. TADDccTV and TSUBccTV (R184,
R186): tag_overflow when a tag bit is 1 or the 32-bit result overflows, else the result and its codes. -/
def Obligations.IntegerCodes : Prop :=
  (∀ (s : State) (rd rs1 rs2 : Reg) (op2 : RegImm 13),
     (∀ r ∈ intCcRows,
       nextWithR (exec (r.1 rd rs1 op2) s) { advance s with ccr := r.2.2 s (readR s rs1) (operand2 s op2) } rd
         (r.2.1 s (readR s rs1) (operand2 s op2))) ∧
     (∀ r ∈ intRegCcRows,
       nextWithR (exec (r.1 rd rs1 rs2) s) { advance s with ccr := r.2.2 s (readR s rs1) (readR s rs2) } rd
         (r.2.1 s (readR s rs1) (readR s rs2)))) ∧
  (∀ (s : State) (rd rs1 : Reg) (op2 : RegImm 13), ∀ r ∈ tagTrapRows,
     let a := readR s rs1
     let b := operand2 s op2
     (tagsClear a b = true → (r.2.2 a b).icc.v = false →
       nextWithR (exec (r.1 rd rs1 op2) s) { advance s with ccr := r.2.2 a b } rd (r.2.1 a b)) ∧
     (tagsClear a b = false ∨ (r.2.2 a b).icc.v = true → exec (r.1 rd rs1 op2) s = takeTrap .tagOverflow s))

/-- The 32-bit multiplies (R174, R175, R189, R190) write the 64-bit product, its upper word into Y; MULScc (R198) adds
the operand to the shifted word where Y{0} = 1 and shifts Y, its upper word and xcc by the spec's choice D29. -/
def Obligations.Multiply32 : Prop :=
  ∀ (s : State) (rd rs1 : Reg) (op2 : RegImm 13),
    let a := readR s rs1
    let b := operand2 s op2
    (∀ r ∈ multiplyRows,
      let p := r.2.1 a b
      nextWithR (exec (r.1 rd rs1 op2) s)
        { advance s with y := field p 32 32, ccr := if r.2.2 then logicCodes p else s.ccr } rd p) ∧
    (let x := BitVec.ofNat 64 ((if s.ccr.icc.n = s.ccr.icc.v then 0 else 2 ^ 31) + lowNat a / 2)
     let v := if s.y.toNat % 2 = 1 then BitVec.ofNat 64 (lowNat b) else 0
     nextWithR (exec (.MULScc rd rs1 op2) s)
       { advance s with
         y := BitVec.ofNat 32 (2 ^ 31 * (a.toNat % 2) + s.y.toNat / 2)
         ccr := sumCodes x v false }
       rd (x + v))

/-- The 32-bit divides (R164, R165, R187, R188): division_by_zero for a zero low word, else the quotient of Y and the
low word of R[rs1], saturated, and icc.v on overflow. Y is undefined afterwards: it holds a free value (log entry 8).
The 64-bit divides (R156, R157): division_by_zero, or the quotient toward zero; the most negative number divided by -1
wraps to itself. -/
def Obligations.DivideResults : Prop :=
  (∀ (s : State) (rd rs1 : Reg) (op2 : RegImm 13), ∀ r ∈ divideRows,
     let a := readR s rs1
     let b := operand2 s op2
     let q := BitVec.ofInt 64 (saturatedQuotient r.2.1 s.y a b)
     let overflow := decide (saturatedQuotient r.2.1 s.y a b ≠ exactQuotient r.2.1 s.y a b)
     (lowNat b = 0 → exec (r.1 rd rs1 op2) s = takeTrap .divisionByZero s) ∧
     (lowNat b ≠ 0 → ∃ y,
       nextWithR (exec (r.1 rd rs1 op2) s)
         { advance s with
           y := y
           freeCount := s.freeCount + 1
           ccr := if r.2.2 then codes q false false overflow false else s.ccr }
         rd q)) ∧
  (∀ (s : State) (rd rs1 : Reg) (op2 : RegImm 13), ∀ r ∈ divideXRows,
     (operand2 s op2 = 0 → exec (r.1 rd rs1 op2) s = takeTrap .divisionByZero s) ∧
     (operand2 s op2 ≠ 0 →
       nextWithR (exec (r.1 rd rs1 op2) s) (advance s) rd (r.2 (readR s rs1) (operand2 s op2))))

/-- Shifts (R167 to R173), SETHI (R166), POPC (R163) and LZCNT (R152). -/
def Obligations.ShiftsAndCounts : Prop :=
  ∀ (s : State) (rd rs1 rs2 : Reg),
    (∀ r ∈ shift32Rows, ∀ count : RegImm 5,
      nextWithR (exec (r.1 rd rs1 count) s) (advance s) rd (r.2 (readR s rs1) (countOf s count))) ∧
    (∀ r ∈ shift64Rows, ∀ count : RegImm 6,
      nextWithR (exec (r.1 rd rs1 count) s) (advance s) rd (r.2 (readR s rs1) (countOf s count))) ∧
    (∀ imm22 : BitVec 22,
      nextWithR (exec (.SETHI rd imm22) s) (advance s) rd (BitVec.ofNat 64 (1024 * imm22.toNat))) ∧
    (∀ op2 : RegImm 13, nextWithR (exec (.POPC rd op2) s) (advance s) rd
      (BitVec.ofNat 64 ((List.range 64).filter (bit (operand2 s op2))).length)) ∧
    (∃ n, nextWithR (exec (.LZCNT rd rs2) s) (advance s) rd (BitVec.ofNat 64 n) ∧ n ≤ 64 ∧
      (readR s rs2).toNat < 2 ^ (64 - n) ∧ (n < 64 → 2 ^ (63 - n) ≤ (readR s rs2).toNat))

/-- NOP is the word 0x01000000, the SETHI with rd = 0 and imm22 = 0, and changes nothing but PC and NPC (R158). -/
def Obligations.NopAdvances : Prop :=
  encode .NOP = 0x01000000 ∧ decode 0x01000000 = some .NOP ∧ encode (.SETHI 0 0) = encode .NOP ∧
    ∀ s : State, exec .NOP s = .next (advance s) ∧ exec (.SETHI 0 0) s = .next (advance s)

/-- The conditional moves to R registers (R153, R154): R[rd] takes the operand when the condition holds, and else
nothing changes but PC and NPC; those on FSR.fccn need the FPU. -/
def Obligations.ConditionalMoves : Prop :=
  ∀ (s : State) (rd rs1 : Reg),
    let moved (o : Out) (c : Bool) (v : Word64) : Prop :=
      (c = true → nextWithR o (advance s) rd v) ∧ (c = false → o = .next (advance s))
    (∀ r ∈ iccMoveRows, ∀ (cond : ICond) (op2 : RegImm 11),
      moved (exec (r.2.1 rd cond op2) s) (icondTest cond (selectCc s r.1)) (operand2 s op2)) ∧
    (∀ r ∈ fccMoveRows, ∀ (cond : FCond) (op2 : RegImm 11), fpuEnabled s = true →
      moved (exec (r.2.1 rd cond op2) s) (fcondTest cond (getFcc s.fsr r.1)) (operand2 s op2)) ∧
    (∀ r ∈ fccMoveRows, ∀ (cond : FCond) (op2 : RegImm 11), fpuEnabled s = false →
      exec (r.2.1 rd cond op2) s = takeTrap .fpDisabled s) ∧
    (∀ r ∈ regRows, ∀ op2 : RegImm 10,
      moved (exec (r.2.2.1 rd rs1 op2) s) (r.1 (readR s rs1).toInt) (operand2 s op2))

/-! ## Control transfers -/

/-- Bicc, BPcc and BPr (R199 to R206): the delay instruction runs unless an untaken branch, or an unconditional one
that is taken, annuls it; a taken branch under PSTATE.tct traps. -/
def Obligations.IntegerBranches : Prop :=
  ∀ (s : State) (a p : Bool),
    let goes (o : Out) (always taken : Bool) (ea : Word64) : Prop :=
      (taken = false ∨ transfersTrap s = false → o = .next (branchNext s always taken a ea)) ∧
      (taken = true → transfersTrap s = true → o = takeTrap .controlTransfer s)
    (∀ r ∈ iccRows, ∀ disp : BitVec 22,
      goes (exec (r.2.2.1 a disp) s) r.1 (r.2.1 s.ccr.icc) (s.pc + BitVec.ofInt 64 (4 * disp.toInt))) ∧
    (∀ r ∈ iccRows, ∀ (cc : IccSel) (disp : BitVec 19),
      goes (exec (r.2.2.2.1 a cc p disp) s) r.1 (r.2.1 (if cc = .icc then s.ccr.icc else s.ccr.xcc))
        (s.pc + BitVec.ofInt 64 (4 * disp.toInt))) ∧
    (∀ r ∈ regRows, ∀ (rs1 : Reg) (disp : BitVec 16),
      goes (exec (r.2.1 a p rs1 disp) s) false (r.1 (readR s rs1).toInt) (s.pc + BitVec.ofInt 64 (4 * disp.toInt)))

/-- FBfcc and FBPfcc (R199 to R201, R203, R210 to R212): fp_disabled without the FPU; else as the integer branches. -/
def Obligations.FloatBranches : Prop :=
  ∀ (s : State) (a p : Bool),
    let goes (o : Out) (always taken : Bool) (ea : Word64) : Prop :=
      (fpuEnabled s = false → o = takeTrap .fpDisabled s) ∧
      (fpuEnabled s = true → taken = false ∨ transfersTrap s = false → o = .next (branchNext s always taken a ea)) ∧
      (fpuEnabled s = true → taken = true → transfersTrap s = true → o = takeTrap .controlTransfer s)
    (∀ r ∈ fccRows, ∀ disp : BitVec 22,
      goes (exec (r.2.2.1 a disp) s) r.1 (decide (s.fsr.fcc0 ∈ r.2.1)) (s.pc + BitVec.ofInt 64 (4 * disp.toInt))) ∧
    (∀ r ∈ fccRows, ∀ (cc : BitVec 2) (disp : BitVec 19),
      goes (exec (r.2.2.2 a cc p disp) s) r.1 (decide (getFcc s.fsr cc ∈ r.2.1))
        (s.pc + BitVec.ofInt 64 (4 * disp.toInt)))

/-- CWBcond and CXBcond (R207): they compare as SUBcc does, without writing the codes, and transfer at once. -/
def Obligations.CompareBranches : Prop :=
  ∀ (s : State) (rs1 : Reg) (op2 : RegImm 5) (disp : BitVec 10), ∀ r ∈ compareRows,
    let c := diffCodes (readR s rs1) (operand2 s op2) false
    let ea := s.pc + BitVec.ofInt 64 (4 * disp.toInt)
    let goes (o : Out) (taken : Bool) : Prop :=
      (taken = false → o = .next (advance s)) ∧
      (taken = true → transfersTrap s = false → o = .next { s with pc := ea, npc := ea + 4 }) ∧
      (taken = true → transfersTrap s = true → o = takeTrap .controlTransfer s)
    goes (exec (r.2.1 rs1 op2 disp) s) (r.1 c.icc) ∧ goes (exec (r.2.2 rs1 op2 disp) s) (r.1 c.xcc)

/-- CALL, JMPL and RETURN (R59, R203, R208, R214, R216): the link value has its upper word cleared under PSTATE.am;
the transfer is delayed; the exceptions come in the order of the rules. -/
def Obligations.CallJumpReturn : Prop :=
  ∀ (s : State) (rd rs1 : Reg) (op2 : RegImm 13) (disp : BitVec 30),
    let link := if s.pstate.am then BitVec.ofNat 64 (s.pc.toNat % 2 ^ 32) else s.pc
    let target := readR s rs1 + operand2 s op2
    let fill : Exc := if s.otherwin ≠ 0 then .fill true s.wstate.other else .fill false s.wstate.normal
    (transfersTrap s = false →
      nextWithR (exec (.CALL disp) s) { s with pc := s.npc, npc := s.pc + BitVec.ofInt 64 (4 * disp.toInt) } 15 link) ∧
    (transfersTrap s = true → exec (.CALL disp) s = takeTrap .controlTransfer s) ∧
    (wordAligned target → transfersTrap s = false →
      nextWithR (exec (.JMPL rd rs1 op2) s) { s with pc := s.npc, npc := target } rd link) ∧
    (¬wordAligned target → exec (.JMPL rd rs1 op2) s = takeTrap .memAddressNotAligned s) ∧
    (wordAligned target → transfersTrap s = true → exec (.JMPL rd rs1 op2) s = takeTrap .controlTransfer s) ∧
    (s.canrestore ≠ 0 → wordAligned target → transfersTrap s = false →
      exec (.RETURN rs1 op2) s = .next
        { s with pc := s.npc, npc := target, cwp := s.cwp - 1, canrestore := s.canrestore - 1,
                 cansave := s.cansave + 1 }) ∧
    (s.canrestore = 0 → exec (.RETURN rs1 op2) s = takeTrap fill s) ∧
    (s.canrestore ≠ 0 → ¬wordAligned target → exec (.RETURN rs1 op2) s = takeTrap .memAddressNotAligned s) ∧
    (s.canrestore ≠ 0 → wordAligned target → transfersTrap s = true →
      exec (.RETURN rs1 op2) s = takeTrap .controlTransfer s)

/-- Tcc (R217): with the condition false nothing but PC and NPC changes; else the low bits of R[rs1] plus the operand
number the trap, and numbers from 128 on are htrap_instruction in privileged mode alone. -/
def Obligations.TrapOnCondition : Prop :=
  ∀ (s : State) (cc : IccSel) (rs1 : Reg) (op2 : RegImm 8), ∀ r ∈ iccRows,
    let taken := r.2.1 (if cc = .icc then s.ccr.icc else s.ccr.xcc)
    let v := (readR s rs1).toNat + (match op2 with | .reg rs2 => (readR s rs2).toNat | .imm n => n.toNat)
    let o := exec (r.2.2.2.2 cc rs1 op2) s
    (taken = false → o = .next (advance s)) ∧
    (taken = true → transfersTrap s = true → o = takeTrap .controlTransfer s) ∧
    (taken = true → transfersTrap s = false → s.pstate.priv = true → 128 ≤ v % 256 →
      o = takeTrap (.htrapInstruction (BitVec.ofNat 7 v)) s) ∧
    (taken = true → transfersTrap s = false → s.pstate.priv = false ∨ v % 256 < 128 →
      o = takeTrap (.trapInstruction (BitVec.ofNat 7 v)) s) ∧
    (taken = true → transfersTrap s = false → s.tl.val < 2 → s.pstate.priv = false ∨ v % 256 < 128 →
      o = .next (enterTrap s (BitVec.ofNat 9 (0x100 + v % 128))))

/-- ILLTRAP (R213): a word with op = 00, op2 = 000 and bits 29:25 zero is ILLTRAP, with any const22, and raises
illegal_instruction; with bits 29:25 not zero it raises illegal_instruction too. -/
def Obligations.IllegalTrap : Prop :=
  ∀ (s : State) (bits : BitVec 5) (const22 : BitVec 22),
    let w : Word32 := (0 : BitVec 2) ++ bits ++ (0 : BitVec 3) ++ const22
    exec (.ILLTRAP const22) s = takeTrap .illegalInstruction s ∧
    (bits = 0 → decode w = some (.ILLTRAP const22)) ∧
    (fetch s = .ok w → attempt s = takeTrap .illegalInstruction s) ∧
    (s.tl.val < 2 → s.par.htrapPolicy = .reflect → exec (.ILLTRAP const22) s = .next (enterTrap s 0x010))

/-! ## Memory -/

/-- On the default platform (R101, R102) an address is its own real address and every access with an implicit ASI is
allowed (R72): big-endian unless PSTATE.cle, the upper word of the address cleared under PSTATE.am (R59); a fetch
takes the first copy of the word at PC that the instruction side uses (R99, log entry 11), and without one reads the
big-endian word in memory (R108). -/
def Obligations.DefaultPlatform : Prop :=
  ∀ s : State, plainPlatform s →
    let va (a : Word64) : Nat := if s.pstate.am then a.toNat % 2 ^ 32 else a.toNat
    (∀ (ea : Word64) (n : Nat) (kind : AccessKind), va ea < 2 ^ s.par.raBits →
      accessImplicit s ea n kind = .ok ⟨va ea, s.pstate.cle⟩ ∧
      (ea.toNat % n = 0 → placeImplicit s ea n kind = .ok ⟨va ea, s.pstate.cle⟩)) ∧
    (va s.pc < 2 ^ s.par.raBits →
      let serves (c : CodeCopy) : Prop := c.used = true ∧ c.ra = va s.pc
      ((∀ c ∈ s.code, ¬serves c) → fetch s = .ok (s.mem.read (va s.pc) ++ s.mem.read (va s.pc + 1) ++
        s.mem.read (va s.pc + 2) ++ s.mem.read (va s.pc + 3))) ∧
      (∀ before c rest, s.code = before ++ c :: rest → (∀ d ∈ before, ¬serves d) → serves c → fetch s = .ok c.word))

/-- Byte order (R70): a value of `n` bytes has its most significant byte at the lowest address, or at the highest one
where the access is little-endian; what is stored is read back, and no other byte changes. -/
def Obligations.MemoryBytes : Prop :=
  ∀ (s : State) (x : Place) (n v : Nat), s.mem.wf = true →
    loadValue s x n =
      ((List.range n).map fun k =>
        (s.mem.read (x.ra + k)).toNat * 256 ^ (if x.little then k else n - 1 - k)).sum ∧
    loadValue (storeValue s x n v) x n = v % 256 ^ n ∧ bytesStored (storeValue s x n v) x n v ∧
    memoryKeptOutside s (storeValue s x n v) x.ra n ∧ (storeValue s x n v).mem.wf = true ∧
    storeValue s x n v = { s with mem := (storeValue s x n v).mem }

/-- Integer loads (R222 to R237): R[rd] takes the extended value of the bytes at the place that the checks of R91
give; a Load-Monitor ASI arms the monitor on the line (R84). An exception of the checks is taken. With an ASI of the
implementation (D9) the bytes are free: the model's choice (log entry 28). -/
def Obligations.IntegerLoads : Prop :=
  ∀ (s : State) (rd rs1 : Reg) (op2 : RegImm 13) (addr : AltOperand), ∀ r ∈ loadRows,
    let n := r.2.2.1
    let asi := altAsi s addr
    let plain := placeImplicit s (readR s rs1 + operand2 s op2) n .load
    let alternate := placeAsi s asi (asiLoad ++ asiMonitor) (altAddr s rs1 addr) n .load
    (∀ x, plain = .ok x →
      nextWithR (exec (r.1 rd rs1 op2) s) (advance s) rd (extended r.2.2.2 n (loadValue s x n))) ∧
    (∀ e, plain = .error (.trap e) → exec (r.1 rd rs1 op2) s = takeTrap e s) ∧
    (n ≠ 8 ∨ asi ∉ asiRegister →
      (∀ x, alternate = .ok x →
        nextWithR (exec (r.2.1 rd rs1 addr) s)
          { advance s with monitor := if asi ∈ asiMonitor then some (lineOf s x.ra) else s.monitor } rd
          (extended r.2.2.2 n (loadValue s x n))) ∧
      (∀ e, alternate = .error (.trap e) → exec (r.2.1 rd rs1 addr) s = takeTrap e s)) ∧
    (opensAsi s asi → (altAddr s rs1 addr).toNat % n = 0 →
      nextWithR (exec (r.2.1 rd rs1 addr) s) { advance s with freeCount := s.freeCount + 1 } rd
        (extended r.2.2.2 n ((Config.freeWord s.freeCount).toNat % 256 ^ n)))

/-- Integer stores (R245 to R254): the low bytes of R[rd] go to the place that the checks of R91 give, and no other
byte changes; a block-initialising store may change its line where STBI_LINE_EFFECT says so (R80). A store with an ASI
of the implementation (D9) changes nothing else: the model's choice (log entry 28). -/
def Obligations.IntegerStores : Prop :=
  ∀ (s : State) (rd rs1 : Reg) (op2 : RegImm 13) (addr : AltOperand), s.mem.wf = true → ∀ r ∈ storeRows,
    let n := r.2.2
    let asi := altAsi s addr
    let plain := placeImplicit s (readR s rs1 + operand2 s op2) n .store
    let alternate := placeAsi s asi (storeAsis n) (altAddr s rs1 addr) n .store
    (∀ x, plain = .ok x → nextStored (exec (r.1 rd rs1 op2) s) (advance s) x n (readR s rd).toNat) ∧
    (∀ e, plain = .error (.trap e) → exec (r.1 rd rs1 op2) s = takeTrap e s) ∧
    (n ≠ 8 ∨ asi ∉ asiRegister →
      (∀ x, alternate = .ok x →
        nextStoredAsi (exec (r.2.1 rd rs1 addr) s) (advance s) asi x n (readR s rd).toNat) ∧
      (∀ e, alternate = .error (.trap e) → exec (r.2.1 rd rs1 addr) s = takeTrap e s)) ∧
    (opensAsi s asi → (altAddr s rs1 addr).toNat % n = 0 → exec (r.2.1 rd rs1 addr) s = .next (advance s))

/-- Twin loads and stores (R14, R240 to R242, R255, R256): the first word or extended word belongs to the even
register and the lower address, each in its own byte order; an odd rd is an illegal instruction; an exception of the
checks is taken. With an ASI of the implementation (D9) LDTWA gives free words, and STTWA changes nothing else: the
model's choice (log entry 28). -/
def Obligations.TwinAccesses : Prop :=
  ∀ (s : State) (rd rs1 rs2 : Reg) (op2 : RegImm 13) (addr : AltOperand) (asi : BitVec 8), s.mem.wf = true →
    let ea := readR s rs1 + operand2 s op2
    let loaded (o : Out) (p : Eff Place) (n : Nat) : Prop :=
      stopsAs o s p ∧ ∀ x, p = .ok x →
        nextWithPair o (advance s) rd (BitVec.ofNat 64 (loadValue s x n)) (BitVec.ofNat 64 (loadValue s (x.plus n) n))
    let stored (t : State) (x : Place) : Prop :=
      bytesStored t x 4 (readR s rd).toNat ∧ bytesStored t (x.plus 4) 4 (readR s (rd ||| 1)).toNat
    let plain := placeImplicit s ea 8 .store
    let alternate := placeAsi s (altAsi s addr) (asiStore ++ asiStbi) (altAddr s rs1 addr) 8 .store
    (rd.toNat % 2 = 1 → ∀ i ∈ [Instr.LDTW rd rs1 op2, .STTW rd rs1 op2, .LDTWA rd rs1 addr, .STTWA rd rs1 addr,
      .LDTXA rd rs1 rs2 asi], exec i s = takeTrap .illegalInstruction s) ∧
    (rd.toNat % 2 = 0 →
      loaded (exec (.LDTW rd rs1 op2) s) (placeImplicit s ea 8 .load) 4 ∧
      loaded (exec (.LDTWA rd rs1 addr) s) (placeAsi s (altAsi s addr) asiLoad (altAddr s rs1 addr) 8 .load) 4 ∧
      loaded (exec (.LDTXA rd rs1 rs2 asi) s)
        (placeAsi s asi asiTwin (readR s rs1 + readR s rs2) 16 .cachedLoad) 8 ∧
      stopsAs (exec (.STTW rd rs1 op2) s) s plain ∧
      (∀ x, plain = .ok x →
        ∃ t, exec (.STTW rd rs1 op2) s = .next t ∧ stored t x ∧ memoryKeptOutside s t x.ra 8 ∧
          t = { advance s with mem := t.mem }) ∧
      stopsAs (exec (.STTWA rd rs1 addr) s) s alternate ∧
      (∀ x, alternate = .ok x →
        ∃ t, exec (.STTWA rd rs1 addr) s = .next t ∧ stored t x ∧
          memoryKeptByStore s t (altAsi s addr) x 8 ∧
          t = { advance s with mem := t.mem, freeCount := t.freeCount }) ∧
      (opensAsi s (altAsi s addr) → (altAddr s rs1 addr).toNat % 8 = 0 →
        nextWithPair (exec (.LDTWA rd rs1 addr) s) { advance s with freeCount := s.freeCount + 2 } rd
          ((field (Config.freeWord s.freeCount) 0 32).setWidth 64)
          ((field (Config.freeWord (s.freeCount + 1)) 0 32).setWidth 64) ∧
        exec (.STTWA rd rs1 addr) s = .next (advance s)))

/-- Atomic load-stores (R98, R219, R220, R238, R239, R257, R258): the old value goes to R[rd] and the new one to
memory; CASA and CASXA store only when memory equals the low bytes of R[rs2]; an exception of the checks is taken. With
an ASI of the implementation (D9) the old value is free: the model's choice (log entry 28). -/
def Obligations.AtomicAccesses : Prop :=
  ∀ (s : State) (rd rs1 rs2 : Reg) (op2 : RegImm 13) (addr : AltOperand) (source : AsiSource), s.mem.wf = true →
    let ea := readR s rs1 + operand2 s op2
    let exchanged (o : Out) (x : Place) (n v : Nat) : Prop :=
      ∃ m, nextWithR o { advance s with mem := m } rd (BitVec.ofNat 64 (loadValue s x n)) ∧
        bytesStored { s with mem := m } x n v ∧ memoryKeptOutside s { s with mem := m } x.ra n
    let exchanges (o : Out) (p : Eff Place) (n v : Nat) : Prop :=
      stopsAs o s p ∧ ∀ x, p = .ok x → exchanged o x n v
    let compares (o : Out) (p : Eff Place) (n : Nat) : Prop :=
      stopsAs o s p ∧ ∀ x, p = .ok x →
        (loadValue s x n = (readR s rs2).toNat % 256 ^ n → exchanged o x n (readR s rd).toNat) ∧
        (loadValue s x n ≠ (readR s rs2).toNat % 256 ^ n →
          nextWithR o (advance s) rd (BitVec.ofNat 64 (loadValue s x n)))
    let place (n : Nat) := placeAsi s (altAsi s addr) asiAtomic (altAddr s rs1 addr) n .atomic
    let casPlace (n : Nat) := placeAsi s (casAsi s source) asiAtomic (readR s rs1) n .atomic
    exchanges (exec (.LDSTUB rd rs1 op2) s) (placeImplicit s ea 1 .atomic) 1 0xFF ∧
    exchanges (exec (.LDSTUBA rd rs1 addr) s) (place 1) 1 0xFF ∧
    exchanges (exec (.SWAP rd rs1 op2) s) (placeImplicit s ea 4 .atomic) 4 (readR s rd).toNat ∧
    exchanges (exec (.SWAPA rd rs1 addr) s) (place 4) 4 (readR s rd).toNat ∧
    compares (exec (.CASA rd rs1 rs2 source) s) (casPlace 4) 4 ∧
    compares (exec (.CASXA rd rs1 rs2 source) s) (casPlace 8) 8 ∧
    (let opens (i : Instr) (n : Nat) : Prop :=
       nextWithR (exec i s) { advance s with freeCount := s.freeCount + 1 } rd
         (BitVec.ofNat 64 ((Config.freeWord s.freeCount).toNat % 256 ^ n))
     (opensAsi s (altAsi s addr) → opens (.LDSTUBA rd rs1 addr) 1 ∧
       ((altAddr s rs1 addr).toNat % 4 = 0 → opens (.SWAPA rd rs1 addr) 4)) ∧
     (opensAsi s (casAsi s source) →
       ((readR s rs1).toNat % 4 = 0 → opens (.CASA rd rs1 rs2 source) 4) ∧
       ((readR s rs1).toNat % 8 = 0 → opens (.CASXA rd rs1 rs2 source) 8)))

/-- LDXA and STXA with a register ASI, in both forms of the address (R69, R73, R75, R86 to R89): alignment, then
privileged_action in nonprivileged mode, then DAE_invalid_asi for an ASI that is not implemented or an address that
names no register (D10, D11); else the scratchpad registers, the context registers, the heads and tails of the four
queues, a tail being read-only unless QUEUE_TAIL_WRITABLE, and a value above QUEUE_MAX_OFFSET leaving a free multiple
of 64 (log entry 8); and in any mode the performance counters, which read as a free value (R490, log entries 8 and
19). -/
def Obligations.RegisterAsis : Prop :=
  ∀ (s : State) (rd rs1 : Reg) (addr : AltOperand),
    let asi : BitVec 8 := match addr with | .immAsi a _ => a | .asiReg _ => s.asi
    let ea : Nat := match addr with
      | .immAsi _ rs2 => (readR s rs1 + readR s rs2).toNat
      | .asiReg simm13 => (readR s rs1 + BitVec.ofInt 64 simm13.toInt).toNat
    let load := exec (.LDXA rd rs1 addr) s
    let store := exec (.STXA rd rs1 addr) s
    let v := readR s rd
    let id : BitVec 16 := BitVec.ofNat 16 (v.toNat % 2 ^ s.par.contextBits)
    let holds (x : Word64) (t : State) : Prop := nextWithR load (advance s) rd x ∧ store = .next t
    let trap (e : Exc) : Prop := load = takeTrap e s ∧ store = takeTrap e s
    let queued (make : Word64 → State) : Prop :=
      (v.toNat ≤ s.par.queueMaxOffset → store = .next (make (BitVec.ofNat 64 (v.toNat / 64 * 64)))) ∧
      (s.par.queueMaxOffset < v.toNat → ∃ w : Word64, w.toNat % 64 = 0 ∧ store = .next (make w))
    let u : State := { advance s with freeCount := s.freeCount + 1 }
    (asi ∈ [0x20, 0x21, 0x25, 0xB0] → ea % 8 ≠ 0 → trap .memAddressNotAligned) ∧
    (asi ∈ [0x20, 0x21, 0x25] → ea % 8 = 0 → s.pstate.priv = false → trap .privilegedAction) ∧
    (asi ∈ [0x20, 0x21, 0x25] → ea % 8 = 0 → s.pstate.priv = true → asi ∈ s.par.absentAsis → trap .daeInvalidAsi) ∧
    (asi ∉ s.par.absentAsis → ea % 8 = 0 → s.pstate.priv = true →
      (asi = 0x20 →
        (∀ i : Fin 8, i.val < 4 ∨ s.par.scratchpad47 = true → ea = 8 * i.val →
          holds s.scratchpad[i] { advance s with scratchpad := s.scratchpad.set i v }) ∧
        (64 ≤ ea ∨ (32 ≤ ea ∧ s.par.scratchpad47 = false) → trap .daeInvalidAsi)) ∧
      (asi = 0x21 →
        (ea = 0x008 → holds (s.primary.id0.setWidth 64) { advance s with primary := ⟨id, id⟩ }) ∧
        (ea = 0x010 → holds (s.secondary.id0.setWidth 64) { advance s with secondary := ⟨id, id⟩ }) ∧
        (ea = 0x028 → holds (s.primary.id0.setWidth 64) { advance s with primary := ⟨id, s.primary.id1⟩ }) ∧
        (ea = 0x030 → holds (s.secondary.id0.setWidth 64) { advance s with secondary := ⟨id, s.secondary.id1⟩ }) ∧
        (ea = 0x108 → holds (s.primary.id1.setWidth 64) { advance s with primary := ⟨s.primary.id0, id⟩ }) ∧
        (ea = 0x110 → holds (s.secondary.id1.setWidth 64) { advance s with secondary := ⟨s.secondary.id0, id⟩ }) ∧
        (ea ∉ [0x008, 0x010, 0x028, 0x030, 0x108, 0x110] → trap .daeInvalidAsi)) ∧
      (asi = 0x25 →
        (∀ q ∈ [(0x3C0, Queue.cpuMondo), (0x3D0, .devMondo), (0x3E0, .resumable), (0x3F0, .nonresumable)],
          (ea = q.1 → nextWithR load (advance s) rd (s.queueHead.get q.2) ∧
            queued fun w => { u with queueHead := s.queueHead.set q.2 w }) ∧
          (ea = q.1 + 8 → nextWithR load (advance s) rd (s.queueTail.get q.2) ∧
            (s.par.queueTailWritable = false → store = takeTrap .daeInvalidAsi s) ∧
            (s.par.queueTailWritable = true → queued fun w => { u with queueTail := s.queueTail.set q.2 w }))) ∧
        (ea < 0x3C0 ∨ 0x400 ≤ ea → trap .daeInvalidAsi))) ∧
    (asi = 0xB0 → ea % 8 = 0 →
      (∀ i : Fin 4, i.val < s.par.picCount → ea = 8 * i.val →
        store = .next { advance s with pic := s.pic.set i (BitVec.ofNat 64 (v.toNat % 2 ^ s.par.picBits)) } ∧
        ∃ x : Word64, x.toNat < 2 ^ s.par.picBits ∧ nextWithR load { u with pic := s.pic.set i x } rd x) ∧
      (32 ≤ ea ∨ 8 * s.par.picCount ≤ ea → trap .daeInvalidAsi))

/-- MEMBAR, STBAR and the prefetches change nothing but PC and NPC in a strand that performs its accesses in order
(R97, R243, R244, R259; log entry 10); the reserved prefetch functions are illegal. FLUSH makes the instruction side
give up its copies of memory (R99, R221; log entry 11): all of them, or with FLUSH_USES_MMU, where it is translated as
the access of a load (log entry 42), those of its doubleword. PREFETCHA with a privileged or
invalid ASI is a NOP by R244, or takes privileged_action by R73 or DAE_invalid_asi by R76, R79, R91 and R465, as a
parameter of the model says (log entry 34). -/
def Obligations.BarriersAndPrefetch : Prop :=
  ∀ (s : State) (rs1 : Reg) (op2 : RegImm 13) (addr : AltOperand) (cmask : BitVec 3) (mmask : BitVec 4)
      (fcn : BitVec 5),
    exec (.MEMBAR cmask mmask) s = .next (advance s) ∧ exec .STBAR s = .next (advance s) ∧
    (s.par.flushUsesMmu = false → exec (.FLUSH rs1 op2) s = .next (advance { s with code := [] })) ∧
    (s.par.flushUsesMmu = true →
      let space := (asiSpace (implicitAsi s)).getD .primary
      let ea := BitVec.ofNat 64 ((readR s rs1 + operand2 s op2).toNat / 8 * 8)
      let place := locate s (implicitAsi s) space ea ⟨false, false, false⟩
      stopsAs (exec (.FLUSH rs1 op2) s) s place ∧
      ∀ x, place = .ok x → ∃ code, exec (.FLUSH rs1 op2) s = .next (advance { s with code := code }) ∧
        ∀ c, c ∈ code ↔ c ∈ s.code ∧ c.ra / 8 ≠ x.ra / 8) ∧
    (fcn.toNat < 5 ∨ 16 ≤ fcn.toNat →
      exec (.PREFETCH fcn rs1 op2) s = .next (advance s) ∧
      (let asi := altAsi s addr
       let valid : Prop := asi ∈ asiPrefetch ∧ asiAbsent s.par asi false = false
       let o := exec (.PREFETCHA fcn rs1 addr) s
       (s.par.prefetchaNop = true → o = .next (advance s)) ∧
       (asiPrivileged s asi = false → valid ∨ opensAsi s asi → o = .next (advance s)) ∧
       (s.par.prefetchaNop = false → asiPrivileged s asi = true → o = takeTrap .privilegedAction s) ∧
       (s.par.prefetchaNop = false → asiPrivileged s asi = false → ¬valid → ¬opensAsi s asi →
         o = takeTrap .daeInvalidAsi s))) ∧
    (5 ≤ fcn.toNat → fcn.toNat < 16 →
      exec (.PREFETCH fcn rs1 op2) s = takeTrap .illegalInstruction s ∧
      exec (.PREFETCHA fcn rs1 addr) s = takeTrap .illegalInstruction s)

/-- Misaligned accesses (R69, R220, R242, R260, R262, R263, R266, R269, R271, R274, R275, R281, R282):
mem_address_not_aligned, or for a doubleword on a word boundary the exception of LDDF and STDF, and for a quadword on
a word boundary that of LDQF and STQF, before the check of the quad register number: that order is the model's choice
(log entry 30). STPARTIALF at an address that is 4 modulo 8 takes the exception of STDF by R281, or
mem_address_not_aligned by R82, as a parameter of the model says (log entry 41). An ASI that is restricted to other
instructions raises DAE_invalid_asi, aligned or not (R79, R81 to R83); for stores and atomic accesses that is the
model's choice (log entry 29). -/
def Obligations.MisalignedAccesses : Prop :=
  ∀ (s : State) (rd rs1 rs2 : Reg) (op2 : RegImm 13) (addr : AltOperand) (source : AsiSource) (a : BitVec 8),
    let ea := (readR s rs1 + operand2 s op2).toNat
    let alt := (altAddr s rs1 addr).toNat
    let asi := altAsi s addr
    let sum := (readR s rs1 + readR s rs2).toNat
    let traps (e : Exc) (i : Instr) : Prop := exec i s = takeTrap e s
    let misaligned := traps .memAddressNotAligned
    (∀ r ∈ loadRows, ea % r.2.2.1 ≠ 0 → misaligned (r.1 rd rs1 op2)) ∧
    (∀ r ∈ storeRows, ea % r.2.2 ≠ 0 → misaligned (r.1 rd rs1 op2)) ∧
    (ea % 4 ≠ 0 → misaligned (.SWAP rd rs1 op2)) ∧
    (rd.toNat % 2 = 0 → ea % 8 ≠ 0 → misaligned (.LDTW rd rs1 op2) ∧ misaligned (.STTW rd rs1 op2)) ∧
    (casAsi s source ∉ asiRestrictedUse →
      ((readR s rs1).toNat % 4 ≠ 0 → misaligned (.CASA rd rs1 rs2 source)) ∧
      ((readR s rs1).toNat % 8 ≠ 0 → misaligned (.CASXA rd rs1 rs2 source))) ∧
    (asi ∉ asiRestrictedUse →
      (∀ r ∈ loadRows, alt % r.2.2.1 ≠ 0 → misaligned (r.2.1 rd rs1 addr)) ∧
      (∀ r ∈ storeRows, alt % r.2.2 ≠ 0 → misaligned (r.2.1 rd rs1 addr)) ∧
      (alt % 4 ≠ 0 → misaligned (.SWAPA rd rs1 addr)) ∧
      (rd.toNat % 2 = 0 → alt % 8 ≠ 0 → misaligned (.LDTWA rd rs1 addr) ∧ misaligned (.STTWA rd rs1 addr))) ∧
    (rd.toNat % 2 = 0 → a ∈ asiTwin → sum % 16 ≠ 0 → misaligned (.LDTXA rd rs1 rs2 a)) ∧
    (fpuEnabled s = true →
      (ea % 4 ≠ 0 → ∀ i ∈ [Instr.LDF rd rs1 op2, .LDDF rd rs1 op2, .LDFSR rs1 op2, .STF rd rs1 op2, .STDF rd rs1 op2,
        .STFSR rs1 op2], misaligned i) ∧
      (ea % 8 = 4 → traps .lddfNotAligned (.LDDF rd rs1 op2) ∧ traps .stdfNotAligned (.STDF rd rs1 op2) ∧
        misaligned (.LDXFSR rs1 op2) ∧ misaligned (.STXFSR rs1 op2)) ∧
      (asi ∉ asiRestrictedUse →
        (alt % 4 ≠ 0 → ∀ i ∈ [Instr.LDFA rd rs1 addr, .LDDFA rd rs1 addr, .STFA rd rs1 addr, .STDFA rd rs1 addr],
          misaligned i) ∧
        (alt % 8 = 4 → traps .lddfNotAligned (.LDDFA rd rs1 addr) ∧ traps .stdfNotAligned (.STDFA rd rs1 addr))) ∧
      (asi ∈ asiPartial ∨ (asi ∈ asiCommit ∧ (rd.toNat % 8 = 0 ∨ s.par.commitLoadIllegal = false)) →
        (alt % 4 ≠ 0 → misaligned (.LDDFA rd rs1 addr)) ∧ (alt % 8 = 4 → traps .lddfNotAligned (.LDDFA rd rs1 addr))) ∧
      (rd.toNat % 8 = 0 → sum % 64 ≠ 0 →
        (a ∈ asiBlock → misaligned (.LDBLOCKF rd rs1 rs2 a)) ∧
        (a ∈ asiBlock ++ asiCommit → misaligned (.STBLOCKF rd rs1 rs2 a))) ∧
      (rd.toNat % 8 = 0 → alt % 64 ≠ 0 → (asi ∈ asiBlock → misaligned (.LDDFA rd rs1 addr)) ∧
        (asi ∈ asiBlock ++ asiCommit → misaligned (.STDFA rd rs1 addr))) ∧
      (a ∈ [0xD2, 0xD3, 0xDA, 0xDB] → sum % 2 ≠ 0 →
        misaligned (.LDSHORTF rd rs1 rs2 a) ∧ misaligned (.STSHORTF rd rs1 rs2 a)) ∧
      (asi ∈ [0xD2, 0xD3, 0xDA, 0xDB] → alt % 2 ≠ 0 →
        misaligned (.LDDFA rd rs1 addr) ∧ misaligned (.STDFA rd rs1 addr)) ∧
      ((readR s rs1).toNat % 4 ≠ 0 → misaligned (.STPARTIALF rd rs1 rs2 a)) ∧
      ((readR s rs1).toNat % 8 = 4 →
        traps (if s.par.partialStdf then .stdfNotAligned else .memAddressNotAligned) (.STPARTIALF rd rs1 rs2 a)) ∧
      (s.par.hasQuad = true →
        (ea % 4 ≠ 0 → misaligned (.LDQF rd rs1 op2) ∧ misaligned (.STQF rd rs1 op2)) ∧
        (ea % 4 = 0 → ea % 16 ≠ 0 →
          traps .ldqfNotAligned (.LDQF rd rs1 op2) ∧ traps .stqfNotAligned (.STQF rd rs1 op2)) ∧
        (asi ∉ asiRestrictedUse →
          (alt % 4 ≠ 0 → misaligned (.LDQFA rd rs1 addr) ∧ misaligned (.STQFA rd rs1 addr)) ∧
          (alt % 4 = 0 → alt % 16 ≠ 0 →
            traps .ldqfNotAligned (.LDQFA rd rs1 addr) ∧ traps .stqfNotAligned (.STQFA rd rs1 addr))))) ∧
    (asiPrivileged s asi = false → s.par.watchData = [] → s.par.watchOther = false →
      let invalid := traps .daeInvalidAsi
      let noStore : Prop := asi ∈ asiBlock ++ asiCommit ++ asiPartial ++ asiShort
      (asi ∈ asiRestrictedUse →
        (∀ r ∈ loadRows, invalid (r.2.1 rd rs1 addr)) ∧ invalid (.LDSTUBA rd rs1 addr) ∧ invalid (.SWAPA rd rs1 addr) ∧
        (rd.toNat % 2 = 0 → invalid (.LDTWA rd rs1 addr)) ∧ (fpuEnabled s = true → invalid (.LDFA rd rs1 addr)) ∧
        (fpuEnabled s = true → s.par.hasQuad = true → rd.toNat % 2 = 0 → invalid (.LDQFA rd rs1 addr))) ∧
      (noStore →
        (∀ r ∈ storeRows, invalid (r.2.1 rd rs1 addr)) ∧ (rd.toNat % 2 = 0 → invalid (.STTWA rd rs1 addr)) ∧
        (fpuEnabled s = true → invalid (.STFA rd rs1 addr)) ∧
        (fpuEnabled s = true → s.par.hasQuad = true → rd.toNat % 2 = 0 → invalid (.STQFA rd rs1 addr))))

/-! ## Floating-point loads and stores -/

/-- Floating-point loads (R24, R261 to R263, R265 to R268, R270): the register takes the value at the place that the
checks give, with FPRS.dl or FPRS.du; LDFSR and LDXFSR leave FSR.ver and FSR.ftt, and LDFSR also fcc1 to fcc3; an
exception of the checks is taken. LDDFA with ASI 0xE0 or 0xE1 and rd no multiple of 8 takes illegal_instruction by
case (1) of R266, or DAE_invalid_asi after the alignment checks by the row 255-U3-Cs10 of file 93, as a parameter of
the model says (log entry 17). With an ASI of the implementation (D9) the register takes a free value: the model's
choice (log entry 28). -/
def Obligations.FloatLoads : Prop :=
  ∀ (s : State) (rd rs1 : BitVec 5) (op2 : RegImm 13) (addr : AltOperand), fpuEnabled s = true →
    let ea := readR s rs1 + operand2 s op2
    let alt := altAddr s rs1 addr
    let asi := altAsi s addr
    let value (x : Place) (n m : Nat) : BitVec m := BitVec.ofNat m (loadValue s x n)
    let low (x : Fsr) (w : Word64) : Fsr :=
      { x with ns := s.par.hasNsMode && bit w 22, rd := field w 30 2, tem := .ofBits (field w 23 5),
               fcc0 := field w 10 2, aexc := .ofBits (field w 5 5), cexc := .ofBits (field w 0 5) }
    let wide (x : Fsr) (w : Word64) : Fsr :=
      { low x w with fcc3 := field w 36 2, fcc2 := field w 34 2, fcc1 := field w 32 2 }
    (∀ x, placeImplicit s ea 4 .load = .ok x →
      nextWithFS (exec (.LDF rd rs1 op2) s) (advance s) rd (value x 4 32) ∧
      exec (.LDFSR rs1 op2) s = .next { advance s with fsr := low s.fsr (value x 4 64) }) ∧
    (∀ x, placeImplicit s ea 8 .load = .ok x →
      nextWithFD (exec (.LDDF rd rs1 op2) s) (advance s) rd (value x 8 64) ∧
      exec (.LDXFSR rs1 op2) s = .next { advance s with fsr := wide s.fsr (value x 8 64) } ∧
      exec (.LDXEFSR rs1 op2) s =
        .next { advance s with fsr := { wide s.fsr (value x 8 64) with ftt := field (value x 8 64) 14 3 } }) ∧
    (∀ x, s.par.hasQuad = true → rd.toNat % 2 = 0 → placeImplicit s ea 16 .load = .ok x →
      nextWithFQ (exec (.LDQF rd rs1 op2) s) (advance s) rd (value x 16 128)) ∧
    (∀ x, placeAsi s asi asiLoad alt 4 .load = .ok x →
      nextWithFS (exec (.LDFA rd rs1 addr) s) (advance s) rd (value x 4 32)) ∧
    (∀ x, asi ∈ asiLoad → placeAsi s asi asiLoad alt 8 .load = .ok x →
      nextWithFD (exec (.LDDFA rd rs1 addr) s) (advance s) rd (value x 8 64)) ∧
    (∀ x, s.par.hasQuad = true → rd.toNat % 2 = 0 → asi ∈ asiLoad → placeAsi s asi asiLoad alt 16 .load = .ok x →
      nextWithFQ (exec (.LDQFA rd rs1 addr) s) (advance s) rd (value x 16 128)) ∧
    stopsAs (exec (.LDF rd rs1 op2) s) s (placeImplicit s ea 4 .load) ∧
    stopsAs (exec (.LDFSR rs1 op2) s) s (placeImplicit s ea 4 .load) ∧
    stopsAs (exec (.LDXFSR rs1 op2) s) s (placeImplicit s ea 8 .load) ∧
    stopsAs (exec (.LDXEFSR rs1 op2) s) s (placeImplicit s ea 8 .load) ∧
    stopsAs (exec (.LDFA rd rs1 addr) s) s (placeAsi s asi asiLoad alt 4 .load) ∧
    (ea.toNat % 8 = 0 → stopsAs (exec (.LDDF rd rs1 op2) s) s (accessImplicit s ea 8 .load)) ∧
    (alt.toNat % 8 = 0 → asi ∉ asiBlock ++ asiShort →
      (asi ∈ asiCommit → rd.toNat % 8 = 0 ∨ s.par.commitLoadIllegal = false) →
      stopsAs (exec (.LDDFA rd rs1 addr) s) s (accessAsi s asi asiLoad alt 8 .load)) ∧
    (asi ∈ asiCommit → rd.toNat % 8 ≠ 0 → s.par.commitLoadIllegal = true →
      exec (.LDDFA rd rs1 addr) s = takeTrap .illegalInstruction s) ∧
    (s.par.hasQuad = true → rd.toNat % 2 = 0 →
      (ea.toNat % 16 = 0 → stopsAs (exec (.LDQF rd rs1 op2) s) s (accessImplicit s ea 16 .load)) ∧
      (alt.toNat % 16 = 0 → stopsAs (exec (.LDQFA rd rs1 addr) s) s (accessAsi s asi asiLoad alt 16 .load))) ∧
    (opensAsi s asi →
      let u : State := { advance s with freeCount := s.freeCount + 1 }
      let free (n : Nat) := Config.freeWord (s.freeCount + n)
      (alt.toNat % 4 = 0 → nextWithFS (exec (.LDFA rd rs1 addr) s) u rd (field (free 0) 0 32)) ∧
      (alt.toNat % 8 = 0 → nextWithFD (exec (.LDDFA rd rs1 addr) s) u rd (free 0)) ∧
      (s.par.hasQuad = true → rd.toNat % 2 = 0 → alt.toNat % 16 = 0 →
        nextWithFQ (exec (.LDQFA rd rs1 addr) s) { u with freeCount := s.freeCount + 2 } rd (free 0 ++ free 1)))

/-- Floating-point stores (R273 to R275, R277 to R280, R283): STFSR and STXFSR store FSR and then clear FSR.ftt; an
exception of the checks is taken. A store with an ASI of the implementation (D9) changes nothing else: the model's
choice (log entry 28). -/
def Obligations.FloatStores : Prop :=
  ∀ (s : State) (rd rs1 : BitVec 5) (op2 : RegImm 13) (addr : AltOperand), fpuEnabled s = true → s.mem.wf = true →
    let ea := readR s rs1 + operand2 s op2
    let alt := altAddr s rs1 addr
    let asi := altAsi s addr
    let cleared : State := { advance s with fsr := { s.fsr with ftt := 0 } }
    (∀ x, placeImplicit s ea 4 .store = .ok x →
      nextStored (exec (.STF rd rs1 op2) s) (advance s) x 4 (readFS s rd).toNat ∧
      nextStored (exec (.STFSR rs1 op2) s) cleared x 4 (s.fsr.bits s.par.fsrVer).toNat) ∧
    (∀ x, placeImplicit s ea 8 .store = .ok x →
      nextStored (exec (.STDF rd rs1 op2) s) (advance s) x 8 (readFD s rd).toNat ∧
      nextStored (exec (.STXFSR rs1 op2) s) cleared x 8 (s.fsr.bits s.par.fsrVer).toNat) ∧
    (∀ x, s.par.hasQuad = true → rd.toNat % 2 = 0 → placeImplicit s ea 16 .store = .ok x →
      nextStored (exec (.STQF rd rs1 op2) s) (advance s) x 16 (readFQ s rd).toNat) ∧
    (∀ x, placeAsi s asi (asiStore ++ asiStbi) alt 4 .store = .ok x →
      nextStoredAsi (exec (.STFA rd rs1 addr) s) (advance s) asi x 4 (readFS s rd).toNat) ∧
    (∀ x, asi ∈ asiStore → placeAsi s asi asiStore alt 8 .store = .ok x →
      nextStored (exec (.STDFA rd rs1 addr) s) (advance s) x 8 (readFD s rd).toNat) ∧
    (∀ x, s.par.hasQuad = true → rd.toNat % 2 = 0 → aligned alt 16 = true →
      placeAsi s asi (asiStore ++ asiStbi) alt 16 .store = .ok x →
      nextStoredAsi (exec (.STQFA rd rs1 addr) s) (advance s) asi x 16 (readFQ s rd).toNat) ∧
    stopsAs (exec (.STF rd rs1 op2) s) s (placeImplicit s ea 4 .store) ∧
    stopsAs (exec (.STFSR rs1 op2) s) s (placeImplicit s ea 4 .store) ∧
    stopsAs (exec (.STXFSR rs1 op2) s) s (placeImplicit s ea 8 .store) ∧
    stopsAs (exec (.STFA rd rs1 addr) s) s (placeAsi s asi (asiStore ++ asiStbi) alt 4 .store) ∧
    (ea.toNat % 8 = 0 → stopsAs (exec (.STDF rd rs1 op2) s) s (accessImplicit s ea 8 .store)) ∧
    (alt.toNat % 8 = 0 → asi ∉ asiBlock ++ asiCommit ++ asiShort ++ asiPartial →
      stopsAs (exec (.STDFA rd rs1 addr) s) s (accessAsi s asi asiStore alt 8 .store)) ∧
    (s.par.hasQuad = true → rd.toNat % 2 = 0 →
      (ea.toNat % 16 = 0 → stopsAs (exec (.STQF rd rs1 op2) s) s (accessImplicit s ea 16 .store)) ∧
      (alt.toNat % 16 = 0 →
        stopsAs (exec (.STQFA rd rs1 addr) s) s (accessAsi s asi (asiStore ++ asiStbi) alt 16 .store))) ∧
    (opensAsi s asi →
      (alt.toNat % 4 = 0 → exec (.STFA rd rs1 addr) s = .next (advance s)) ∧
      (alt.toNat % 8 = 0 → exec (.STDFA rd rs1 addr) s = .next (advance s)) ∧
      (s.par.hasQuad = true → rd.toNat % 2 = 0 → alt.toNat % 16 = 0 →
        exec (.STQFA rd rs1 addr) s = .next (advance s)))

/-- Block, short and partial accesses (R81 to R83, R260, R266, R269, R271, R278, R281, R282), also through LDDFA and
STDFA with the ASI register: eight doubles from or to 64 bytes; one byte or two bytes zero-extended; the elements of a
doubleword that a mask selects; a partial-store ASI in the ASI register is an illegal instruction of STDFA; an
exception of the checks is taken. -/
def Obligations.SpecialFloatAccesses : Prop :=
  ∀ (s : State) (rd : DReg) (rs1 rs2 : Reg) (simm13 : BitVec 13) (asi : BitVec 8),
    fpuEnabled s = true → s.mem.wf = true →
    let sum := readR s rs1 + readR s rs2
    let offset := readR s rs1 + sext64 simm13
    let shortOf (a : BitVec 8) : Nat := if a ∈ [0xD0, 0xD1, 0xD8, 0xD9] then 1 else 2
    let size := if asi ∈ [0xC0, 0xC1, 0xC8, 0xC9] then 1 else if asi ∈ [0xC2, 0xC3, 0xCA, 0xCB] then 2 else 4
    let load (i : Instr) (a : BitVec 8) (ea : Word64) : Prop :=
      stopsAs (exec i s) s (placeAsi s a asiBlock ea 64 .cachedLoad) ∧
      ∀ x, placeAsi s a asiBlock ea 64 .cachedLoad = .ok x → ∃ t, exec i s = .next t ∧
        (∀ j : DReg, j.toNat < 8 → readFD t (rd + j) = BitVec.ofNat 64 (loadValue s (x.plus (8 * j.toNat)) 8)) ∧
        (∀ k : DReg, k.toNat / 8 ≠ rd.toNat / 8 → readFD t k = readFD s k) ∧
        t = { advance s with f := t.f, fprs := dirtyD s.fprs rd }
    let store (i : Instr) (a : BitVec 8) (ea : Word64) : Prop :=
      stopsAs (exec i s) s (placeAsi s a (asiBlock ++ asiCommit) ea 64 .store) ∧
      ∀ x, placeAsi s a (asiBlock ++ asiCommit) ea 64 .store = .ok x → ∃ t, exec i s = .next t ∧
        (∀ j : DReg, j.toNat < 8 → bytesStored t (x.plus (8 * j.toNat)) 8 (readFD s (rd + j)).toNat) ∧
        memoryKeptOutside s t x.ra 64 ∧ t = { advance s with mem := t.mem }
    let short (ld st : Instr) (a : BitVec 8) (ea : Word64) : Prop :=
      stopsAs (exec ld s) s (placeAsi s a asiShort ea (shortOf a) .load) ∧
      stopsAs (exec st s) s (placeAsi s a asiShort ea (shortOf a) .store) ∧
      (∀ x, placeAsi s a asiShort ea (shortOf a) .load = .ok x →
        nextWithFD (exec ld s) (advance s) rd (BitVec.ofNat 64 (loadValue s x (shortOf a)))) ∧
      (∀ x, placeAsi s a asiShort ea (shortOf a) .store = .ok x →
        nextStored (exec st s) (advance s) x (shortOf a) (readFD s rd).toNat)
    let partialPlace := accessAsi s asi asiPartial (readR s rs1) 8 .cachedStore
    (rd.toNat % 8 = 0 →
      load (.LDBLOCKF rd rs1 rs2 asi) asi sum ∧ store (.STBLOCKF rd rs1 rs2 asi) asi sum ∧
      (s.asi ∈ asiBlock → load (.LDDFA rd rs1 (.asiReg simm13)) s.asi offset) ∧
      (s.asi ∈ asiBlock ++ asiCommit → store (.STDFA rd rs1 (.asiReg simm13)) s.asi offset)) ∧
    (rd.toNat % 8 ≠ 0 →
      exec (.LDBLOCKF rd rs1 rs2 asi) s = takeTrap .illegalInstruction s ∧
      exec (.STBLOCKF rd rs1 rs2 asi) s = takeTrap .illegalInstruction s ∧
      (s.asi ∈ asiBlock → exec (.LDDFA rd rs1 (.asiReg simm13)) s = takeTrap .illegalInstruction s) ∧
      (s.asi ∈ asiBlock ++ asiCommit →
        exec (.STDFA rd rs1 (.asiReg simm13)) s = takeTrap .illegalInstruction s)) ∧
    (asi ∈ asiShort → short (.LDSHORTF rd rs1 rs2 asi) (.STSHORTF rd rs1 rs2 asi) asi sum) ∧
    (s.asi ∈ asiShort →
      short (.LDDFA rd rs1 (.asiReg simm13)) (.STDFA rd rs1 (.asiReg simm13)) s.asi offset) ∧
    (s.asi ∈ asiPartial → exec (.STDFA rd rs1 (.asiReg simm13)) s = takeTrap .illegalInstruction s) ∧
    (asi ∈ asiPartial → aligned (readR s rs1) 8 = true →
      stopsAs (exec (.STPARTIALF rd rs1 rs2 asi) s) s partialPlace ∧
      ∀ x, partialPlace = .ok x →
        ∃ t, exec (.STPARTIALF rd rs1 rs2 asi) s = .next t ∧
          (∀ b, b < 8 → let at_ := x.ra + (if x.little then b else 7 - b)
            t.mem.read at_ = if bit (readR s rs2) (b / size) then field (readFD s rd) (8 * b) 8 else s.mem.read at_) ∧
          memoryKeptOutside s t x.ra 8 ∧ t = { advance s with mem := t.mem })

/-! ## Register windows -/

/-- SAVE, RESTORE and FLUSHW (R285, R289, R291, R483): the operands are read in the old window and the sum is written
in the new one; the spill, fill and clean_window exceptions in their order; the window relation of R52 is kept. -/
def Obligations.SaveRestore : Prop :=
  ∀ (s : State) (rd rs1 : Reg) (op2 : RegImm 13),
    let sum := readR s rs1 + operand2 s op2
    let spill : Exc := if s.otherwin ≠ 0 then .spill true s.wstate.other else .spill false s.wstate.normal
    let fill : Exc := if s.otherwin ≠ 0 then .fill true s.wstate.other else .fill false s.wstate.normal
    (s.cansave = 0 → exec (.SAVE rd rs1 op2) s = takeTrap spill s) ∧
    (s.cansave ≠ 0 → s.cleanwin = s.canrestore → exec (.SAVE rd rs1 op2) s = takeTrap .cleanWindow s) ∧
    (s.cansave ≠ 0 → s.cleanwin ≠ s.canrestore →
      nextWithR (exec (.SAVE rd rs1 op2) s)
        { advance s with cwp := s.cwp + 1, cansave := s.cansave - 1, canrestore := s.canrestore + 1 } rd sum) ∧
    (s.canrestore = 0 → exec (.RESTORE rd rs1 op2) s = takeTrap fill s) ∧
    (s.canrestore ≠ 0 →
      nextWithR (exec (.RESTORE rd rs1 op2) s)
        { advance s with cwp := s.cwp - 1, cansave := s.cansave + 1, canrestore := s.canrestore - 1 } rd sum) ∧
    (s.cansave = 6 → exec .FLUSHW s = .next (advance s)) ∧
    (s.cansave ≠ 6 → exec .FLUSHW s = takeTrap spill s) ∧
    (windowsConsistent s → ∀ i t, i = .SAVE rd rs1 op2 ∨ i = .RESTORE rd rs1 op2 ∨ i = .RETURN rs1 op2 →
      exec i s = .next t → windowsConsistent t)

/-- ALLCLEAN and INVALW (R284, R286), from their encodings: illegal_instruction where bits 18:0 are not zero, then
privileged_opcode in nonprivileged mode; else CLEANWIN takes 7, or CANSAVE 6 and CANRESTORE and OTHERWIN 0, and
nothing else changes but PC and NPC. -/
def Obligations.WindowMarks : Prop :=
  ∀ (s : State) (low : BitVec 19),
    let word (fcn : BitVec 5) : Word32 := (0b10 : BitVec 2) ++ fcn ++ (0b110001 : BitVec 6) ++ low
    let does (o : Out) (t : State) : Prop :=
      (low ≠ 0 → o = takeTrap .illegalInstruction s) ∧
      (low = 0 → s.pstate.priv = false → o = takeTrap .privilegedOpcode s) ∧
      (low = 0 → s.pstate.priv = true → o = .next t)
    (emulated s.par (word 0b00010) = false → fetch s = .ok (word 0b00010) →
      does (attempt s) { advance s with cleanwin := 7 }) ∧
    (emulated s.par (word 0b00101) = false → fetch s = .ok (word 0b00101) →
      does (attempt s) { advance s with cansave := 6, canrestore := 0, otherwin := 0 }) ∧
    (s.pstate.priv = true → exec .ALLCLEAN s = .next { advance s with cleanwin := 7 } ∧
      exec .INVALW s = .next { advance s with cansave := 6, canrestore := 0, otherwin := 0 })

/-- NORMALW, OTHERW, SAVED and RESTORED in privileged mode (R287, R288, R290, R292); the window states in which the
spec leaves SAVED and RESTORED undefined leave the model stuck (log entry 9). -/
def Obligations.WindowTransfers : Prop :=
  ∀ s : State, s.pstate.priv = true →
    exec .NORMALW s = .next { advance s with canrestore := s.otherwin, otherwin := 0 } ∧
    exec .OTHERW s = .next { advance s with otherwin := s.canrestore, canrestore := 0 } ∧
    (s.cansave.toNat < 6 → s.otherwin = 0 → s.canrestore ≠ 0 →
      exec .SAVED s = .next { advance s with cansave := s.cansave + 1, canrestore := s.canrestore - 1 }) ∧
    (s.cansave.toNat < 6 → s.otherwin ≠ 0 →
      exec .SAVED s = .next { advance s with cansave := s.cansave + 1, otherwin := s.otherwin - 1 }) ∧
    (6 ≤ s.cansave.toNat ∨ (s.otherwin = 0 ∧ s.canrestore = 0) → exec .SAVED s = .fault .savedUndefined) ∧
    (let clean := BitVec.ofNat 3 (min 7 (s.cleanwin.toNat + 1))
     (s.canrestore.toNat < 6 → s.otherwin = 0 → s.cansave ≠ 0 →
       exec .RESTORED s =
         .next { advance s with canrestore := s.canrestore + 1, cleanwin := clean, cansave := s.cansave - 1 }) ∧
     (s.canrestore.toNat < 6 → s.otherwin ≠ 0 →
       exec .RESTORED s =
         .next { advance s with canrestore := s.canrestore + 1, cleanwin := clean, otherwin := s.otherwin - 1 })) ∧
    (6 ≤ s.canrestore.toNat ∨ (s.otherwin = 0 ∧ s.cansave = 0) → exec .RESTORED s = .fault .restoredUndefined)

/-! ## State registers -/

/-- The reads of state registers (R30 to R62, R295, R296): each puts its register's value into R[rd]; the trap stack
at TL = 0 is an illegal instruction; a counter that the mode may not read raises privileged_action. Whether RDSOFTINT
shows bit 0 as it was written or as 0 is a parameter of the model (log entry 14). -/
def Obligations.StateRegisterReads : Prop :=
  ∀ (s : State) (rd : Reg),
    let counter (o : Out) (disabled : Bool) (v : Nat) : Prop :=
      (disabled = false → nextWithR o (advance s) rd (BitVec.ofNat 64 v)) ∧
      (disabled = true → o = takeTrap .privilegedAction s)
    (∀ r ∈ readRows, nextWithR (exec (r.1 rd) s) (advance s) rd (r.2 s)) ∧
    (s.pstate.priv = true → ∀ r ∈ readPrivRows, nextWithR (exec (r.1 rd) s) (advance s) rd (r.2 s)) ∧
    (s.pstate.priv = true → ∀ r ∈ readTrapRows,
      (s.tl = 0 → exec (r.1 rd) s = takeTrap .illegalInstruction s) ∧
      (s.tl = 1 → nextWithR (exec (r.1 rd) s) (advance s) rd (r.2 s.trap1)) ∧
      (s.tl = 2 → nextWithR (exec (r.1 rd) s) (advance s) rd (r.2 s.trap2))) ∧
    counter (exec (.RDTICK rd) s) (if s.pstate.priv then s.par.tickPrivDis else s.par.tickNpt) s.tick.toNat ∧
    counter (exec (.RDSTICK rd) s) (if s.pstate.priv then s.par.stickPrivDis else s.par.stickNpt)
      (s.stick.toNat / 2 ^ s.par.stickM * 2 ^ s.par.stickM) ∧
    (s.pstate.priv = true → counter (exec (.RDPR_TICK rd) s) s.par.tickPrivDis s.tick.toNat) ∧
    (fpuEnabled s = true → nextWithR (exec (.RDGSR rd) s) (advance s) rd s.gsr.bits)

/-- The writes of state registers (R30 to R62, R297 to R299): the value is R[rs1] xor the operand, and nothing changes
but the register, PC and NPC. Whether WRSOFTINT, WRSOFTINT_SET and WRSOFTINT_CLR act on SOFTINT bit 0 too is a
parameter of the model (log entry 14). That a value above 7 leaves its low three bits in a window register, and that
TL and GL take the low three bits and then the minimum, is the model's choice (log entry 26). The counts of PAUSE and
MWAIT saturate (R43, R44, R293, R294); MWAIT does nothing without an armed Load-Monitor, and a count of 0 cancels it
(log entry 18: the model's choice). -/
def Obligations.StateRegisterWrites : Prop :=
  (∀ (s : State) (rs1 : Reg) (op2 : RegImm 13) (mode : BitVec 3),
     let v := readR s rs1 ^^^ operand2 s op2
     (∀ r ∈ writeRows, exec (r.1 rs1 op2) s = .next (advance (r.2 s v))) ∧
     (s.pstate.priv = true → ∀ r ∈ writePrivRows, exec (r.1 rs1 op2) s = .next (advance (r.2 s v))) ∧
     (s.pstate.priv = true → ∀ r ∈ writeTrapRows,
       (s.tl = 0 → exec (r.1 rs1 op2) s = takeTrap .illegalInstruction s) ∧
       (s.tl = 1 → exec (r.1 rs1 op2) s = .next { advance s with trap1 := r.2 s.par s.trap1 v }) ∧
       (s.tl = 2 → exec (r.1 rs1 op2) s = .next { advance s with trap2 := r.2 s.par s.trap2 v })) ∧
     (fpuEnabled s = true →
       exec (.WRGSR rs1 op2) s = .next { advance s with gsr := .ofBits v } ∧
       exec (.SIAM mode) s =
         .next { advance s with gsr := { s.gsr with im := mode.msb, irnd := field mode 0 2 } })) ∧
  (∀ (s : State) (rs1 : Reg) (op2 : RegImm 13),
     let pausing (o : Out) (v : Word64) : Prop :=
       o = .next { advance s with pause := min v.toNat (2 ^ s.par.pauseBits - 1) }
     let waiting (o : Out) (v : Word64) : Prop :=
       let count := min v.toNat (2 ^ s.par.mwaitBits - 1)
       (s.monitor = none → o = .next { advance s with mwait := 0 }) ∧
       (s.monitor ≠ none → count ≠ 0 → o = .next { advance s with mwait := count }) ∧
       (s.monitor ≠ none → count = 0 → o = .next { advance s with mwait := 0, monitor := none })
     pausing (exec (.PAUSE op2) s) (operand2 s op2) ∧
     pausing (exec (.WRPAUSE rs1 op2) s) (readR s rs1 ^^^ operand2 s op2) ∧
     waiting (exec (.MWAIT op2) s) (operand2 s op2) ∧
     waiting (exec (.WRMWAIT rs1 op2) s) (readR s rs1 ^^^ operand2 s op2))

/-! ## Floating point -/

/-- The moves of F registers (R300 to R302, R318 to R320, R325): bits are copied, with the sign bit cleared or
complemented; FSR.cexc and FSR.ftt are cleared, FSR.aexc is kept; a false condition leaves the destination. -/
def Obligations.FloatMoves : Prop :=
  ∀ (s : State) (rd rs1 rs2 : BitVec 5), fpuEnabled s = true →
    let u : State := { advance s with fsr := { s.fsr with cexc := .none, ftt := 0 } }
    let movedS (o : Out) (c : Bool) : Prop := (c = true → nextWithFS o u rd (readFS s rs2)) ∧ (c = false → o = .next u)
    let movedD (o : Out) (c : Bool) : Prop := (c = true → nextWithFD o u rd (readFD s rs2)) ∧ (c = false → o = .next u)
    let movedQ (o : Out) (c : Bool) : Prop := quadUsable s [(.q, rs2), (.q, rd)] = true →
      (c = true → nextWithFQ o u rd (readFQ s rs2)) ∧ (c = false → o = .next u)
    (∀ r ∈ moveSRows, nextWithFS (exec (r.1 rd rs2) s) u rd (r.2 (readFS s rs2))) ∧
    (∀ r ∈ moveDRows, nextWithFD (exec (r.1 rd rs2) s) u rd (r.2 (readFD s rs2))) ∧
    (∀ r ∈ moveQRows, quadUsable s [(.q, rs2), (.q, rd)] = true →
      nextWithFQ (exec (r.1 rd rs2) s) u rd (r.2 (readFQ s rs2))) ∧
    (∀ r ∈ fccMoveRows, ∀ cond : FCond,
      let c := fcondTest cond (getFcc s.fsr r.1)
      movedS (exec (r.2.2.1 rd cond rs2) s) c ∧ movedD (exec (r.2.2.2.1 rd cond rs2) s) c ∧
        movedQ (exec (r.2.2.2.2 rd cond rs2) s) c) ∧
    (∀ r ∈ iccMoveRows, ∀ cond : ICond,
      let c := icondTest cond (selectCc s r.1)
      movedS (exec (r.2.2.1 rd cond rs2) s) c ∧ movedD (exec (r.2.2.2.1 rd cond rs2) s) c ∧
        movedQ (exec (r.2.2.2.2 rd cond rs2) s) c) ∧
    (∀ r ∈ regRows,
      let c := r.1 (readR s rs1).toInt
      movedS (exec (r.2.2.2.1 rd rs1 rs2) s) c ∧ movedD (exec (r.2.2.2.2.1 rd rs1 rs2) s) c ∧
        movedQ (exec (r.2.2.2.2.2 rd rs1 rs2) s) c)

/-- The arithmetic FPops (R303 to R305, R308 to R311, R313 to R317, R321 to R324, R326 to R336): the result of the
operation in the rounding direction of R340, with the exceptions of R341: unfinished_FPop in the cases of
UNFINISHED_FPOP_CASES (R351); an enabled IEEE exception traps and leaves the destination, else FSR.cexc takes them and
FSR.aexc adds them. In nonstandard mode a conversion may treat a subnormal source as zero, and one between formats may
replace by zero with underflow and inexact a subnormal result and an exact value that is subnormal before it is rounded
(R349 (a) to (c); what the choice depends on, and that R349 (c) speaks of that exact value: log entry 39); that it has no effect on FsMULd, FdMULq and FNsMULd is the model's
choice (log entry 39). On finite numbers whose exact result is not 0, that result is rounded once, to the nearest or the
directed number of the format, and is inexact, tiny or an overflow by R28, R340 and R342. -/
def Obligations.FloatArithmetic : Prop :=
  (∀ (s : State) (rd rs1 rs2 rs3 : BitVec 5), fpuEnabled s = true →
    let standard : Prop := s.par.hasNsMode = false ∨ s.fsr.ns = false ∨ s.gsr.im = true
    let ends (o : Out) (src dst : Prec) (op : Option Config.FpOperation) (sources : List FReg) (operand : Prop)
        (r : FpResult) : Prop :=
      let unfinished := isUnfinished s op src dst (sources.map (src.read s)) operand (r.tiny = true)
      (unfinished → o = takeTrap (.fpOther 2) s) ∧
      (¬unfinished →
        (trappedFlag (r.cexc s.fsr.tem) s.fsr.tem = none → fpCompletes o s dst rd r) ∧
        (∀ e, trappedFlag (r.cexc s.fsr.tem) s.fsr.tem = some e → o = takeTrap (.fpIeee e) s))
    (∀ r ∈ fpBinaryRows, quadUsable s [(r.2.1, rs1), (r.2.1, rs2), (r.2.2.1, rd)] = true →
      (r.1 rd rs1 rs2 = .FADDq rd rs1 rs2 → rd.toNat < 16) →
      let a := r.2.1.value s rs1
      let b := r.2.1.value s rs2
      ends (exec (r.1 rd rs1 rs2) s) r.2.1 r.2.2.1 r.2.2.2.2 [rs1, rs2]
        (subnormalValue r.2.1 a ∨ subnormalValue r.2.1 b)
        (nanRule r.2.2.1.format r.2.1.format a b (r.2.2.2.1 (roundingMode s) a b))) ∧
    (∀ r ∈ fpUnaryRows, quadUsable s [(r.2.1, rs2), (r.2.2.1, rd)] = true →
      let x := r.2.1.value s rs2
      let f := r.2.2.2.1 (roundingMode s)
      let kind := r.2.2.2.2.1
      let finishes := ends (exec (r.1 rd rs2) s) r.2.1 r.2.2.1 r.2.2.2.2.2 [rs2]
        (subnormalValue r.2.1 x ∧ (kind = .root → x.neg = false))
      (kind = .root ∨ standard → finishes (f x)) ∧
      (kind ≠ .root → ¬standard → ∃ (y : FpValue) (zeroed inexact : Bool), nsSource r.2.1 x y zeroed ∧
        (inexact = true → zeroed = true) ∧
        let plain := { f y with nx := (f y).nx || inexact }
        let result := r.2.2.1.format.decode (f y).bits
        finishes plain ∨ (kind = .format ∧ (subnormalValue r.2.2.1 result ∨ (f y).tiny = true) ∧
          finishes { plain with bits := r.2.2.1.format.signBit result.neg, tiny := true, nx := true }))) ∧
    (∀ r ∈ fpFromIntRows, quadUsable s [(r.2.2, rd)] = true →
      ends (exec (r.1 rd rs2) s) r.2.1 r.2.2 none [rs2] False
        (fromInt r.2.2.format (roundingMode s) (r.2.1.intValue s rs2))) ∧
    (∀ r ∈ fpFusedRows,
      let a := r.2.1.value s rs1
      let b := r.2.1.value s rs2
      let c := r.2.1.value s rs3
      ends (exec (r.1 rd rs1 rs2 rs3) s) r.2.1 r.2.1 (some r.2.2.2.2) [rs1, rs2, rs3]
        (subnormalValue r.2.1 a ∨ subnormalValue r.2.1 b ∨ subnormalValue r.2.1 c)
        (fusedResult r.2.1.format (roundingMode s) r.2.2.1 r.2.2.2.1 a b c))) ∧
  (∀ m ∈ [FpFormat.single, .double, .quad],
    ∀ (dir : BitVec 2) (n1 n2 n3 f g : Bool) (s1 s2 s3 : Nat) (e1 e2 e3 scale v : Int),
    let x := FpValue.fin n1 s1 e1
    let y := FpValue.fin n2 s2 e2
    let z := FpValue.fin n3 s3 e3
    let sign (b : Bool) : ℝ := if b then -1 else 1
    let rounded (exact : ℝ) (r : FpResult) : Prop := exact ≠ 0 → roundedOnce m dir exact r
    rounded ((x.real + y.real) * (2 : ℝ) ^ scale) (sumResult m dir scale x y) ∧
    rounded (sign f * (x.real * y.real)) (productResult m dir f x y) ∧
    (y.real ≠ 0 → rounded (x.real / y.real) (quotientResult m dir x y)) ∧
    (0 < x.real → rounded (Real.sqrt x.real) (sqrtResult m dir x)) ∧
    rounded x.real (convertResult m dir x) ∧ rounded (v : ℝ) (fromInt m dir v) ∧
    rounded (sign f * (x.real * y.real) + sign g * z.real) (fusedResult m dir f g x y z))

/-- The comparisons (R306, R307, R312): FSR.fccn takes the relation; an invalid comparison traps when FSR.tem enables
it. The lexicographic ones raise nothing and take -0 as less than +0. In nonstandard mode FCMP and FCMPE may take a
subnormal source as zero, and inexact may come with it (R349, log entry 39). -/
def Obligations.FloatCompares : Prop :=
  ∀ (s : State) (cc : BitVec 2) (rs1 rs2 : BitVec 5), fpuEnabled s = true →
    let standard : Prop := s.par.hasNsMode = false ∨ s.fsr.ns = false ∨ s.gsr.im = true
    (∀ r ∈ fpCompareRows, quadUsable s [(r.2.1, rs1), (r.2.1, rs2)] = true →
      let x := r.2.1.value s rs1
      let y := r.2.1.value s rs2
      let o := exec (r.1 cc rs1 rs2) s
      let compares (a b : FpValue) (inexact : Bool) : Prop :=
        let nv := a.isSignalling || b.isSignalling || (r.2.2 && (a.isNan || b.isNan))
        let v : BitVec 2 := if a.isNan || b.isNan then 3 else if a.less b then 1 else if b.less a then 2 else 0
        ((nv && s.fsr.tem.nv) = false → (inexact && s.fsr.tem.nx) = false →
          o = .next { advance s with
            fsr := { setFcc s.fsr cc v with
              cexc := { IeeeFlags.none with nv := nv, nx := inexact }
              aexc := { s.fsr.aexc with nv := s.fsr.aexc.nv || nv, nx := s.fsr.aexc.nx || inexact }
              ftt := 0 } }) ∧
        ((nv && s.fsr.tem.nv) = true → o = takeTrap (.fpIeee { IeeeFlags.none with nv := true }) s) ∧
        ((nv && s.fsr.tem.nv) = false → (inexact && s.fsr.tem.nx) = true →
          o = takeTrap (.fpIeee { IeeeFlags.none with nx := true }) s)
      (standard → compares x y false) ∧
      (¬standard → ∃ (a b : FpValue) (z1 z2 inexact : Bool), nsSource r.2.1 x a z1 ∧ nsSource r.2.1 y b z2 ∧
        (inexact = true → z1 = true ∨ z2 = true) ∧ compares a b inexact)) ∧
    (let lex (a b : FpValue) : BitVec 2 :=
       if b.isNan then 3 else if a.isNan then 2 else if a.less b || (a.isNegZero && b.isPosZero) then 1 else 0
     exec (.FLCMPs cc rs1 rs2) s = .next { advance s with
       fsr := setFcc s.fsr cc (lex (Prec.s.value s rs1) (Prec.s.value s rs2)) } ∧
     exec (.FLCMPd cc rs1 rs2) s = .next { advance s with
       fsr := setFcc s.fsr cc (lex (Prec.d.value s rs1) (Prec.d.value s rs2)) })

/-! ## VIS -/

/-- The lane-wise VIS instructions (R377, R379, R383, R384, R390 to R394, R397, R399 to R402, R408, R409): each lane
of the destination, or each bit of R[rd] for a comparison, comes from the same lane of the two sources; FSR is kept.
-/
def Obligations.LaneInstructions : Prop :=
  ∀ (s : State) (rd rs1 rs2 : BitVec 5), fpuEnabled s = true →
    (∀ r ∈ laneRows, ∃ v, nextWithFD (exec (r.make rd rs1 rs2) s) (advance s) rd v ∧
      ∀ k, k < 64 / r.width →
        lane r.width k v = r.op (lane r.width k (readFD s rs1)) (lane r.width k (readFD s rs2))) ∧
    (∀ r ∈ laneSRows, ∃ v, nextWithFS (exec (r.make rd rs1 rs2) s) (advance s) rd v ∧
      ∀ k, k < 32 / r.width →
        lane r.width k v = r.op (lane r.width k (readFS s rs1)) (lane r.width k (readFS s rs2))) ∧
    (∀ r ∈ laneCompareRows, ∃ v, nextWithR (exec (r.make rd rs1 rs2) s) (advance s) rd v ∧
      ∀ k, bit v k =
        (decide (k < 64 / r.width) && r.test (lane r.width k (readFD s rs1)) (lane r.width k (readFD s rs2))))

/-- The other VIS instructions that write one F register or move one to R[rd] (R358, R375, R376, R378, R380 to R382,
R385 to R389, R395, R396, R398, R403 to R407, R410 to R416), and those that set GSR (R352, R353, R357, R359 to R361):
GSR.align is the low bits of the address or their negative, GSR.mask the sum or the shuffle of the chosen elements.
FPMADDXHI follows the pseudocode of R396 against its example: that is the model's choice (log entry 33). -/
def Obligations.VisResults : Prop :=
  (∀ (s : State) (rd rs1 rs2 rs3 : BitVec 5), fpuEnabled s = true →
     (∀ r ∈ visDoubleRows,
       nextWithFD (exec (r.1 rd rs1 rs2 rs3) s) (advance s) rd (r.2 s rd rs1 rs2 rs3)) ∧
     (∀ r ∈ visSingleRows, nextWithFS (exec (r.1 rd rs1 rs2) s) (advance s) rd (r.2 s rs1 rs2)) ∧
     (∀ r ∈ visIntRows, nextWithR (exec (r.1 rd rs1 rs2) s) (advance s) rd (r.2 s rs1 rs2))) ∧
  (∀ (s : State) (rd rs1 rs2 : Reg), fpuEnabled s = true →
     let sum := readR s rs1 + readR s rs2
     let rounded := BitVec.ofNat 64 (sum.toNat / 8 * 8)
     let masked (o : Out) (w : Nat) (ones zeros : List (BitVec w)) : Prop :=
       ∃ m, o = .next { advance s with gsr := { s.gsr with mask := m } } ∧
         ∀ j, j < 32 / w → lane w j m = (if bit (readR s rs2) j then ones else zeros).getD j 0
     nextWithR (exec (.ALIGNADDRESS rd rs1 rs2) s)
       { advance s with gsr := { s.gsr with align := BitVec.ofNat 3 sum.toNat } } rd rounded ∧
     nextWithR (exec (.ALIGNADDRESS_LITTLE rd rs1 rs2) s)
       { advance s with gsr := { s.gsr with align := BitVec.ofNat 3 (8 - sum.toNat % 8) } } rd rounded ∧
     nextWithR (exec (.BMASK rd rs1 rs2) s)
       { advance s with gsr := { s.gsr with mask := BitVec.ofNat 32 sum.toNat } } rd sum ∧
     masked (exec (.CMASK8 rs2) s) 4 [7, 6, 5, 4, 3, 2, 1, 0] [15, 14, 13, 12, 11, 10, 9, 8] ∧
     masked (exec (.CMASK16 rs2) s) 8 [0x67, 0x45, 0x23, 0x01] [0xEF, 0xCD, 0xAB, 0x89] ∧
     masked (exec (.CMASK32 rs2) s) 16 [0x4567, 0x0123] [0xCDEF, 0x89AB])

/-- The EDGE instructions (R362 to R374): bit `k` of the mask belongs to a pixel that lies between the one at R[rs1]
and, in the same doubleword, the one at R[rs2]; the forms with condition codes set those of SUBcc. The ARRAY
instructions (R354 to R356): every bit of the blocked address comes from the bit of R[rs1] that R354 names, and the
address is scaled by the element size; for R[rs2] above 5 the result is undefined, a free value (log entry 8). -/
def Obligations.EdgesAndArrays : Prop :=
  (∀ (s : State) (rd rs1 rs2 : Reg), ∀ r ∈ edgeRows,
     let a1 := (readR s rs1).toNat
     let a2 := (readR s rs2).toNat
     let size := r.2.2.1
     let width := 64 / size
     let pixel (k : Nat) : Nat := if r.2.2.2 then k else width - 1 - k
     let same : Prop := if s.pstate.am then a1 % 2 ^ 32 / 8 = a2 % 2 ^ 32 / 8 else a1 / 8 = a2 / 8
     ∃ v, nextWithR (exec (r.1 rd rs1 rs2) s) (advance s) rd v ∧
       nextWithR (exec (r.2.1 rd rs1 rs2) s)
         { advance s with ccr := diffCodes (readR s rs1) (readR s rs2) false } rd v ∧
       ∀ k, bit v k = true ↔
         k < width ∧ a1 % 8 / (size / 8) ≤ pixel k ∧ (same → pixel k ≤ a2 % 8 / (size / 8))) ∧
  (∀ (s : State) (rd rs1 rs2 : Reg), ∀ r ∈ arrayRows,
     let a := readR s rs1
     let n := (readR s rs2).toNat
     let source (i : Nat) : Bool :=
       if i < 2 then bit a (11 + i) else if i < 4 then bit a (31 + i) else if i = 4 then bit a 55
       else if i < 9 then bit a (8 + i) else if i < 13 then bit a (26 + i) else if i < 17 then bit a (43 + i)
       else if i < 17 + n then bit a i else if i < 17 + 2 * n then bit a (22 + i - n)
       else if i < 21 + 2 * n then bit a (43 + i - 2 * n) else false
     (n ≤ 5 → ∃ x : Word64, (∀ i, i < 64 → bit x i = source i) ∧
       nextWithR (exec (r.1 rd rs1 rs2) s) (advance s) rd (BitVec.ofNat 64 (r.2 * x.toNat))) ∧
     (5 < n → ∃ v, nextWithR (exec (r.1 rd rs1 rs2) s) { advance s with freeCount := s.freeCount + 1 } rd v))

/-! ## Cryptography and multiple precision -/

/-- The cryptographic instructions on one destination (R417 to R436), CRC32C with the function of CRC32C_FN:
compatibility_feature without their CFR bit, then fp_disabled, else F_D[rd] takes the value of the standard's function
(log entry 13); DES_KEXPAND with imm5 above 3 is an illegal instruction. The hash instructions (R437, R438, R443 to
R445): the same checks of their CFR bits and the FPU, then the new hash value stands in the registers from F_D[0] on,
every other register is kept; the lower word of F_D[4] after SHA1 is undefined, a free value (log entry 8). -/
def Obligations.CryptoResults : Prop :=
  (∀ (s : State) (rd rs1 rs2 rs3 : BitVec 5),
     let checked (o : Out) (bitNo : Nat) (v : Word64) : Prop :=
       (bit s.par.cfr bitNo = false → o = takeTrap .compatibilityFeature s) ∧
       (bit s.par.cfr bitNo = true → fpuEnabled s = false → o = takeTrap .fpDisabled s) ∧
       (bit s.par.cfr bitNo = true → fpuEnabled s = true → nextWithFD o (advance s) rd v)
     (∀ r ∈ cryptoRows, checked (exec (r.1 rd rs1 rs2 rs3) s) r.2.1
       (r.2.2 (readFD s rs1) (readFD s rs2) (readFD s rs3) rs3)) ∧
     (s.par.crc32cFn = .iscsi →
       checked (exec (.CRC32C rd rs1 rs2) s) 11 (crcResult crc32c (readFD s rs1) (readFD s rs2))) ∧
     (s.par.crc32cFn = .other →
       checked (exec (.CRC32C rd rs1 rs2) s) 11 (crcResult Config.otherCrc32c (readFD s rs1) (readFD s rs2))) ∧
     (let key := field (readFD s rs1) 0 56
      checked (exec (.DES_KEXPAND rd rs1 0) s) 1 (desRotate (desPc1 (readFD s rs1)) 1) ∧
      checked (exec (.DES_KEXPAND rd rs1 1) s) 1 (desRotate key 1) ∧
      checked (exec (.DES_KEXPAND rd rs1 2) s) 1 (desRotate key 2) ∧
      checked (exec (.DES_KEXPAND rd rs1 3) s) 1 (desRotate key 4) ∧
      (∀ imm5 : BitVec 5, 3 < imm5.toNat → exec (.DES_KEXPAND rd rs1 imm5) s = takeTrap .illegalInstruction s))) ∧
  (∀ s : State, fpuEnabled s = true →
     let words32 (n : Nat) : List Word32 :=
       (List.range n).map fun k => if k % 2 = 0 then field (readFD s (BitVec.ofNat 5 (k / 2))) 32 32
         else field (readFD s (BitVec.ofNat 5 (k / 2))) 0 32
     let words64 (first n : Nat) : List Word64 := (List.range n).map fun k => readFD s (BitVec.ofNat 5 (first + k))
     let data : BitVec 512 := joinWords 512 (words64 4 8)
     (bit s.par.cfr 4 = true → nextWithRun (exec .MD5 s) (advance s)
       (splitWords 64 2 (md5Block (md5Order s.par.md5WordOrder) (joinWords 128 (words64 0 2)) data))) ∧
     (bit s.par.cfr 5 = true → ∃ free : Word32,
       nextWithRun (exec .SHA1 s) { advance s with freeCount := s.freeCount + 1 }
         (splitWords 64 3 (sha1Block (joinWords 160 (words32 5)) data ++ free))) ∧
     (bit s.par.cfr 6 = true → nextWithRun (exec .SHA256 s) (advance s)
       (splitWords 64 4 (joinWords 256
         (sha2Block sha256Functions sha256Constants (words32 8) (splitWords 32 16 data))))) ∧
     (bit s.par.cfr 7 = true → nextWithRun (exec .SHA512 s) (advance s)
       (sha2Block sha512Functions sha512Constants (words64 0 8) (words64 8 16)))) ∧
  (∀ s : State, ∀ r ∈ [(Instr.MD5, 4), (.SHA1, 5), (.SHA256, 6), (.SHA512, 7)],
     (bit s.par.cfr r.2 = false → exec r.1 s = takeTrap .compatibilityFeature s) ∧
     (bit s.par.cfr r.2 = true → fpuEnabled s = false → exec r.1 s = takeTrap .fpDisabled s))

/-- MPMUL and XMPMUL (R439, R440, R446, R447): compatibility_feature without their CFR bit, then fp_disabled, then a
fill trap unless CANRESTORE = 6; else the product, with or without carries, of the operands of imm5 + 1 words in their
windows and F registers; the other registers are kept. -/
def Obligations.WideMultiply : Prop :=
  ∀ (s : State) (imm5 : BitVec 5),
    let n := imm5.toNat + 1
    let a := readPlaces s (mpMultiplier.take n)
    let b := readPlaces s (mpMultiplicand.take n)
    let multiplied (o : Out) (cfrBit p : Nat) : Prop :=
      multiStops o s cfrBit ∧
      (bit s.par.cfr cfrBit = true → fpuEnabled s = true → s.canrestore = 6 →
        ∃ t, o = .next t ∧ readPlaces t (mpProduct.take (2 * n)) = p ∧
          (∀ i : Fin 128, (∀ back m, .reg back m ∈ mpProduct.take (2 * n) → i ≠ windowSlot (s.cwp - back) m) →
            t.w[i] = s.w[i]) ∧
          t = { advance s with w := t.w })
    multiplied (exec (.MPMUL imm5) s) 8 (a * b) ∧ multiplied (exec (.XMPMUL imm5) s) 12 (xorMul a b (64 * n))

/-- The Montgomery instructions (R439, R441, R442, R448, R449): compatibility_feature without their CFR bit, then
fp_disabled, then a fill trap unless CANRESTORE = 6; else M and X take the results of the columns of R441 on the
operands in their windows and F registers, FPRS.dl and FPRS.du are set for the halves that M and X reach (R35),
FSR.fcc3 is 0, and every other register is kept. -/
def Obligations.MontgomeryProducts : Prop :=
  ∀ (s : State) (imm5 : BitVec 5), ∀ r ∈ montgomeryRows,
    let o := exec (r.1 imm5) s
    let n := imm5.toNat + 1
    let a := wordsAt s (mpMultiplicand.take n)
    let part := if r.2.2.1 then squarePart r.2.1 imm5.toNat a
      else productPart r.2.1 imm5.toNat a (wordsAt s (mpMontB.take n))
    let out := montgomeryResult r.2.1 part (wordsAt s (mpModulus.take n)) (readFD s 30).toNat imm5.toNat
    let written := mpMontM.take n ++ mpMultiplicand.take n
    multiStops o s r.2.2.2 ∧
    (bit s.par.cfr r.2.2.2 = true → fpuEnabled s = true → s.canrestore = 6 →
      ∃ t, o = .next t ∧
        readPlaces t (mpMontM.take n) = joinNat out.1 % 2 ^ (64 * n) ∧
        readPlaces t (mpMultiplicand.take n) = out.2 % 2 ^ (64 * n) ∧
        (∀ i : Fin 128, (∀ back m, .reg back m ∈ written → i ≠ windowSlot (s.cwp - back) m) → t.w[i] = s.w[i]) ∧
        (∀ k : DReg, .freg k ∉ written → readFD t k = readFD s k) ∧
        t = { advance s with
          w := t.w
          f := t.f
          fprs := { s.fprs with dl := s.fprs.dl || reachesHalf false written
                                du := s.fprs.du || reachesHalf true written }
          fsr := { s.fsr with fcc3 := 0 } })
end

