-- ==== Sys2Proof/Laws/Encoding.lean ====
section
/-!
SUPPORT. The fields of a word put together from fields: what the decoder reads from each format the encoder writes.
-/

namespace Sys2Proof

open Sys2Proof.Machine

/-! ## Fields of joined bit vectors

As simp lemmas these need their widths, for example `field_append_low (m := 9) (n := 5)`: simp does not find the
sum of two widths in a literal width. -/

/-- A field that lies in the low part. -/
theorem field_append_low {m n : Nat} (x : BitVec m) (y : BitVec n) {lo len : Nat} (h : lo + len ≤ n) :
    field (x ++ y) lo len = field y lo len := by
  apply BitVec.eq_of_getLsbD_eq
  intro i hi
  simp only [field, BitVec.getLsbD_extractLsb', BitVec.getLsbD_append, hi, decide_true, Bool.true_and]
  rw [if_pos (by omega)]

/-- A field that lies in the high part. -/
theorem field_append_high {m n : Nat} (x : BitVec m) (y : BitVec n) {lo len : Nat} (h : n ≤ lo) :
    field (x ++ y) lo len = field x (lo - n) len := by
  apply BitVec.eq_of_getLsbD_eq
  intro i hi
  simp only [field, BitVec.getLsbD_extractLsb', BitVec.getLsbD_append, hi, decide_true, Bool.true_and]
  rw [if_neg (by omega), show lo + i - n = lo - n + i by omega]

/-- A field that is the whole vector. -/
theorem field_self {n : Nat} (x : BitVec n) : field x 0 n = x := by
  apply BitVec.eq_of_getLsbD_eq
  intro i hi
  simp [field, hi]

/-- A field that takes in the whole of the low part and some of the high part. -/
theorem field_append_across {m n : Nat} (x : BitVec m) (y : BitVec n) {len : Nat} :
    field (x ++ y) 0 (len + n) = field x 0 len ++ y := by
  apply BitVec.eq_of_getLsbD_eq
  intro i hi
  simp only [field, BitVec.getLsbD_extractLsb', BitVec.getLsbD_append, hi, decide_true, Bool.true_and, Nat.zero_add]
  split
  · rfl
  · rw [show decide (i - n < len) = true by simp; omega, Bool.true_and]

/-- A bit of the low part. -/
theorem bit_append_low {m n : Nat} (x : BitVec m) (y : BitVec n) {i : Nat} (h : i < n) :
    bit (x ++ y) i = bit y i := by
  simp only [bit, BitVec.getLsbD_append]; rw [if_pos h]

/-- A bit of the high part. -/
theorem bit_append_high {m n : Nat} (x : BitVec m) (y : BitVec n) {i : Nat} (h : n ≤ i) :
    bit (x ++ y) i = bit x (i - n) := by
  simp only [bit, BitVec.getLsbD_append]; rw [if_neg (by omega)]

theorem bit_flag (b : Bool) : bit (flag b) 0 = b := by cases b <;> rfl

/-! ## Format 3 -/

@[simp] theorem field_op_fmt3 (op : BitVec 2) (rd : BitVec 5) (op3 : BitVec 6) (rs1 : BitVec 5) (low : BitVec 14) :
    field (fmt3 op rd op3 rs1 low) 30 2 = op := by
  unfold fmt3
  rw [field_append_high _ _ (by omega), field_append_high _ _ (by omega), field_append_high _ _ (by omega),
    field_append_high _ _ (by omega)]
  exact field_self op

@[simp] theorem field_op3_fmt3 (op : BitVec 2) (rd : BitVec 5) (op3 : BitVec 6) (rs1 : BitVec 5) (low : BitVec 14) :
    field (fmt3 op rd op3 rs1 low) 19 6 = op3 := by
  unfold fmt3
  rw [field_append_high _ _ (by omega), field_append_high _ _ (by omega), field_append_low _ _ (by omega)]
  exact field_self op3

@[simp] theorem rdF_fmt3 (op : BitVec 2) (rd : BitVec 5) (op3 : BitVec 6) (rs1 : BitVec 5) (low : BitVec 14) :
    rdF (fmt3 op rd op3 rs1 low) = rd := by
  unfold fmt3 rdF
  rw [field_append_high _ _ (by omega), field_append_high _ _ (by omega), field_append_high _ _ (by omega),
    field_append_low _ _ (by omega)]
  exact field_self rd

@[simp] theorem rs1F_fmt3 (op : BitVec 2) (rd : BitVec 5) (op3 : BitVec 6) (rs1 : BitVec 5) (low : BitVec 14) :
    rs1F (fmt3 op rd op3 rs1 low) = rs1 := by
  unfold fmt3 rs1F
  rw [field_append_high _ _ (by omega), field_append_low _ _ (by omega)]
  exact field_self rs1

/-- A field below bit 14 is a field of the low part. -/
theorem field_low_fmt3 (op : BitVec 2) (rd : BitVec 5) (op3 : BitVec 6) (rs1 : BitVec 5) (low : BitVec 14)
    {lo len : Nat} (h : lo + len ≤ 14) : field (fmt3 op rd op3 rs1 low) lo len = field low lo len := by
  unfold fmt3; exact field_append_low _ _ h

/-- A bit below bit 14 is a bit of the low part. -/
theorem bit_low_fmt3 (op : BitVec 2) (rd : BitVec 5) (op3 : BitVec 6) (rs1 : BitVec 5) (low : BitVec 14)
    {i : Nat} (h : i < 14) : bit (fmt3 op rd op3 rs1 low) i = bit low i := by
  unfold fmt3; exact bit_append_low _ _ h

/-! ## Format 2 -/

@[simp] theorem field_op_fmt2 (hi : BitVec 5) (op2 : BitVec 3) (low : BitVec 22) :
    field (fmt2 hi op2 low) 30 2 = 0#2 := by
  unfold fmt2
  rw [field_append_high _ _ (by omega), field_append_high _ _ (by omega), field_append_high _ _ (by omega)]
  exact field_self _

@[simp] theorem field_op2_fmt2 (hi : BitVec 5) (op2 : BitVec 3) (low : BitVec 22) :
    field (fmt2 hi op2 low) 22 3 = op2 := by
  unfold fmt2
  rw [field_append_high _ _ (by omega), field_append_low _ _ (by omega)]
  exact field_self _

@[simp] theorem rdF_fmt2 (hi : BitVec 5) (op2 : BitVec 3) (low : BitVec 22) : rdF (fmt2 hi op2 low) = hi := by
  unfold fmt2 rdF
  rw [field_append_high _ _ (by omega), field_append_high _ _ (by omega), field_append_low _ _ (by omega)]
  exact field_self _

/-- A field below bit 22 is a field of the low part. -/
theorem field_low_fmt2 (hi : BitVec 5) (op2 : BitVec 3) (low : BitVec 22) {lo len : Nat} (h : lo + len ≤ 22) :
    field (fmt2 hi op2 low) lo len = field low lo len := by
  unfold fmt2; exact field_append_low _ _ h

/-- A bit below bit 22 is a bit of the low part. -/
theorem bit_low_fmt2 (hi : BitVec 5) (op2 : BitVec 3) (low : BitVec 22) {i : Nat} (h : i < 22) :
    bit (fmt2 hi op2 low) i = bit low i := by
  unfold fmt2; exact bit_append_low _ _ h

/-! ## Operand fields -/

theorem bit_zero {n : Nat} (i : Nat) : bit (0#n) i = false := by simp [bit]

theorem field_zero {n : Nat} (lo len : Nat) : field (0#n) lo len = 0#len := by
  apply BitVec.eq_of_getLsbD_eq; intro i hi; simp [field]

@[simp] theorem regImmOf_fmt3 (op : BitVec 2) (rd : BitVec 5) (op3 : BitVec 6) (rs1 : BitVec 5) (x : RegImm 13) :
    regImmOf (fmt3 op rd op3 rs1 (regImmField x)) = some x := by
  cases x with
  | reg rs2 =>
    simp [regImmOf, rs2F, regImmField, bit_low_fmt3, field_low_fmt3, bit_append_high (m := 9) (n := 5),
      field_append_low (m := 9) (n := 5), field_append_high (m := 9) (n := 5), field_self, bit_zero, field_zero]
  | imm v =>
    simp [regImmOf, regImmField, bit_low_fmt3, field_low_fmt3, bit_append_high (m := 1) (n := 13),
      field_append_low (m := 1) (n := 13), field_self, show bit 1#1 0 = true from rfl]

@[simp] theorem altOf_fmt3 (op : BitVec 2) (rd : BitVec 5) (op3 : BitVec 6) (rs1 : BitVec 5) (x : AltOperand) :
    altOf (fmt3 op rd op3 rs1 (altField x)) = x := by
  cases x with
  | immAsi asi rs2 =>
    simp [altOf, rs2F, altField, bit_low_fmt3, field_low_fmt3, bit_append_high (m := 9) (n := 5),
      bit_append_high (m := 1) (n := 8), field_append_low (m := 9) (n := 5), field_append_low (m := 1) (n := 8),
      field_append_high (m := 9) (n := 5), field_self, bit_zero]
  | asiReg v =>
    simp [altOf, altField, bit_low_fmt3, field_low_fmt3, bit_append_high (m := 1) (n := 13),
      field_append_low (m := 1) (n := 13), field_self, show bit 1#1 0 = true from rfl]

/-- The field of a double register names it. -/
@[simp] theorem dregOf_dregField (k : DReg) : dregOf (dregField k) = k := by revert k; decide

/-- The double register of a field has that field. -/
@[simp] theorem dregField_dregOf (x : BitVec 5) : dregField (dregOf x) = x := by revert x; decide

@[simp] theorem icondOf_icondField (c : ICond) : icondOf (icondField c) = c := by cases c <;> rfl

@[simp] theorem fcondOf_fcondField (c : FCond) : fcondOf (fcondField c) = c := by cases c <;> rfl

@[simp] theorem iccSelOf_iccField (c : IccSel) : iccSelOf (iccField c) = some c := by cases c <;> rfl

end Sys2Proof
end

