-- ==== Sys2Proof/Laws/State.lean ====
section
/-!
SUPPORT. What each named update of the state leaves in each field: one simp lemma per field per update.
-/

namespace Sys2Proof.Machine

open Sys2Proof

/-! ## Program counters: `advance` -/

@[simp] theorem advance_g (s : State) : (advance s).g = s.g := rfl
@[simp] theorem advance_w (s : State) : (advance s).w = s.w := rfl
@[simp] theorem advance_f (s : State) : (advance s).f = s.f := rfl
@[simp] theorem advance_fsr (s : State) : (advance s).fsr = s.fsr := rfl
@[simp] theorem advance_y (s : State) : (advance s).y = s.y := rfl
@[simp] theorem advance_ccr (s : State) : (advance s).ccr = s.ccr := rfl
@[simp] theorem advance_asi (s : State) : (advance s).asi = s.asi := rfl
@[simp] theorem advance_tick (s : State) : (advance s).tick = s.tick := rfl
@[simp] theorem advance_pc (s : State) : (advance s).pc = s.npc := rfl
@[simp] theorem advance_npc (s : State) : (advance s).npc = s.npc + 4 := rfl
@[simp] theorem advance_fprs (s : State) : (advance s).fprs = s.fprs := rfl
@[simp] theorem advance_gsr (s : State) : (advance s).gsr = s.gsr := rfl
@[simp] theorem advance_softint (s : State) : (advance s).softint = s.softint := rfl
@[simp] theorem advance_stick (s : State) : (advance s).stick = s.stick := rfl
@[simp] theorem advance_stickCmpr (s : State) : (advance s).stickCmpr = s.stickCmpr := rfl
@[simp] theorem advance_pause (s : State) : (advance s).pause = s.pause := rfl
@[simp] theorem advance_mwait (s : State) : (advance s).mwait = s.mwait := rfl
@[simp] theorem advance_monitor (s : State) : (advance s).monitor = s.monitor := rfl
@[simp] theorem advance_cwp (s : State) : (advance s).cwp = s.cwp := rfl
@[simp] theorem advance_cansave (s : State) : (advance s).cansave = s.cansave := rfl
@[simp] theorem advance_canrestore (s : State) : (advance s).canrestore = s.canrestore := rfl
@[simp] theorem advance_cleanwin (s : State) : (advance s).cleanwin = s.cleanwin := rfl
@[simp] theorem advance_otherwin (s : State) : (advance s).otherwin = s.otherwin := rfl
@[simp] theorem advance_wstate (s : State) : (advance s).wstate = s.wstate := rfl
@[simp] theorem advance_trap1 (s : State) : (advance s).trap1 = s.trap1 := rfl
@[simp] theorem advance_trap2 (s : State) : (advance s).trap2 = s.trap2 := rfl
@[simp] theorem advance_tba (s : State) : (advance s).tba = s.tba := rfl
@[simp] theorem advance_pstate (s : State) : (advance s).pstate = s.pstate := rfl
@[simp] theorem advance_tl (s : State) : (advance s).tl = s.tl := rfl
@[simp] theorem advance_pil (s : State) : (advance s).pil = s.pil := rfl
@[simp] theorem advance_gl (s : State) : (advance s).gl = s.gl := rfl
@[simp] theorem advance_scratchpad (s : State) : (advance s).scratchpad = s.scratchpad := rfl
@[simp] theorem advance_primary (s : State) : (advance s).primary = s.primary := rfl
@[simp] theorem advance_secondary (s : State) : (advance s).secondary = s.secondary := rfl
@[simp] theorem advance_queueHead (s : State) : (advance s).queueHead = s.queueHead := rfl
@[simp] theorem advance_queueTail (s : State) : (advance s).queueTail = s.queueTail := rfl
@[simp] theorem advance_pic (s : State) : (advance s).pic = s.pic := rfl
@[simp] theorem advance_mem (s : State) : (advance s).mem = s.mem := rfl
@[simp] theorem advance_code (s : State) : (advance s).code = s.code := rfl
@[simp] theorem advance_par (s : State) : (advance s).par = s.par := rfl
@[simp] theorem advance_env (s : State) : (advance s).env = s.env := rfl
@[simp] theorem advance_gap (s : State) : (advance s).gap = s.gap := rfl
@[simp] theorem advance_trapDelay (s : State) : (advance s).trapDelay = s.trapDelay := rfl
@[simp] theorem advance_freeCount (s : State) : (advance s).freeCount = s.freeCount := rfl

/-! ## Program counters: `jumpDelayed` -/

@[simp] theorem jumpDelayed_g (s : State) (ea : Word64) : (jumpDelayed s ea).g = s.g := rfl
@[simp] theorem jumpDelayed_w (s : State) (ea : Word64) : (jumpDelayed s ea).w = s.w := rfl
@[simp] theorem jumpDelayed_f (s : State) (ea : Word64) : (jumpDelayed s ea).f = s.f := rfl
@[simp] theorem jumpDelayed_fsr (s : State) (ea : Word64) : (jumpDelayed s ea).fsr = s.fsr := rfl
@[simp] theorem jumpDelayed_y (s : State) (ea : Word64) : (jumpDelayed s ea).y = s.y := rfl
@[simp] theorem jumpDelayed_ccr (s : State) (ea : Word64) : (jumpDelayed s ea).ccr = s.ccr := rfl
@[simp] theorem jumpDelayed_asi (s : State) (ea : Word64) : (jumpDelayed s ea).asi = s.asi := rfl
@[simp] theorem jumpDelayed_tick (s : State) (ea : Word64) : (jumpDelayed s ea).tick = s.tick := rfl
@[simp] theorem jumpDelayed_pc (s : State) (ea : Word64) : (jumpDelayed s ea).pc = s.npc := rfl
@[simp] theorem jumpDelayed_npc (s : State) (ea : Word64) : (jumpDelayed s ea).npc = ea := rfl
@[simp] theorem jumpDelayed_fprs (s : State) (ea : Word64) : (jumpDelayed s ea).fprs = s.fprs := rfl
@[simp] theorem jumpDelayed_gsr (s : State) (ea : Word64) : (jumpDelayed s ea).gsr = s.gsr := rfl
@[simp] theorem jumpDelayed_softint (s : State) (ea : Word64) : (jumpDelayed s ea).softint = s.softint := rfl
@[simp] theorem jumpDelayed_stick (s : State) (ea : Word64) : (jumpDelayed s ea).stick = s.stick := rfl
@[simp] theorem jumpDelayed_stickCmpr (s : State) (ea : Word64) : (jumpDelayed s ea).stickCmpr = s.stickCmpr := rfl
@[simp] theorem jumpDelayed_pause (s : State) (ea : Word64) : (jumpDelayed s ea).pause = s.pause := rfl
@[simp] theorem jumpDelayed_mwait (s : State) (ea : Word64) : (jumpDelayed s ea).mwait = s.mwait := rfl
@[simp] theorem jumpDelayed_monitor (s : State) (ea : Word64) : (jumpDelayed s ea).monitor = s.monitor := rfl
@[simp] theorem jumpDelayed_cwp (s : State) (ea : Word64) : (jumpDelayed s ea).cwp = s.cwp := rfl
@[simp] theorem jumpDelayed_cansave (s : State) (ea : Word64) : (jumpDelayed s ea).cansave = s.cansave := rfl
@[simp] theorem jumpDelayed_canrestore (s : State) (ea : Word64) : (jumpDelayed s ea).canrestore = s.canrestore := rfl
@[simp] theorem jumpDelayed_cleanwin (s : State) (ea : Word64) : (jumpDelayed s ea).cleanwin = s.cleanwin := rfl
@[simp] theorem jumpDelayed_otherwin (s : State) (ea : Word64) : (jumpDelayed s ea).otherwin = s.otherwin := rfl
@[simp] theorem jumpDelayed_wstate (s : State) (ea : Word64) : (jumpDelayed s ea).wstate = s.wstate := rfl
@[simp] theorem jumpDelayed_trap1 (s : State) (ea : Word64) : (jumpDelayed s ea).trap1 = s.trap1 := rfl
@[simp] theorem jumpDelayed_trap2 (s : State) (ea : Word64) : (jumpDelayed s ea).trap2 = s.trap2 := rfl
@[simp] theorem jumpDelayed_tba (s : State) (ea : Word64) : (jumpDelayed s ea).tba = s.tba := rfl
@[simp] theorem jumpDelayed_pstate (s : State) (ea : Word64) : (jumpDelayed s ea).pstate = s.pstate := rfl
@[simp] theorem jumpDelayed_tl (s : State) (ea : Word64) : (jumpDelayed s ea).tl = s.tl := rfl
@[simp] theorem jumpDelayed_pil (s : State) (ea : Word64) : (jumpDelayed s ea).pil = s.pil := rfl
@[simp] theorem jumpDelayed_gl (s : State) (ea : Word64) : (jumpDelayed s ea).gl = s.gl := rfl
@[simp] theorem jumpDelayed_scratchpad (s : State) (ea : Word64) : (jumpDelayed s ea).scratchpad = s.scratchpad := rfl
@[simp] theorem jumpDelayed_primary (s : State) (ea : Word64) : (jumpDelayed s ea).primary = s.primary := rfl
@[simp] theorem jumpDelayed_secondary (s : State) (ea : Word64) : (jumpDelayed s ea).secondary = s.secondary := rfl
@[simp] theorem jumpDelayed_queueHead (s : State) (ea : Word64) : (jumpDelayed s ea).queueHead = s.queueHead := rfl
@[simp] theorem jumpDelayed_queueTail (s : State) (ea : Word64) : (jumpDelayed s ea).queueTail = s.queueTail := rfl
@[simp] theorem jumpDelayed_pic (s : State) (ea : Word64) : (jumpDelayed s ea).pic = s.pic := rfl
@[simp] theorem jumpDelayed_mem (s : State) (ea : Word64) : (jumpDelayed s ea).mem = s.mem := rfl
@[simp] theorem jumpDelayed_code (s : State) (ea : Word64) : (jumpDelayed s ea).code = s.code := rfl
@[simp] theorem jumpDelayed_par (s : State) (ea : Word64) : (jumpDelayed s ea).par = s.par := rfl
@[simp] theorem jumpDelayed_env (s : State) (ea : Word64) : (jumpDelayed s ea).env = s.env := rfl
@[simp] theorem jumpDelayed_gap (s : State) (ea : Word64) : (jumpDelayed s ea).gap = s.gap := rfl
@[simp] theorem jumpDelayed_trapDelay (s : State) (ea : Word64) : (jumpDelayed s ea).trapDelay = s.trapDelay := rfl
@[simp] theorem jumpDelayed_freeCount (s : State) (ea : Word64) : (jumpDelayed s ea).freeCount = s.freeCount := rfl

/-! ## Program counters: `jumpNow` -/

@[simp] theorem jumpNow_g (s : State) (ea : Word64) : (jumpNow s ea).g = s.g := rfl
@[simp] theorem jumpNow_w (s : State) (ea : Word64) : (jumpNow s ea).w = s.w := rfl
@[simp] theorem jumpNow_f (s : State) (ea : Word64) : (jumpNow s ea).f = s.f := rfl
@[simp] theorem jumpNow_fsr (s : State) (ea : Word64) : (jumpNow s ea).fsr = s.fsr := rfl
@[simp] theorem jumpNow_y (s : State) (ea : Word64) : (jumpNow s ea).y = s.y := rfl
@[simp] theorem jumpNow_ccr (s : State) (ea : Word64) : (jumpNow s ea).ccr = s.ccr := rfl
@[simp] theorem jumpNow_asi (s : State) (ea : Word64) : (jumpNow s ea).asi = s.asi := rfl
@[simp] theorem jumpNow_tick (s : State) (ea : Word64) : (jumpNow s ea).tick = s.tick := rfl
@[simp] theorem jumpNow_pc (s : State) (ea : Word64) : (jumpNow s ea).pc = ea := rfl
@[simp] theorem jumpNow_npc (s : State) (ea : Word64) : (jumpNow s ea).npc = ea + 4 := rfl
@[simp] theorem jumpNow_fprs (s : State) (ea : Word64) : (jumpNow s ea).fprs = s.fprs := rfl
@[simp] theorem jumpNow_gsr (s : State) (ea : Word64) : (jumpNow s ea).gsr = s.gsr := rfl
@[simp] theorem jumpNow_softint (s : State) (ea : Word64) : (jumpNow s ea).softint = s.softint := rfl
@[simp] theorem jumpNow_stick (s : State) (ea : Word64) : (jumpNow s ea).stick = s.stick := rfl
@[simp] theorem jumpNow_stickCmpr (s : State) (ea : Word64) : (jumpNow s ea).stickCmpr = s.stickCmpr := rfl
@[simp] theorem jumpNow_pause (s : State) (ea : Word64) : (jumpNow s ea).pause = s.pause := rfl
@[simp] theorem jumpNow_mwait (s : State) (ea : Word64) : (jumpNow s ea).mwait = s.mwait := rfl
@[simp] theorem jumpNow_monitor (s : State) (ea : Word64) : (jumpNow s ea).monitor = s.monitor := rfl
@[simp] theorem jumpNow_cwp (s : State) (ea : Word64) : (jumpNow s ea).cwp = s.cwp := rfl
@[simp] theorem jumpNow_cansave (s : State) (ea : Word64) : (jumpNow s ea).cansave = s.cansave := rfl
@[simp] theorem jumpNow_canrestore (s : State) (ea : Word64) : (jumpNow s ea).canrestore = s.canrestore := rfl
@[simp] theorem jumpNow_cleanwin (s : State) (ea : Word64) : (jumpNow s ea).cleanwin = s.cleanwin := rfl
@[simp] theorem jumpNow_otherwin (s : State) (ea : Word64) : (jumpNow s ea).otherwin = s.otherwin := rfl
@[simp] theorem jumpNow_wstate (s : State) (ea : Word64) : (jumpNow s ea).wstate = s.wstate := rfl
@[simp] theorem jumpNow_trap1 (s : State) (ea : Word64) : (jumpNow s ea).trap1 = s.trap1 := rfl
@[simp] theorem jumpNow_trap2 (s : State) (ea : Word64) : (jumpNow s ea).trap2 = s.trap2 := rfl
@[simp] theorem jumpNow_tba (s : State) (ea : Word64) : (jumpNow s ea).tba = s.tba := rfl
@[simp] theorem jumpNow_pstate (s : State) (ea : Word64) : (jumpNow s ea).pstate = s.pstate := rfl
@[simp] theorem jumpNow_tl (s : State) (ea : Word64) : (jumpNow s ea).tl = s.tl := rfl
@[simp] theorem jumpNow_pil (s : State) (ea : Word64) : (jumpNow s ea).pil = s.pil := rfl
@[simp] theorem jumpNow_gl (s : State) (ea : Word64) : (jumpNow s ea).gl = s.gl := rfl
@[simp] theorem jumpNow_scratchpad (s : State) (ea : Word64) : (jumpNow s ea).scratchpad = s.scratchpad := rfl
@[simp] theorem jumpNow_primary (s : State) (ea : Word64) : (jumpNow s ea).primary = s.primary := rfl
@[simp] theorem jumpNow_secondary (s : State) (ea : Word64) : (jumpNow s ea).secondary = s.secondary := rfl
@[simp] theorem jumpNow_queueHead (s : State) (ea : Word64) : (jumpNow s ea).queueHead = s.queueHead := rfl
@[simp] theorem jumpNow_queueTail (s : State) (ea : Word64) : (jumpNow s ea).queueTail = s.queueTail := rfl
@[simp] theorem jumpNow_pic (s : State) (ea : Word64) : (jumpNow s ea).pic = s.pic := rfl
@[simp] theorem jumpNow_mem (s : State) (ea : Word64) : (jumpNow s ea).mem = s.mem := rfl
@[simp] theorem jumpNow_code (s : State) (ea : Word64) : (jumpNow s ea).code = s.code := rfl
@[simp] theorem jumpNow_par (s : State) (ea : Word64) : (jumpNow s ea).par = s.par := rfl
@[simp] theorem jumpNow_env (s : State) (ea : Word64) : (jumpNow s ea).env = s.env := rfl
@[simp] theorem jumpNow_gap (s : State) (ea : Word64) : (jumpNow s ea).gap = s.gap := rfl
@[simp] theorem jumpNow_trapDelay (s : State) (ea : Word64) : (jumpNow s ea).trapDelay = s.trapDelay := rfl
@[simp] theorem jumpNow_freeCount (s : State) (ea : Word64) : (jumpNow s ea).freeCount = s.freeCount := rfl

/-! ## Program counters: `annul` -/

@[simp] theorem annul_g (s : State) : (annul s).g = s.g := rfl
@[simp] theorem annul_w (s : State) : (annul s).w = s.w := rfl
@[simp] theorem annul_f (s : State) : (annul s).f = s.f := rfl
@[simp] theorem annul_fsr (s : State) : (annul s).fsr = s.fsr := rfl
@[simp] theorem annul_y (s : State) : (annul s).y = s.y := rfl
@[simp] theorem annul_ccr (s : State) : (annul s).ccr = s.ccr := rfl
@[simp] theorem annul_asi (s : State) : (annul s).asi = s.asi := rfl
@[simp] theorem annul_tick (s : State) : (annul s).tick = s.tick := rfl
@[simp] theorem annul_pc (s : State) : (annul s).pc = s.npc + 4 := rfl
@[simp] theorem annul_npc (s : State) : (annul s).npc = s.npc + 8 := rfl
@[simp] theorem annul_fprs (s : State) : (annul s).fprs = s.fprs := rfl
@[simp] theorem annul_gsr (s : State) : (annul s).gsr = s.gsr := rfl
@[simp] theorem annul_softint (s : State) : (annul s).softint = s.softint := rfl
@[simp] theorem annul_stick (s : State) : (annul s).stick = s.stick := rfl
@[simp] theorem annul_stickCmpr (s : State) : (annul s).stickCmpr = s.stickCmpr := rfl
@[simp] theorem annul_pause (s : State) : (annul s).pause = s.pause := rfl
@[simp] theorem annul_mwait (s : State) : (annul s).mwait = s.mwait := rfl
@[simp] theorem annul_monitor (s : State) : (annul s).monitor = s.monitor := rfl
@[simp] theorem annul_cwp (s : State) : (annul s).cwp = s.cwp := rfl
@[simp] theorem annul_cansave (s : State) : (annul s).cansave = s.cansave := rfl
@[simp] theorem annul_canrestore (s : State) : (annul s).canrestore = s.canrestore := rfl
@[simp] theorem annul_cleanwin (s : State) : (annul s).cleanwin = s.cleanwin := rfl
@[simp] theorem annul_otherwin (s : State) : (annul s).otherwin = s.otherwin := rfl
@[simp] theorem annul_wstate (s : State) : (annul s).wstate = s.wstate := rfl
@[simp] theorem annul_trap1 (s : State) : (annul s).trap1 = s.trap1 := rfl
@[simp] theorem annul_trap2 (s : State) : (annul s).trap2 = s.trap2 := rfl
@[simp] theorem annul_tba (s : State) : (annul s).tba = s.tba := rfl
@[simp] theorem annul_pstate (s : State) : (annul s).pstate = s.pstate := rfl
@[simp] theorem annul_tl (s : State) : (annul s).tl = s.tl := rfl
@[simp] theorem annul_pil (s : State) : (annul s).pil = s.pil := rfl
@[simp] theorem annul_gl (s : State) : (annul s).gl = s.gl := rfl
@[simp] theorem annul_scratchpad (s : State) : (annul s).scratchpad = s.scratchpad := rfl
@[simp] theorem annul_primary (s : State) : (annul s).primary = s.primary := rfl
@[simp] theorem annul_secondary (s : State) : (annul s).secondary = s.secondary := rfl
@[simp] theorem annul_queueHead (s : State) : (annul s).queueHead = s.queueHead := rfl
@[simp] theorem annul_queueTail (s : State) : (annul s).queueTail = s.queueTail := rfl
@[simp] theorem annul_pic (s : State) : (annul s).pic = s.pic := rfl
@[simp] theorem annul_mem (s : State) : (annul s).mem = s.mem := rfl
@[simp] theorem annul_code (s : State) : (annul s).code = s.code := rfl
@[simp] theorem annul_par (s : State) : (annul s).par = s.par := rfl
@[simp] theorem annul_env (s : State) : (annul s).env = s.env := rfl
@[simp] theorem annul_gap (s : State) : (annul s).gap = s.gap := rfl
@[simp] theorem annul_trapDelay (s : State) : (annul s).trapDelay = s.trapDelay := rfl
@[simp] theorem annul_freeCount (s : State) : (annul s).freeCount = s.freeCount := rfl

/-! ## Free values: `drawn` -/

@[simp] theorem drawn_g (s : State) : (drawn s).g = s.g := rfl
@[simp] theorem drawn_w (s : State) : (drawn s).w = s.w := rfl
@[simp] theorem drawn_f (s : State) : (drawn s).f = s.f := rfl
@[simp] theorem drawn_fsr (s : State) : (drawn s).fsr = s.fsr := rfl
@[simp] theorem drawn_y (s : State) : (drawn s).y = s.y := rfl
@[simp] theorem drawn_ccr (s : State) : (drawn s).ccr = s.ccr := rfl
@[simp] theorem drawn_asi (s : State) : (drawn s).asi = s.asi := rfl
@[simp] theorem drawn_tick (s : State) : (drawn s).tick = s.tick := rfl
@[simp] theorem drawn_pc (s : State) : (drawn s).pc = s.pc := rfl
@[simp] theorem drawn_npc (s : State) : (drawn s).npc = s.npc := rfl
@[simp] theorem drawn_fprs (s : State) : (drawn s).fprs = s.fprs := rfl
@[simp] theorem drawn_gsr (s : State) : (drawn s).gsr = s.gsr := rfl
@[simp] theorem drawn_softint (s : State) : (drawn s).softint = s.softint := rfl
@[simp] theorem drawn_stick (s : State) : (drawn s).stick = s.stick := rfl
@[simp] theorem drawn_stickCmpr (s : State) : (drawn s).stickCmpr = s.stickCmpr := rfl
@[simp] theorem drawn_pause (s : State) : (drawn s).pause = s.pause := rfl
@[simp] theorem drawn_mwait (s : State) : (drawn s).mwait = s.mwait := rfl
@[simp] theorem drawn_monitor (s : State) : (drawn s).monitor = s.monitor := rfl
@[simp] theorem drawn_cwp (s : State) : (drawn s).cwp = s.cwp := rfl
@[simp] theorem drawn_cansave (s : State) : (drawn s).cansave = s.cansave := rfl
@[simp] theorem drawn_canrestore (s : State) : (drawn s).canrestore = s.canrestore := rfl
@[simp] theorem drawn_cleanwin (s : State) : (drawn s).cleanwin = s.cleanwin := rfl
@[simp] theorem drawn_otherwin (s : State) : (drawn s).otherwin = s.otherwin := rfl
@[simp] theorem drawn_wstate (s : State) : (drawn s).wstate = s.wstate := rfl
@[simp] theorem drawn_trap1 (s : State) : (drawn s).trap1 = s.trap1 := rfl
@[simp] theorem drawn_trap2 (s : State) : (drawn s).trap2 = s.trap2 := rfl
@[simp] theorem drawn_tba (s : State) : (drawn s).tba = s.tba := rfl
@[simp] theorem drawn_pstate (s : State) : (drawn s).pstate = s.pstate := rfl
@[simp] theorem drawn_tl (s : State) : (drawn s).tl = s.tl := rfl
@[simp] theorem drawn_pil (s : State) : (drawn s).pil = s.pil := rfl
@[simp] theorem drawn_gl (s : State) : (drawn s).gl = s.gl := rfl
@[simp] theorem drawn_scratchpad (s : State) : (drawn s).scratchpad = s.scratchpad := rfl
@[simp] theorem drawn_primary (s : State) : (drawn s).primary = s.primary := rfl
@[simp] theorem drawn_secondary (s : State) : (drawn s).secondary = s.secondary := rfl
@[simp] theorem drawn_queueHead (s : State) : (drawn s).queueHead = s.queueHead := rfl
@[simp] theorem drawn_queueTail (s : State) : (drawn s).queueTail = s.queueTail := rfl
@[simp] theorem drawn_pic (s : State) : (drawn s).pic = s.pic := rfl
@[simp] theorem drawn_mem (s : State) : (drawn s).mem = s.mem := rfl
@[simp] theorem drawn_code (s : State) : (drawn s).code = s.code := rfl
@[simp] theorem drawn_par (s : State) : (drawn s).par = s.par := rfl
@[simp] theorem drawn_env (s : State) : (drawn s).env = s.env := rfl
@[simp] theorem drawn_gap (s : State) : (drawn s).gap = s.gap := rfl
@[simp] theorem drawn_trapDelay (s : State) : (drawn s).trapDelay = s.trapDelay := rfl
@[simp] theorem drawn_freeCount (s : State) : (drawn s).freeCount = s.freeCount + 1 := rfl

/-! ## Memory: `storeValue` -/

@[simp] theorem storeValue_g (s : State) (x : Place) (n v : Nat) : (storeValue s x n v).g = s.g := rfl
@[simp] theorem storeValue_w (s : State) (x : Place) (n v : Nat) : (storeValue s x n v).w = s.w := rfl
@[simp] theorem storeValue_f (s : State) (x : Place) (n v : Nat) : (storeValue s x n v).f = s.f := rfl
@[simp] theorem storeValue_fsr (s : State) (x : Place) (n v : Nat) : (storeValue s x n v).fsr = s.fsr := rfl
@[simp] theorem storeValue_y (s : State) (x : Place) (n v : Nat) : (storeValue s x n v).y = s.y := rfl
@[simp] theorem storeValue_ccr (s : State) (x : Place) (n v : Nat) : (storeValue s x n v).ccr = s.ccr := rfl
@[simp] theorem storeValue_asi (s : State) (x : Place) (n v : Nat) : (storeValue s x n v).asi = s.asi := rfl
@[simp] theorem storeValue_tick (s : State) (x : Place) (n v : Nat) : (storeValue s x n v).tick = s.tick := rfl
@[simp] theorem storeValue_pc (s : State) (x : Place) (n v : Nat) : (storeValue s x n v).pc = s.pc := rfl
@[simp] theorem storeValue_npc (s : State) (x : Place) (n v : Nat) : (storeValue s x n v).npc = s.npc := rfl
@[simp] theorem storeValue_fprs (s : State) (x : Place) (n v : Nat) : (storeValue s x n v).fprs = s.fprs := rfl
@[simp] theorem storeValue_gsr (s : State) (x : Place) (n v : Nat) : (storeValue s x n v).gsr = s.gsr := rfl
@[simp] theorem storeValue_softint (s : State) (x : Place) (n v : Nat) :
    (storeValue s x n v).softint = s.softint := rfl
@[simp] theorem storeValue_stick (s : State) (x : Place) (n v : Nat) : (storeValue s x n v).stick = s.stick := rfl
@[simp] theorem storeValue_stickCmpr (s : State) (x : Place) (n v : Nat) :
    (storeValue s x n v).stickCmpr = s.stickCmpr := rfl
@[simp] theorem storeValue_pause (s : State) (x : Place) (n v : Nat) : (storeValue s x n v).pause = s.pause := rfl
@[simp] theorem storeValue_mwait (s : State) (x : Place) (n v : Nat) : (storeValue s x n v).mwait = s.mwait := rfl
@[simp] theorem storeValue_monitor (s : State) (x : Place) (n v : Nat) :
    (storeValue s x n v).monitor = s.monitor := rfl
@[simp] theorem storeValue_cwp (s : State) (x : Place) (n v : Nat) : (storeValue s x n v).cwp = s.cwp := rfl
@[simp] theorem storeValue_cansave (s : State) (x : Place) (n v : Nat) :
    (storeValue s x n v).cansave = s.cansave := rfl
@[simp] theorem storeValue_canrestore (s : State) (x : Place) (n v : Nat) :
    (storeValue s x n v).canrestore = s.canrestore := rfl
@[simp] theorem storeValue_cleanwin (s : State) (x : Place) (n v : Nat) :
    (storeValue s x n v).cleanwin = s.cleanwin := rfl
@[simp] theorem storeValue_otherwin (s : State) (x : Place) (n v : Nat) :
    (storeValue s x n v).otherwin = s.otherwin := rfl
@[simp] theorem storeValue_wstate (s : State) (x : Place) (n v : Nat) : (storeValue s x n v).wstate = s.wstate := rfl
@[simp] theorem storeValue_trap1 (s : State) (x : Place) (n v : Nat) : (storeValue s x n v).trap1 = s.trap1 := rfl
@[simp] theorem storeValue_trap2 (s : State) (x : Place) (n v : Nat) : (storeValue s x n v).trap2 = s.trap2 := rfl
@[simp] theorem storeValue_tba (s : State) (x : Place) (n v : Nat) : (storeValue s x n v).tba = s.tba := rfl
@[simp] theorem storeValue_pstate (s : State) (x : Place) (n v : Nat) : (storeValue s x n v).pstate = s.pstate := rfl
@[simp] theorem storeValue_tl (s : State) (x : Place) (n v : Nat) : (storeValue s x n v).tl = s.tl := rfl
@[simp] theorem storeValue_pil (s : State) (x : Place) (n v : Nat) : (storeValue s x n v).pil = s.pil := rfl
@[simp] theorem storeValue_gl (s : State) (x : Place) (n v : Nat) : (storeValue s x n v).gl = s.gl := rfl
@[simp] theorem storeValue_scratchpad (s : State) (x : Place) (n v : Nat) :
    (storeValue s x n v).scratchpad = s.scratchpad := rfl
@[simp] theorem storeValue_primary (s : State) (x : Place) (n v : Nat) :
    (storeValue s x n v).primary = s.primary := rfl
@[simp] theorem storeValue_secondary (s : State) (x : Place) (n v : Nat) :
    (storeValue s x n v).secondary = s.secondary := rfl
@[simp] theorem storeValue_queueHead (s : State) (x : Place) (n v : Nat) :
    (storeValue s x n v).queueHead = s.queueHead := rfl
@[simp] theorem storeValue_queueTail (s : State) (x : Place) (n v : Nat) :
    (storeValue s x n v).queueTail = s.queueTail := rfl
@[simp] theorem storeValue_pic (s : State) (x : Place) (n v : Nat) : (storeValue s x n v).pic = s.pic := rfl
@[simp] theorem storeValue_mem (s : State) (x : Place) (n v : Nat) :
    (storeValue s x n v).mem = if x.little then s.mem.writeLE x.ra n v else s.mem.writeBE x.ra n v := rfl
@[simp] theorem storeValue_code (s : State) (x : Place) (n v : Nat) : (storeValue s x n v).code = s.code := rfl
@[simp] theorem storeValue_par (s : State) (x : Place) (n v : Nat) : (storeValue s x n v).par = s.par := rfl
@[simp] theorem storeValue_env (s : State) (x : Place) (n v : Nat) : (storeValue s x n v).env = s.env := rfl
@[simp] theorem storeValue_gap (s : State) (x : Place) (n v : Nat) : (storeValue s x n v).gap = s.gap := rfl
@[simp] theorem storeValue_trapDelay (s : State) (x : Place) (n v : Nat) :
    (storeValue s x n v).trapDelay = s.trapDelay := rfl
@[simp] theorem storeValue_freeCount (s : State) (x : Place) (n v : Nat) :
    (storeValue s x n v).freeCount = s.freeCount := rfl

/-! ## R registers: `writeR` -/

@[simp] theorem writeR_f (s : State) (n : Reg) (v : Word64) : (writeR s n v).f = s.f := by
  unfold writeR; split; rfl; split <;> rfl
@[simp] theorem writeR_fsr (s : State) (n : Reg) (v : Word64) : (writeR s n v).fsr = s.fsr := by
  unfold writeR; split; rfl; split <;> rfl
@[simp] theorem writeR_y (s : State) (n : Reg) (v : Word64) : (writeR s n v).y = s.y := by
  unfold writeR; split; rfl; split <;> rfl
@[simp] theorem writeR_ccr (s : State) (n : Reg) (v : Word64) : (writeR s n v).ccr = s.ccr := by
  unfold writeR; split; rfl; split <;> rfl
@[simp] theorem writeR_asi (s : State) (n : Reg) (v : Word64) : (writeR s n v).asi = s.asi := by
  unfold writeR; split; rfl; split <;> rfl
@[simp] theorem writeR_tick (s : State) (n : Reg) (v : Word64) : (writeR s n v).tick = s.tick := by
  unfold writeR; split; rfl; split <;> rfl
@[simp] theorem writeR_pc (s : State) (n : Reg) (v : Word64) : (writeR s n v).pc = s.pc := by
  unfold writeR; split; rfl; split <;> rfl
@[simp] theorem writeR_npc (s : State) (n : Reg) (v : Word64) : (writeR s n v).npc = s.npc := by
  unfold writeR; split; rfl; split <;> rfl
@[simp] theorem writeR_fprs (s : State) (n : Reg) (v : Word64) : (writeR s n v).fprs = s.fprs := by
  unfold writeR; split; rfl; split <;> rfl
@[simp] theorem writeR_gsr (s : State) (n : Reg) (v : Word64) : (writeR s n v).gsr = s.gsr := by
  unfold writeR; split; rfl; split <;> rfl
@[simp] theorem writeR_softint (s : State) (n : Reg) (v : Word64) : (writeR s n v).softint = s.softint := by
  unfold writeR; split; rfl; split <;> rfl
@[simp] theorem writeR_stick (s : State) (n : Reg) (v : Word64) : (writeR s n v).stick = s.stick := by
  unfold writeR; split; rfl; split <;> rfl
@[simp] theorem writeR_stickCmpr (s : State) (n : Reg) (v : Word64) : (writeR s n v).stickCmpr = s.stickCmpr := by
  unfold writeR; split; rfl; split <;> rfl
@[simp] theorem writeR_pause (s : State) (n : Reg) (v : Word64) : (writeR s n v).pause = s.pause := by
  unfold writeR; split; rfl; split <;> rfl
@[simp] theorem writeR_mwait (s : State) (n : Reg) (v : Word64) : (writeR s n v).mwait = s.mwait := by
  unfold writeR; split; rfl; split <;> rfl
@[simp] theorem writeR_monitor (s : State) (n : Reg) (v : Word64) : (writeR s n v).monitor = s.monitor := by
  unfold writeR; split; rfl; split <;> rfl
@[simp] theorem writeR_cwp (s : State) (n : Reg) (v : Word64) : (writeR s n v).cwp = s.cwp := by
  unfold writeR; split; rfl; split <;> rfl
@[simp] theorem writeR_cansave (s : State) (n : Reg) (v : Word64) : (writeR s n v).cansave = s.cansave := by
  unfold writeR; split; rfl; split <;> rfl
@[simp] theorem writeR_canrestore (s : State) (n : Reg) (v : Word64) : (writeR s n v).canrestore = s.canrestore := by
  unfold writeR; split; rfl; split <;> rfl
@[simp] theorem writeR_cleanwin (s : State) (n : Reg) (v : Word64) : (writeR s n v).cleanwin = s.cleanwin := by
  unfold writeR; split; rfl; split <;> rfl
@[simp] theorem writeR_otherwin (s : State) (n : Reg) (v : Word64) : (writeR s n v).otherwin = s.otherwin := by
  unfold writeR; split; rfl; split <;> rfl
@[simp] theorem writeR_wstate (s : State) (n : Reg) (v : Word64) : (writeR s n v).wstate = s.wstate := by
  unfold writeR; split; rfl; split <;> rfl
@[simp] theorem writeR_trap1 (s : State) (n : Reg) (v : Word64) : (writeR s n v).trap1 = s.trap1 := by
  unfold writeR; split; rfl; split <;> rfl
@[simp] theorem writeR_trap2 (s : State) (n : Reg) (v : Word64) : (writeR s n v).trap2 = s.trap2 := by
  unfold writeR; split; rfl; split <;> rfl
@[simp] theorem writeR_tba (s : State) (n : Reg) (v : Word64) : (writeR s n v).tba = s.tba := by
  unfold writeR; split; rfl; split <;> rfl
@[simp] theorem writeR_pstate (s : State) (n : Reg) (v : Word64) : (writeR s n v).pstate = s.pstate := by
  unfold writeR; split; rfl; split <;> rfl
@[simp] theorem writeR_tl (s : State) (n : Reg) (v : Word64) : (writeR s n v).tl = s.tl := by
  unfold writeR; split; rfl; split <;> rfl
@[simp] theorem writeR_pil (s : State) (n : Reg) (v : Word64) : (writeR s n v).pil = s.pil := by
  unfold writeR; split; rfl; split <;> rfl
@[simp] theorem writeR_gl (s : State) (n : Reg) (v : Word64) : (writeR s n v).gl = s.gl := by
  unfold writeR; split; rfl; split <;> rfl
@[simp] theorem writeR_scratchpad (s : State) (n : Reg) (v : Word64) : (writeR s n v).scratchpad = s.scratchpad := by
  unfold writeR; split; rfl; split <;> rfl
@[simp] theorem writeR_primary (s : State) (n : Reg) (v : Word64) : (writeR s n v).primary = s.primary := by
  unfold writeR; split; rfl; split <;> rfl
@[simp] theorem writeR_secondary (s : State) (n : Reg) (v : Word64) : (writeR s n v).secondary = s.secondary := by
  unfold writeR; split; rfl; split <;> rfl
@[simp] theorem writeR_queueHead (s : State) (n : Reg) (v : Word64) : (writeR s n v).queueHead = s.queueHead := by
  unfold writeR; split; rfl; split <;> rfl
@[simp] theorem writeR_queueTail (s : State) (n : Reg) (v : Word64) : (writeR s n v).queueTail = s.queueTail := by
  unfold writeR; split; rfl; split <;> rfl
@[simp] theorem writeR_pic (s : State) (n : Reg) (v : Word64) : (writeR s n v).pic = s.pic := by
  unfold writeR; split; rfl; split <;> rfl
@[simp] theorem writeR_mem (s : State) (n : Reg) (v : Word64) : (writeR s n v).mem = s.mem := by
  unfold writeR; split; rfl; split <;> rfl
@[simp] theorem writeR_code (s : State) (n : Reg) (v : Word64) : (writeR s n v).code = s.code := by
  unfold writeR; split; rfl; split <;> rfl
@[simp] theorem writeR_par (s : State) (n : Reg) (v : Word64) : (writeR s n v).par = s.par := by
  unfold writeR; split; rfl; split <;> rfl
@[simp] theorem writeR_env (s : State) (n : Reg) (v : Word64) : (writeR s n v).env = s.env := by
  unfold writeR; split; rfl; split <;> rfl
@[simp] theorem writeR_gap (s : State) (n : Reg) (v : Word64) : (writeR s n v).gap = s.gap := by
  unfold writeR; split; rfl; split <;> rfl
@[simp] theorem writeR_trapDelay (s : State) (n : Reg) (v : Word64) : (writeR s n v).trapDelay = s.trapDelay := by
  unfold writeR; split; rfl; split <;> rfl
@[simp] theorem writeR_freeCount (s : State) (n : Reg) (v : Word64) : (writeR s n v).freeCount = s.freeCount := by
  unfold writeR; split; rfl; split <;> rfl

/-! ## F registers: `writeFS` -/

@[simp] theorem writeFS_g (s : State) (n : FReg) (v : Word32) : (writeFS s n v).g = s.g := rfl
@[simp] theorem writeFS_w (s : State) (n : FReg) (v : Word32) : (writeFS s n v).w = s.w := rfl
@[simp] theorem writeFS_f (s : State) (n : FReg) (v : Word32) : (writeFS s n v).f = s.f.set (sSlot n) v := rfl
@[simp] theorem writeFS_fsr (s : State) (n : FReg) (v : Word32) : (writeFS s n v).fsr = s.fsr := rfl
@[simp] theorem writeFS_y (s : State) (n : FReg) (v : Word32) : (writeFS s n v).y = s.y := rfl
@[simp] theorem writeFS_ccr (s : State) (n : FReg) (v : Word32) : (writeFS s n v).ccr = s.ccr := rfl
@[simp] theorem writeFS_asi (s : State) (n : FReg) (v : Word32) : (writeFS s n v).asi = s.asi := rfl
@[simp] theorem writeFS_tick (s : State) (n : FReg) (v : Word32) : (writeFS s n v).tick = s.tick := rfl
@[simp] theorem writeFS_pc (s : State) (n : FReg) (v : Word32) : (writeFS s n v).pc = s.pc := rfl
@[simp] theorem writeFS_npc (s : State) (n : FReg) (v : Word32) : (writeFS s n v).npc = s.npc := rfl
@[simp] theorem writeFS_fprs (s : State) (n : FReg) (v : Word32) : (writeFS s n v).fprs = s.fprs.dirty false := rfl
@[simp] theorem writeFS_gsr (s : State) (n : FReg) (v : Word32) : (writeFS s n v).gsr = s.gsr := rfl
@[simp] theorem writeFS_softint (s : State) (n : FReg) (v : Word32) : (writeFS s n v).softint = s.softint := rfl
@[simp] theorem writeFS_stick (s : State) (n : FReg) (v : Word32) : (writeFS s n v).stick = s.stick := rfl
@[simp] theorem writeFS_stickCmpr (s : State) (n : FReg) (v : Word32) : (writeFS s n v).stickCmpr = s.stickCmpr := rfl
@[simp] theorem writeFS_pause (s : State) (n : FReg) (v : Word32) : (writeFS s n v).pause = s.pause := rfl
@[simp] theorem writeFS_mwait (s : State) (n : FReg) (v : Word32) : (writeFS s n v).mwait = s.mwait := rfl
@[simp] theorem writeFS_monitor (s : State) (n : FReg) (v : Word32) : (writeFS s n v).monitor = s.monitor := rfl
@[simp] theorem writeFS_cwp (s : State) (n : FReg) (v : Word32) : (writeFS s n v).cwp = s.cwp := rfl
@[simp] theorem writeFS_cansave (s : State) (n : FReg) (v : Word32) : (writeFS s n v).cansave = s.cansave := rfl
@[simp] theorem writeFS_canrestore (s : State) (n : FReg) (v : Word32) :
    (writeFS s n v).canrestore = s.canrestore := rfl
@[simp] theorem writeFS_cleanwin (s : State) (n : FReg) (v : Word32) : (writeFS s n v).cleanwin = s.cleanwin := rfl
@[simp] theorem writeFS_otherwin (s : State) (n : FReg) (v : Word32) : (writeFS s n v).otherwin = s.otherwin := rfl
@[simp] theorem writeFS_wstate (s : State) (n : FReg) (v : Word32) : (writeFS s n v).wstate = s.wstate := rfl
@[simp] theorem writeFS_trap1 (s : State) (n : FReg) (v : Word32) : (writeFS s n v).trap1 = s.trap1 := rfl
@[simp] theorem writeFS_trap2 (s : State) (n : FReg) (v : Word32) : (writeFS s n v).trap2 = s.trap2 := rfl
@[simp] theorem writeFS_tba (s : State) (n : FReg) (v : Word32) : (writeFS s n v).tba = s.tba := rfl
@[simp] theorem writeFS_pstate (s : State) (n : FReg) (v : Word32) : (writeFS s n v).pstate = s.pstate := rfl
@[simp] theorem writeFS_tl (s : State) (n : FReg) (v : Word32) : (writeFS s n v).tl = s.tl := rfl
@[simp] theorem writeFS_pil (s : State) (n : FReg) (v : Word32) : (writeFS s n v).pil = s.pil := rfl
@[simp] theorem writeFS_gl (s : State) (n : FReg) (v : Word32) : (writeFS s n v).gl = s.gl := rfl
@[simp] theorem writeFS_scratchpad (s : State) (n : FReg) (v : Word32) :
    (writeFS s n v).scratchpad = s.scratchpad := rfl
@[simp] theorem writeFS_primary (s : State) (n : FReg) (v : Word32) : (writeFS s n v).primary = s.primary := rfl
@[simp] theorem writeFS_secondary (s : State) (n : FReg) (v : Word32) : (writeFS s n v).secondary = s.secondary := rfl
@[simp] theorem writeFS_queueHead (s : State) (n : FReg) (v : Word32) : (writeFS s n v).queueHead = s.queueHead := rfl
@[simp] theorem writeFS_queueTail (s : State) (n : FReg) (v : Word32) : (writeFS s n v).queueTail = s.queueTail := rfl
@[simp] theorem writeFS_pic (s : State) (n : FReg) (v : Word32) : (writeFS s n v).pic = s.pic := rfl
@[simp] theorem writeFS_mem (s : State) (n : FReg) (v : Word32) : (writeFS s n v).mem = s.mem := rfl
@[simp] theorem writeFS_code (s : State) (n : FReg) (v : Word32) : (writeFS s n v).code = s.code := rfl
@[simp] theorem writeFS_par (s : State) (n : FReg) (v : Word32) : (writeFS s n v).par = s.par := rfl
@[simp] theorem writeFS_env (s : State) (n : FReg) (v : Word32) : (writeFS s n v).env = s.env := rfl
@[simp] theorem writeFS_gap (s : State) (n : FReg) (v : Word32) : (writeFS s n v).gap = s.gap := rfl
@[simp] theorem writeFS_trapDelay (s : State) (n : FReg) (v : Word32) : (writeFS s n v).trapDelay = s.trapDelay := rfl
@[simp] theorem writeFS_freeCount (s : State) (n : FReg) (v : Word32) : (writeFS s n v).freeCount = s.freeCount := rfl

/-! ## F registers: `writeFD` -/

@[simp] theorem writeFD_g (s : State) (k : DReg) (v : Word64) : (writeFD s k v).g = s.g := rfl
@[simp] theorem writeFD_w (s : State) (k : DReg) (v : Word64) : (writeFD s k v).w = s.w := rfl
@[simp] theorem writeFD_f (s : State) (k : DReg) (v : Word64) :
    (writeFD s k v).f = (s.f.set (dSlot k) (field v 32 32)).set (dSlotLow k) (field v 0 32) := rfl
@[simp] theorem writeFD_fsr (s : State) (k : DReg) (v : Word64) : (writeFD s k v).fsr = s.fsr := rfl
@[simp] theorem writeFD_y (s : State) (k : DReg) (v : Word64) : (writeFD s k v).y = s.y := rfl
@[simp] theorem writeFD_ccr (s : State) (k : DReg) (v : Word64) : (writeFD s k v).ccr = s.ccr := rfl
@[simp] theorem writeFD_asi (s : State) (k : DReg) (v : Word64) : (writeFD s k v).asi = s.asi := rfl
@[simp] theorem writeFD_tick (s : State) (k : DReg) (v : Word64) : (writeFD s k v).tick = s.tick := rfl
@[simp] theorem writeFD_pc (s : State) (k : DReg) (v : Word64) : (writeFD s k v).pc = s.pc := rfl
@[simp] theorem writeFD_npc (s : State) (k : DReg) (v : Word64) : (writeFD s k v).npc = s.npc := rfl
@[simp] theorem writeFD_fprs (s : State) (k : DReg) (v : Word64) :
    (writeFD s k v).fprs = s.fprs.dirty (decide (16 ≤ k.toNat)) := rfl
@[simp] theorem writeFD_gsr (s : State) (k : DReg) (v : Word64) : (writeFD s k v).gsr = s.gsr := rfl
@[simp] theorem writeFD_softint (s : State) (k : DReg) (v : Word64) : (writeFD s k v).softint = s.softint := rfl
@[simp] theorem writeFD_stick (s : State) (k : DReg) (v : Word64) : (writeFD s k v).stick = s.stick := rfl
@[simp] theorem writeFD_stickCmpr (s : State) (k : DReg) (v : Word64) : (writeFD s k v).stickCmpr = s.stickCmpr := rfl
@[simp] theorem writeFD_pause (s : State) (k : DReg) (v : Word64) : (writeFD s k v).pause = s.pause := rfl
@[simp] theorem writeFD_mwait (s : State) (k : DReg) (v : Word64) : (writeFD s k v).mwait = s.mwait := rfl
@[simp] theorem writeFD_monitor (s : State) (k : DReg) (v : Word64) : (writeFD s k v).monitor = s.monitor := rfl
@[simp] theorem writeFD_cwp (s : State) (k : DReg) (v : Word64) : (writeFD s k v).cwp = s.cwp := rfl
@[simp] theorem writeFD_cansave (s : State) (k : DReg) (v : Word64) : (writeFD s k v).cansave = s.cansave := rfl
@[simp] theorem writeFD_canrestore (s : State) (k : DReg) (v : Word64) :
    (writeFD s k v).canrestore = s.canrestore := rfl
@[simp] theorem writeFD_cleanwin (s : State) (k : DReg) (v : Word64) : (writeFD s k v).cleanwin = s.cleanwin := rfl
@[simp] theorem writeFD_otherwin (s : State) (k : DReg) (v : Word64) : (writeFD s k v).otherwin = s.otherwin := rfl
@[simp] theorem writeFD_wstate (s : State) (k : DReg) (v : Word64) : (writeFD s k v).wstate = s.wstate := rfl
@[simp] theorem writeFD_trap1 (s : State) (k : DReg) (v : Word64) : (writeFD s k v).trap1 = s.trap1 := rfl
@[simp] theorem writeFD_trap2 (s : State) (k : DReg) (v : Word64) : (writeFD s k v).trap2 = s.trap2 := rfl
@[simp] theorem writeFD_tba (s : State) (k : DReg) (v : Word64) : (writeFD s k v).tba = s.tba := rfl
@[simp] theorem writeFD_pstate (s : State) (k : DReg) (v : Word64) : (writeFD s k v).pstate = s.pstate := rfl
@[simp] theorem writeFD_tl (s : State) (k : DReg) (v : Word64) : (writeFD s k v).tl = s.tl := rfl
@[simp] theorem writeFD_pil (s : State) (k : DReg) (v : Word64) : (writeFD s k v).pil = s.pil := rfl
@[simp] theorem writeFD_gl (s : State) (k : DReg) (v : Word64) : (writeFD s k v).gl = s.gl := rfl
@[simp] theorem writeFD_scratchpad (s : State) (k : DReg) (v : Word64) :
    (writeFD s k v).scratchpad = s.scratchpad := rfl
@[simp] theorem writeFD_primary (s : State) (k : DReg) (v : Word64) : (writeFD s k v).primary = s.primary := rfl
@[simp] theorem writeFD_secondary (s : State) (k : DReg) (v : Word64) : (writeFD s k v).secondary = s.secondary := rfl
@[simp] theorem writeFD_queueHead (s : State) (k : DReg) (v : Word64) : (writeFD s k v).queueHead = s.queueHead := rfl
@[simp] theorem writeFD_queueTail (s : State) (k : DReg) (v : Word64) : (writeFD s k v).queueTail = s.queueTail := rfl
@[simp] theorem writeFD_pic (s : State) (k : DReg) (v : Word64) : (writeFD s k v).pic = s.pic := rfl
@[simp] theorem writeFD_mem (s : State) (k : DReg) (v : Word64) : (writeFD s k v).mem = s.mem := rfl
@[simp] theorem writeFD_code (s : State) (k : DReg) (v : Word64) : (writeFD s k v).code = s.code := rfl
@[simp] theorem writeFD_par (s : State) (k : DReg) (v : Word64) : (writeFD s k v).par = s.par := rfl
@[simp] theorem writeFD_env (s : State) (k : DReg) (v : Word64) : (writeFD s k v).env = s.env := rfl
@[simp] theorem writeFD_gap (s : State) (k : DReg) (v : Word64) : (writeFD s k v).gap = s.gap := rfl
@[simp] theorem writeFD_trapDelay (s : State) (k : DReg) (v : Word64) : (writeFD s k v).trapDelay = s.trapDelay := rfl
@[simp] theorem writeFD_freeCount (s : State) (k : DReg) (v : Word64) : (writeFD s k v).freeCount = s.freeCount := rfl

/-! ## F registers: `writeFQ` -/

@[simp] theorem writeFQ_g (s : State) (k : DReg) (v : Word128) : (writeFQ s k v).g = s.g := rfl
@[simp] theorem writeFQ_w (s : State) (k : DReg) (v : Word128) : (writeFQ s k v).w = s.w := rfl
@[simp] theorem writeFQ_fsr (s : State) (k : DReg) (v : Word128) : (writeFQ s k v).fsr = s.fsr := rfl
@[simp] theorem writeFQ_y (s : State) (k : DReg) (v : Word128) : (writeFQ s k v).y = s.y := rfl
@[simp] theorem writeFQ_ccr (s : State) (k : DReg) (v : Word128) : (writeFQ s k v).ccr = s.ccr := rfl
@[simp] theorem writeFQ_asi (s : State) (k : DReg) (v : Word128) : (writeFQ s k v).asi = s.asi := rfl
@[simp] theorem writeFQ_tick (s : State) (k : DReg) (v : Word128) : (writeFQ s k v).tick = s.tick := rfl
@[simp] theorem writeFQ_pc (s : State) (k : DReg) (v : Word128) : (writeFQ s k v).pc = s.pc := rfl
@[simp] theorem writeFQ_npc (s : State) (k : DReg) (v : Word128) : (writeFQ s k v).npc = s.npc := rfl
@[simp] theorem writeFQ_gsr (s : State) (k : DReg) (v : Word128) : (writeFQ s k v).gsr = s.gsr := rfl
@[simp] theorem writeFQ_softint (s : State) (k : DReg) (v : Word128) : (writeFQ s k v).softint = s.softint := rfl
@[simp] theorem writeFQ_stick (s : State) (k : DReg) (v : Word128) : (writeFQ s k v).stick = s.stick := rfl
@[simp] theorem writeFQ_stickCmpr (s : State) (k : DReg) (v : Word128) :
    (writeFQ s k v).stickCmpr = s.stickCmpr := rfl
@[simp] theorem writeFQ_pause (s : State) (k : DReg) (v : Word128) : (writeFQ s k v).pause = s.pause := rfl
@[simp] theorem writeFQ_mwait (s : State) (k : DReg) (v : Word128) : (writeFQ s k v).mwait = s.mwait := rfl
@[simp] theorem writeFQ_monitor (s : State) (k : DReg) (v : Word128) : (writeFQ s k v).monitor = s.monitor := rfl
@[simp] theorem writeFQ_cwp (s : State) (k : DReg) (v : Word128) : (writeFQ s k v).cwp = s.cwp := rfl
@[simp] theorem writeFQ_cansave (s : State) (k : DReg) (v : Word128) : (writeFQ s k v).cansave = s.cansave := rfl
@[simp] theorem writeFQ_canrestore (s : State) (k : DReg) (v : Word128) :
    (writeFQ s k v).canrestore = s.canrestore := rfl
@[simp] theorem writeFQ_cleanwin (s : State) (k : DReg) (v : Word128) : (writeFQ s k v).cleanwin = s.cleanwin := rfl
@[simp] theorem writeFQ_otherwin (s : State) (k : DReg) (v : Word128) : (writeFQ s k v).otherwin = s.otherwin := rfl
@[simp] theorem writeFQ_wstate (s : State) (k : DReg) (v : Word128) : (writeFQ s k v).wstate = s.wstate := rfl
@[simp] theorem writeFQ_trap1 (s : State) (k : DReg) (v : Word128) : (writeFQ s k v).trap1 = s.trap1 := rfl
@[simp] theorem writeFQ_trap2 (s : State) (k : DReg) (v : Word128) : (writeFQ s k v).trap2 = s.trap2 := rfl
@[simp] theorem writeFQ_tba (s : State) (k : DReg) (v : Word128) : (writeFQ s k v).tba = s.tba := rfl
@[simp] theorem writeFQ_pstate (s : State) (k : DReg) (v : Word128) : (writeFQ s k v).pstate = s.pstate := rfl
@[simp] theorem writeFQ_tl (s : State) (k : DReg) (v : Word128) : (writeFQ s k v).tl = s.tl := rfl
@[simp] theorem writeFQ_pil (s : State) (k : DReg) (v : Word128) : (writeFQ s k v).pil = s.pil := rfl
@[simp] theorem writeFQ_gl (s : State) (k : DReg) (v : Word128) : (writeFQ s k v).gl = s.gl := rfl
@[simp] theorem writeFQ_scratchpad (s : State) (k : DReg) (v : Word128) :
    (writeFQ s k v).scratchpad = s.scratchpad := rfl
@[simp] theorem writeFQ_primary (s : State) (k : DReg) (v : Word128) : (writeFQ s k v).primary = s.primary := rfl
@[simp] theorem writeFQ_secondary (s : State) (k : DReg) (v : Word128) :
    (writeFQ s k v).secondary = s.secondary := rfl
@[simp] theorem writeFQ_queueHead (s : State) (k : DReg) (v : Word128) :
    (writeFQ s k v).queueHead = s.queueHead := rfl
@[simp] theorem writeFQ_queueTail (s : State) (k : DReg) (v : Word128) :
    (writeFQ s k v).queueTail = s.queueTail := rfl
@[simp] theorem writeFQ_pic (s : State) (k : DReg) (v : Word128) : (writeFQ s k v).pic = s.pic := rfl
@[simp] theorem writeFQ_mem (s : State) (k : DReg) (v : Word128) : (writeFQ s k v).mem = s.mem := rfl
@[simp] theorem writeFQ_code (s : State) (k : DReg) (v : Word128) : (writeFQ s k v).code = s.code := rfl
@[simp] theorem writeFQ_par (s : State) (k : DReg) (v : Word128) : (writeFQ s k v).par = s.par := rfl
@[simp] theorem writeFQ_env (s : State) (k : DReg) (v : Word128) : (writeFQ s k v).env = s.env := rfl
@[simp] theorem writeFQ_gap (s : State) (k : DReg) (v : Word128) : (writeFQ s k v).gap = s.gap := rfl
@[simp] theorem writeFQ_trapDelay (s : State) (k : DReg) (v : Word128) :
    (writeFQ s k v).trapDelay = s.trapDelay := rfl
@[simp] theorem writeFQ_freeCount (s : State) (k : DReg) (v : Word128) :
    (writeFQ s k v).freeCount = s.freeCount := rfl

/-! ## Trap stack: `setTrapEntry` -/

@[simp] theorem setTrapEntry_g (s : State) (e : TrapEntry) : (setTrapEntry s e).g = s.g := by
  unfold setTrapEntry; split <;> rfl
@[simp] theorem setTrapEntry_w (s : State) (e : TrapEntry) : (setTrapEntry s e).w = s.w := by
  unfold setTrapEntry; split <;> rfl
@[simp] theorem setTrapEntry_f (s : State) (e : TrapEntry) : (setTrapEntry s e).f = s.f := by
  unfold setTrapEntry; split <;> rfl
@[simp] theorem setTrapEntry_fsr (s : State) (e : TrapEntry) : (setTrapEntry s e).fsr = s.fsr := by
  unfold setTrapEntry; split <;> rfl
@[simp] theorem setTrapEntry_y (s : State) (e : TrapEntry) : (setTrapEntry s e).y = s.y := by
  unfold setTrapEntry; split <;> rfl
@[simp] theorem setTrapEntry_ccr (s : State) (e : TrapEntry) : (setTrapEntry s e).ccr = s.ccr := by
  unfold setTrapEntry; split <;> rfl
@[simp] theorem setTrapEntry_asi (s : State) (e : TrapEntry) : (setTrapEntry s e).asi = s.asi := by
  unfold setTrapEntry; split <;> rfl
@[simp] theorem setTrapEntry_tick (s : State) (e : TrapEntry) : (setTrapEntry s e).tick = s.tick := by
  unfold setTrapEntry; split <;> rfl
@[simp] theorem setTrapEntry_pc (s : State) (e : TrapEntry) : (setTrapEntry s e).pc = s.pc := by
  unfold setTrapEntry; split <;> rfl
@[simp] theorem setTrapEntry_npc (s : State) (e : TrapEntry) : (setTrapEntry s e).npc = s.npc := by
  unfold setTrapEntry; split <;> rfl
@[simp] theorem setTrapEntry_fprs (s : State) (e : TrapEntry) : (setTrapEntry s e).fprs = s.fprs := by
  unfold setTrapEntry; split <;> rfl
@[simp] theorem setTrapEntry_gsr (s : State) (e : TrapEntry) : (setTrapEntry s e).gsr = s.gsr := by
  unfold setTrapEntry; split <;> rfl
@[simp] theorem setTrapEntry_softint (s : State) (e : TrapEntry) : (setTrapEntry s e).softint = s.softint := by
  unfold setTrapEntry; split <;> rfl
@[simp] theorem setTrapEntry_stick (s : State) (e : TrapEntry) : (setTrapEntry s e).stick = s.stick := by
  unfold setTrapEntry; split <;> rfl
@[simp] theorem setTrapEntry_stickCmpr (s : State) (e : TrapEntry) : (setTrapEntry s e).stickCmpr = s.stickCmpr := by
  unfold setTrapEntry; split <;> rfl
@[simp] theorem setTrapEntry_pause (s : State) (e : TrapEntry) : (setTrapEntry s e).pause = s.pause := by
  unfold setTrapEntry; split <;> rfl
@[simp] theorem setTrapEntry_mwait (s : State) (e : TrapEntry) : (setTrapEntry s e).mwait = s.mwait := by
  unfold setTrapEntry; split <;> rfl
@[simp] theorem setTrapEntry_monitor (s : State) (e : TrapEntry) : (setTrapEntry s e).monitor = s.monitor := by
  unfold setTrapEntry; split <;> rfl
@[simp] theorem setTrapEntry_cwp (s : State) (e : TrapEntry) : (setTrapEntry s e).cwp = s.cwp := by
  unfold setTrapEntry; split <;> rfl
@[simp] theorem setTrapEntry_cansave (s : State) (e : TrapEntry) : (setTrapEntry s e).cansave = s.cansave := by
  unfold setTrapEntry; split <;> rfl
@[simp] theorem setTrapEntry_canrestore (s : State) (e : TrapEntry) :
    (setTrapEntry s e).canrestore = s.canrestore := by
  unfold setTrapEntry; split <;> rfl
@[simp] theorem setTrapEntry_cleanwin (s : State) (e : TrapEntry) : (setTrapEntry s e).cleanwin = s.cleanwin := by
  unfold setTrapEntry; split <;> rfl
@[simp] theorem setTrapEntry_otherwin (s : State) (e : TrapEntry) : (setTrapEntry s e).otherwin = s.otherwin := by
  unfold setTrapEntry; split <;> rfl
@[simp] theorem setTrapEntry_wstate (s : State) (e : TrapEntry) : (setTrapEntry s e).wstate = s.wstate := by
  unfold setTrapEntry; split <;> rfl
@[simp] theorem setTrapEntry_tba (s : State) (e : TrapEntry) : (setTrapEntry s e).tba = s.tba := by
  unfold setTrapEntry; split <;> rfl
@[simp] theorem setTrapEntry_pstate (s : State) (e : TrapEntry) : (setTrapEntry s e).pstate = s.pstate := by
  unfold setTrapEntry; split <;> rfl
@[simp] theorem setTrapEntry_tl (s : State) (e : TrapEntry) : (setTrapEntry s e).tl = s.tl := by
  unfold setTrapEntry; split <;> rfl
@[simp] theorem setTrapEntry_pil (s : State) (e : TrapEntry) : (setTrapEntry s e).pil = s.pil := by
  unfold setTrapEntry; split <;> rfl
@[simp] theorem setTrapEntry_gl (s : State) (e : TrapEntry) : (setTrapEntry s e).gl = s.gl := by
  unfold setTrapEntry; split <;> rfl
@[simp] theorem setTrapEntry_scratchpad (s : State) (e : TrapEntry) :
    (setTrapEntry s e).scratchpad = s.scratchpad := by
  unfold setTrapEntry; split <;> rfl
@[simp] theorem setTrapEntry_primary (s : State) (e : TrapEntry) : (setTrapEntry s e).primary = s.primary := by
  unfold setTrapEntry; split <;> rfl
@[simp] theorem setTrapEntry_secondary (s : State) (e : TrapEntry) : (setTrapEntry s e).secondary = s.secondary := by
  unfold setTrapEntry; split <;> rfl
@[simp] theorem setTrapEntry_queueHead (s : State) (e : TrapEntry) : (setTrapEntry s e).queueHead = s.queueHead := by
  unfold setTrapEntry; split <;> rfl
@[simp] theorem setTrapEntry_queueTail (s : State) (e : TrapEntry) : (setTrapEntry s e).queueTail = s.queueTail := by
  unfold setTrapEntry; split <;> rfl
@[simp] theorem setTrapEntry_pic (s : State) (e : TrapEntry) : (setTrapEntry s e).pic = s.pic := by
  unfold setTrapEntry; split <;> rfl
@[simp] theorem setTrapEntry_mem (s : State) (e : TrapEntry) : (setTrapEntry s e).mem = s.mem := by
  unfold setTrapEntry; split <;> rfl
@[simp] theorem setTrapEntry_code (s : State) (e : TrapEntry) : (setTrapEntry s e).code = s.code := by
  unfold setTrapEntry; split <;> rfl
@[simp] theorem setTrapEntry_par (s : State) (e : TrapEntry) : (setTrapEntry s e).par = s.par := by
  unfold setTrapEntry; split <;> rfl
@[simp] theorem setTrapEntry_env (s : State) (e : TrapEntry) : (setTrapEntry s e).env = s.env := by
  unfold setTrapEntry; split <;> rfl
@[simp] theorem setTrapEntry_gap (s : State) (e : TrapEntry) : (setTrapEntry s e).gap = s.gap := by
  unfold setTrapEntry; split <;> rfl
@[simp] theorem setTrapEntry_trapDelay (s : State) (e : TrapEntry) : (setTrapEntry s e).trapDelay = s.trapDelay := by
  unfold setTrapEntry; split <;> rfl
@[simp] theorem setTrapEntry_freeCount (s : State) (e : TrapEntry) : (setTrapEntry s e).freeCount = s.freeCount := by
  unfold setTrapEntry; split <;> rfl

end Sys2Proof.Machine
end

