-- ==== Sys2Proof/Laws/Memory.lean ====
section
/-!
SUPPORT. Memory: a read after a write, and the canonical form, which every memory operation keeps. A proof about
stores cites `read_storeValue_in` and `read_storeValue_out` and does not unfold the byte loops.
-/

namespace Sys2Proof.Machine

open Sys2Proof

/-! ## One byte -/

@[simp] theorem Memory.read_nil (a : Nat) : Memory.read [] a = unlistedByte := rfl

theorem Memory.read_cons (k : Nat) (b : Byte) (t : Memory) (a : Nat) :
    Memory.read ((k, b) :: t) a = if k = a then b else Memory.read t a := rfl

theorem Memory.wfFrom_mono {lo hi : Nat} {m : Memory} (h : Memory.wfFrom hi m = true) (hle : lo ≤ hi) :
    Memory.wfFrom lo m = true := by
  cases m with
  | nil => rfl
  | cons e t =>
    obtain ⟨k, b⟩ := e
    simp only [Memory.wfFrom, Bool.and_eq_true, decide_eq_true_eq] at h ⊢
    exact ⟨⟨by omega, h.1.2⟩, h.2⟩

/-- Below its first address a canonical memory lists nothing. -/
theorem Memory.read_below {lo a : Nat} {m : Memory} (h : Memory.wfFrom lo m = true) (ha : a < lo) :
    m.read a = unlistedByte := by
  induction m generalizing lo with
  | nil => rfl
  | cons e t ih =>
    obtain ⟨k, b⟩ := e
    simp only [Memory.wfFrom, Bool.and_eq_true, decide_eq_true_eq] at h
    rw [Memory.read_cons, if_neg (by omega)]
    exact ih h.2 (by omega)

theorem Memory.wfFrom_write {lo : Nat} {m : Memory} {a : Nat} {b : Byte} (h : Memory.wfFrom lo m = true)
    (ha : lo ≤ a) : Memory.wfFrom lo (m.write a b) = true := by
  induction m generalizing lo with
  | nil =>
    by_cases hb : b = unlistedByte <;> simp [Memory.write, Memory.wfFrom, hb, ha]
  | cons e t ih =>
    obtain ⟨k, v⟩ := e
    have h' := h
    simp only [Memory.wfFrom, Bool.and_eq_true, decide_eq_true_eq] at h
    simp only [Memory.write]
    split
    · split
      · exact h'
      · simp only [Memory.wfFrom, Bool.and_eq_true, decide_eq_true_eq]
        exact ⟨⟨ha, by simpa using ‹_›⟩, ⟨by omega, h.1.2⟩, h.2⟩
    · split
      · split
        · exact Memory.wfFrom_mono h.2 (by omega)
        · simp only [Memory.wfFrom, Bool.and_eq_true, decide_eq_true_eq]
          subst k
          exact ⟨⟨ha, by simpa using ‹_›⟩, h.2⟩
      · simp only [Memory.wfFrom, Bool.and_eq_true, decide_eq_true_eq]
        exact ⟨h.1, ih h.2 (by omega)⟩

/-- A write keeps the canonical form. -/
theorem Memory.wf_write {m : Memory} (h : m.wf = true) (a : Nat) (b : Byte) : (m.write a b).wf = true :=
  Memory.wfFrom_write h (Nat.zero_le _)

theorem Memory.read_write_from {lo : Nat} {m : Memory} (h : Memory.wfFrom lo m = true) (a : Nat) (b : Byte)
    (c : Nat) : (m.write a b).read c = if a = c then b else m.read c := by
  induction m generalizing lo with
  | nil =>
    by_cases hb : b = unlistedByte <;> by_cases hc : a = c <;> simp [Memory.write, Memory.read_cons, hb, hc]
  | cons e t ih =>
    obtain ⟨k, v⟩ := e
    simp only [Memory.wfFrom, Bool.and_eq_true, decide_eq_true_eq] at h
    simp only [Memory.write]
    split
    · split
      · rename_i hk hb
        by_cases hc : a = c
        · subst hc
          rw [if_pos rfl, Memory.read_cons, if_neg (by omega), Memory.read_below h.2 (by omega), hb]
        · rw [if_neg hc]
      · rw [Memory.read_cons]
    · split
      · rename_i hk he
        subst he
        split
        · rename_i hb
          by_cases hc : a = c
          · subst hc
            rw [if_pos rfl, Memory.read_below h.2 (by omega), hb]
          · rw [if_neg hc, Memory.read_cons, if_neg hc]
        · rw [Memory.read_cons, Memory.read_cons]
          by_cases hc : a = c <;> simp [hc]
      · rename_i hk he
        rw [Memory.read_cons, Memory.read_cons, ih h.2]
        by_cases hc : k = c
        · subst hc; simp [he]
        · simp [hc]

/-- A read after a write, in a canonical memory. -/
theorem Memory.read_write {m : Memory} (h : m.wf = true) (a : Nat) (b : Byte) (c : Nat) :
    (m.write a b).read c = if a = c then b else m.read c :=
  Memory.read_write_from h a b c

/-! ## Several bytes -/

theorem Memory.wf_writeBE {m : Memory} (h : m.wf = true) (a n v : Nat) : (m.writeBE a n v).wf = true := by
  induction n generalizing v with
  | zero => exact h
  | succ n ih => exact Memory.wf_write (ih _) _ _

theorem Memory.wf_writeLE {m : Memory} (h : m.wf = true) (a n v : Nat) : (m.writeLE a n v).wf = true := by
  induction n generalizing v with
  | zero => exact h
  | succ n ih => exact Memory.wf_write (ih _) _ _

/-- The bytes after a big-endian store: the store's own, most significant first, and the rest as before. -/
theorem Memory.read_writeBE {m : Memory} (h : m.wf = true) (a n v c : Nat) :
    (m.writeBE a n v).read c =
      if a ≤ c ∧ c < a + n then BitVec.ofNat 8 (v / 256 ^ (a + n - 1 - c)) else m.read c := by
  induction n generalizing v with
  | zero => rw [if_neg (by omega)]; rfl
  | succ n ih =>
    rw [Memory.writeBE, Memory.read_write (Memory.wf_writeBE h ..), ih]
    by_cases hc : a + n = c
    · subst hc
      rw [if_pos rfl, if_pos (by omega), show a + (n + 1) - 1 - (a + n) = 0 by omega]
      simp
    · rw [if_neg hc]
      by_cases hr : a ≤ c ∧ c < a + n
      · rw [if_pos hr, if_pos (by omega), Nat.div_div_eq_div_mul, ← Nat.pow_succ',
          show a + (n + 1) - 1 - c = (a + n - 1 - c) + 1 by omega]
      · rw [if_neg hr, if_neg (by omega)]

/-- The bytes after a little-endian store: the store's own, least significant first, and the rest as before. -/
theorem Memory.read_writeLE {m : Memory} (h : m.wf = true) (a n v c : Nat) :
    (m.writeLE a n v).read c =
      if a ≤ c ∧ c < a + n then BitVec.ofNat 8 (v / 256 ^ (c - a)) else m.read c := by
  induction n generalizing v with
  | zero => rw [if_neg (by omega)]; rfl
  | succ n ih =>
    rw [Memory.writeLE, Memory.read_write (Memory.wf_writeLE h ..), ih]
    by_cases hc : a + n = c
    · subst hc
      rw [if_pos rfl, if_pos (by omega), show a + n - a = n by omega]
    · rw [if_neg hc]
      by_cases hr : a ≤ c ∧ c < a + n
      · rw [if_pos hr, if_pos (by omega)]
      · rw [if_neg hr, if_neg (by omega)]

/-- MemWrite keeps the canonical form. -/
theorem wf_storeValue {s : State} (h : s.mem.wf = true) (x : Place) (n v : Nat) :
    (storeValue s x n v).mem.wf = true := by
  rw [storeValue_mem]; split
  · exact Memory.wf_writeLE h ..
  · exact Memory.wf_writeBE h ..

/-- A byte that MemWrite writes. -/
theorem read_storeValue_in {s : State} (h : s.mem.wf = true) (x : Place) (n v k : Nat) (hk : k < n) :
    (storeValue s x n v).mem.read (x.ra + k) =
      BitVec.ofNat 8 (v / 256 ^ (if x.little then k else n - 1 - k)) := by
  rw [storeValue_mem]; split
  · rw [Memory.read_writeLE h, if_pos (by omega), show x.ra + k - x.ra = k by omega]
  · rw [Memory.read_writeBE h, if_pos (by omega), show x.ra + n - 1 - (x.ra + k) = n - 1 - k by omega]

/-- A byte that MemWrite does not write. -/
theorem read_storeValue_out {s : State} (h : s.mem.wf = true) (x : Place) (n v c : Nat)
    (hc : c < x.ra ∨ x.ra + n ≤ c) : (storeValue s x n v).mem.read c = s.mem.read c := by
  rw [storeValue_mem]; split
  · rw [Memory.read_writeLE h, if_neg (by omega)]
  · rw [Memory.read_writeBE h, if_neg (by omega)]

theorem Memory.readBE_lt (m : Memory) (a n : Nat) : m.readBE a n < 256 ^ n := by
  induction n with
  | zero => simp [Memory.readBE]
  | succ n ih =>
    have := (m.read (a + n)).isLt
    rw [Memory.readBE, Nat.pow_succ]; omega

theorem Memory.readLE_lt (m : Memory) (a n : Nat) : m.readLE a n < 256 ^ n := by
  induction n with
  | zero => simp [Memory.readLE]
  | succ n ih =>
    have hb : (m.read (a + n)).toNat ≤ 255 := by have := (m.read (a + n)).isLt; omega
    have hm : (m.read (a + n)).toNat * 256 ^ n ≤ 255 * 256 ^ n := Nat.mul_le_mul_right _ hb
    rw [Memory.readLE, Nat.pow_succ]; omega

/-- MemRead of `n` bytes is a number of `n` bytes. -/
theorem loadValue_lt (s : State) (x : Place) (n : Nat) : loadValue s x n < 256 ^ n := by
  unfold loadValue; split
  · exact Memory.readLE_lt ..
  · exact Memory.readBE_lt ..

/-! ## The remaining memory operations keep the canonical form -/

theorem wf_storeTwin {s : State} (h : s.mem.wf = true) (x : Place) (rd : Reg) :
    (storeTwin s x rd).mem.wf = true :=
  wf_storeValue (wf_storeValue h ..) ..

theorem wf_scramble {s : State} (h : s.mem.wf = true) (first lo hi count : Nat) :
    (scramble s first lo hi count).mem.wf = true := by
  induction count with
  | zero => exact h
  | succ n ih =>
    unfold scramble
    dsimp only
    split
    · exact ih
    · exact Memory.wf_write ih ..

theorem wf_stbiEffect {s t : State} (h : t.mem.wf = true) (asi : BitVec 8) (x : Place) (n : Nat) :
    (stbiEffect s asi x n t).mem.wf = true := by
  unfold stbiEffect; split
  · exact wf_scramble h ..
  · exact h

theorem wf_remoteStore {s : State} (h : s.mem.wf = true) (ra : Nat) (log : Fin 4) (value : Word64) :
    (remoteStore s ra log value).mem.wf = true := by
  unfold remoteStore; split
  · dsimp only; split <;> exact Memory.wf_writeBE h ..
  · exact h

/-- The memory of the start state has the canonical form. -/
theorem reset_mem_wf : State.reset.mem.wf = true := rfl

end Sys2Proof.Machine
end

