-- ==== Sys2Proof/Laws/Registers.lean ====
section
/-!
SUPPORT. The registers: what a read gives after a write, and which updates leave the R and F registers alone.
-/

namespace Sys2Proof.Machine

open Sys2Proof

/-! ## Places -/

theorem globalSlot_inj (gl : Fin 3) {m n : Reg} (hm : m.toNat < 8) (hn : n.toNat < 8)
    (h : globalSlot gl m = globalSlot gl n) : m = n := by
  have := congrArg Fin.val h
  simp only [globalSlot] at this
  have := gl.isLt
  apply BitVec.eq_of_toNat_eq
  omega

theorem windowSlot_inj (cwp : BitVec 3) {m n : Reg} (hm : 8 ≤ m.toNat) (hn : 8 ≤ n.toNat)
    (h : windowSlot cwp m = windowSlot cwp n) : m = n := by
  have h := congrArg Fin.val h
  have := m.isLt
  have := n.isLt
  apply BitVec.eq_of_toNat_eq
  simp only [windowSlot] at h
  have hc := cwp.isLt
  have aux : ∀ x : Nat, 8 ≤ x → x < 32 →
      ∃ o, o = (if x < 16 then x + 8 else if x < 24 then x - 8 else x - 24) ∧ o < 24 ∧
        (x < 16 ∧ o = x + 8 ∨ (16 ≤ x ∧ x < 24) ∧ o = x - 8 ∨ 24 ≤ x ∧ o = x - 24) := by
    intro x h8 h32; refine ⟨_, rfl, ?_⟩; split
    · omega
    · split <;> omega
  obtain ⟨a, ha, ha', hca⟩ := aux m.toNat hm m.isLt
  obtain ⟨b, hb, hb', hcb⟩ := aux n.toNat hn n.isLt
  rw [← ha, ← hb] at h
  omega

/-! ## R registers -/

@[simp] theorem readR_zero (s : State) : readR s 0#5 = 0 := rfl

@[simp] theorem writeR_zero (s : State) (v : Word64) : writeR s 0#5 v = s := rfl

theorem ne_zero_of_toNat {n : Reg} (h : n ≠ 0) : n.toNat ≠ 0 := fun h' => h (BitVec.eq_of_toNat_eq h')

theorem getFin_set {α : Type} {k : Nat} (l : Vector α k) (i j : Fin k) (v : α) :
    (l.set i v)[j] = if i = j then v else l[j] := by
  simp only [Fin.getElem_fin, Vector.getElem_set, Fin.val_inj]

/-- The globals after a write to a register. -/
theorem writeR_g (s : State) (n : Reg) (v : Word64) :
    (writeR s n v).g = if n.toNat ≠ 0 ∧ n.toNat < 8 then s.g.set (globalSlot s.gl n) v else s.g := by
  unfold writeR
  by_cases h : n.toNat = 0
  · rw [if_pos h, if_neg (fun h' => h'.1 h)]
  · rw [if_neg h]
    by_cases h8 : n.toNat < 8
    · rw [if_pos h8, if_pos ⟨h, h8⟩]
    · rw [if_neg h8, if_neg (fun h' => h8 h'.2)]

/-- The windowed registers after a write to a register. -/
theorem writeR_w (s : State) (n : Reg) (v : Word64) :
    (writeR s n v).w = if 8 ≤ n.toNat then s.w.set (windowSlot s.cwp n) v else s.w := by
  unfold writeR
  by_cases h8 : n.toNat < 8
  · rw [if_neg (by omega : ¬8 ≤ n.toNat), if_pos h8]; split <;> rfl
  · rw [if_pos (by omega : 8 ≤ n.toNat), if_neg (by omega : ¬n.toNat = 0), if_neg h8]

/-- A register read after a write: R[0] stays 0, the register written holds the value, the others stand. -/
theorem readR_writeR (s : State) (n : Reg) (v : Word64) (m : Reg) :
    readR (writeR s n v) m = if m = n ∧ n ≠ 0 then v else readR s m := by
  by_cases hn : n = 0
  · subst hn; rw [if_neg (fun h => h.2 rfl)]; rfl
  by_cases hm : m = 0
  · subst hm; rw [if_neg (fun h => hn h.1.symm)]; rfl
  have hn' := ne_zero_of_toNat hn
  have hm' := ne_zero_of_toNat hm
  have hl : readR (writeR s n v) m =
      if m.toNat < 8 then (writeR s n v).g[globalSlot s.gl m] else (writeR s n v).w[windowSlot s.cwp m] := by
    unfold readR; simp only [if_neg hm', writeR_gl, writeR_cwp]
  have hr : readR s m = if m.toNat < 8 then s.g[globalSlot s.gl m] else s.w[windowSlot s.cwp m] := by
    unfold readR; rw [if_neg hm']
  rw [hl, hr, writeR_g, writeR_w]
  by_cases he : m = n
  · subst he
    rw [if_pos (⟨rfl, hn⟩ : m = m ∧ m ≠ 0)]
    by_cases h8 : m.toNat < 8
    · rw [if_pos h8, if_pos ⟨hn', h8⟩, getFin_set, if_pos rfl]
    · rw [if_neg h8, if_pos (by omega : 8 ≤ m.toNat), getFin_set, if_pos rfl]
  · by_cases hm8 : m.toNat < 8
    · simp only [if_pos hm8]
      by_cases h : n.toNat ≠ 0 ∧ n.toNat < 8
      · rw [if_pos h, getFin_set, if_neg (fun h' => he (globalSlot_inj s.gl hm8 h.2 h'.symm)), if_neg (fun h => he h.1)]
      · rw [if_neg h, if_neg (fun h => he h.1)]
    · simp only [if_neg hm8]
      by_cases h : 8 ≤ n.toNat
      · rw [if_pos h, getFin_set, if_neg (fun h' => he (windowSlot_inj s.cwp (by omega) h h'.symm)),
          if_neg (fun h => he h.1)]
      · rw [if_neg h, if_neg (fun h => he h.1)]

theorem readR_writeR_same (s : State) {n : Reg} (h : n ≠ 0) (v : Word64) : readR (writeR s n v) n = v := by
  rw [readR_writeR, if_pos ⟨rfl, h⟩]

theorem readR_writeR_ne (s : State) {m n : Reg} (h : m ≠ n) (v : Word64) :
    readR (writeR s n v) m = readR s m := by
  rw [readR_writeR, if_neg (fun h' => h h'.1)]

/-- A write to a register changes the register files alone. -/
theorem writeR_shape (s : State) (n : Reg) (v : Word64) :
    writeR s n v = { s with g := (writeR s n v).g, w := (writeR s n v).w } := by
  unfold writeR; split; rfl; split <;> rfl

/-- The registers depend on the register files, GL and CWP alone. -/
theorem readR_congr {s t : State} (hg : t.g = s.g) (hw : t.w = s.w) (hgl : t.gl = s.gl) (hc : t.cwp = s.cwp)
    (n : Reg) : readR t n = readR s n := by
  unfold readR; simp only [hg, hw, hgl, hc]

@[simp] theorem readR_advance (s : State) (n : Reg) : readR (advance s) n = readR s n := rfl
@[simp] theorem readR_jumpDelayed (s : State) (ea : Word64) (n : Reg) : readR (jumpDelayed s ea) n = readR s n := rfl
@[simp] theorem readR_jumpNow (s : State) (ea : Word64) (n : Reg) : readR (jumpNow s ea) n = readR s n := rfl
@[simp] theorem readR_annul (s : State) (n : Reg) : readR (annul s) n = readR s n := rfl
@[simp] theorem readR_drawn (s : State) (n : Reg) : readR (drawn s) n = readR s n := rfl
@[simp] theorem readR_storeValue (s : State) (x : Place) (k v : Nat) (n : Reg) :
    readR (storeValue s x k v) n = readR s n := rfl
@[simp] theorem readR_writeFS (s : State) (m : FReg) (v : Word32) (n : Reg) :
    readR (writeFS s m v) n = readR s n := rfl
@[simp] theorem readR_writeFD (s : State) (k : DReg) (v : Word64) (n : Reg) :
    readR (writeFD s k v) n = readR s n := rfl
@[simp] theorem readR_writeFQ (s : State) (k : DReg) (v : Word128) (n : Reg) :
    readR (writeFQ s k v) n = readR s n := rfl

/-! ## F registers -/

theorem sSlot_inj {m n : FReg} (h : sSlot m = sSlot n) : m = n := by
  have := congrArg Fin.val h
  simp only [sSlot] at this
  apply BitVec.eq_of_toNat_eq; omega

theorem dSlot_ne_dSlotLow (j k : DReg) : (dSlot j : Fin 64) ≠ dSlotLow k := by
  intro h
  have := congrArg Fin.val h
  simp only [dSlot, dSlotLow] at this
  omega

theorem dSlot_inj {j k : DReg} (h : dSlot j = dSlot k) : j = k := by
  have := congrArg Fin.val h
  simp only [dSlot] at this
  apply BitVec.eq_of_toNat_eq; omega

theorem dSlotLow_inj {j k : DReg} (h : dSlotLow j = dSlotLow k) : j = k := by
  have := congrArg Fin.val h
  simp only [dSlotLow] at this
  apply BitVec.eq_of_toNat_eq; omega

/-- A single register read after a write of a single register. -/
theorem readFS_writeFS (s : State) (n : FReg) (v : Word32) (m : FReg) :
    readFS (writeFS s n v) m = if m = n then v else readFS s m := by
  unfold readFS writeFS
  rw [getFin_set]
  by_cases h : m = n
  · subst h; simp
  · rw [if_neg (fun h' => h (sSlot_inj h').symm), if_neg h]

theorem append_field (v : Word64) : (field v 32 32 ++ field v 0 32 : Word64) = v := by
  unfold field
  exact BitVec.extractLsb'_append_extractLsb'_eq_extractLsb' (by rfl) |>.trans (by simp)

/-- A double register read after a write of a double register. -/
theorem readFD_writeFD (s : State) (k : DReg) (v : Word64) (j : DReg) :
    readFD (writeFD s k v) j = if j = k then v else readFD s j := by
  unfold readFD writeFD
  simp only [getFin_set, dSlot_ne_dSlotLow, (dSlot_ne_dSlotLow _ _).symm, ↓reduceIte]
  by_cases h : j = k
  · subst h; simp [append_field]
  · rw [if_neg (fun h' => h (dSlot_inj h').symm), if_neg (fun h' => h (dSlotLow_inj h').symm), if_neg h]

@[simp] theorem readFS_advance (s : State) (n : FReg) : readFS (advance s) n = readFS s n := rfl
@[simp] theorem readFD_advance (s : State) (k : DReg) : readFD (advance s) k = readFD s k := rfl
@[simp] theorem readFQ_advance (s : State) (k : DReg) : readFQ (advance s) k = readFQ s k := rfl
@[simp] theorem readFS_drawn (s : State) (n : FReg) : readFS (drawn s) n = readFS s n := rfl
@[simp] theorem readFD_drawn (s : State) (k : DReg) : readFD (drawn s) k = readFD s k := rfl

end Sys2Proof.Machine
end

