-- ==== Sys2Proof/Laws/Ops.lean ====
section
/-!
SUPPORT. One lemma for each shared operation, saying everything it can answer. A proof about an instruction rewrites
its meaning with these equations and does not unfold the operation.
-/

namespace Sys2Proof.Machine

open Sys2Proof

/-! ## Ending an instruction, raising an exception -/

@[simp] theorem finish_ok (s t : State) : finish s (.ok t) = .next t := rfl

@[simp] theorem finish_pure (s t : State) : finish s (pure t) = .next t := rfl

@[simp] theorem finish_trap (s : State) (e : Exc) : finish s (.error (.trap e)) = takeTrap e s := rfl

@[simp] theorem finish_stuck (s : State) (f : Fault) : finish s (.error (.stuck f)) = .fault f := rfl

@[simp] theorem finish_implementation (s : State) : finish s (.error .implementation) = .next (advance s) := rfl

@[simp] theorem finishOpen_ok (u s t : State) : finishOpen u s (.ok t) = .next t := rfl

@[simp] theorem finishOpen_trap (u s : State) (e : Exc) : finishOpen u s (.error (.trap e)) = takeTrap e s := rfl

@[simp] theorem finishOpen_stuck (u s : State) (f : Fault) : finishOpen u s (.error (.stuck f)) = .fault f := rfl

@[simp] theorem finishOpen_implementation (u s : State) :
    finishOpen u s (.error .implementation) = .next (advance u) := rfl

/-- A check: go on, or raise its exception. -/
theorem finishOpen_require (u s : State) (ok : Bool) (e : Exc) (k : Unit → Eff State) :
    finishOpen u s (require ok e >>= k) = if ok then finishOpen u s (k ()) else takeTrap e s := by
  cases ok <;> rfl

/-- A computation in sequence: go on with its value, or end as it does. -/
theorem finishOpen_bind {α : Type} (u s : State) (r : Eff α) (k : α → Eff State) :
    finishOpen u s (r >>= k) = match r with
      | .ok x => finishOpen u s (k x)
      | .error e => finishOpen u s (.error e) := by
  cases r <;> rfl

/-- A check: go on, or raise its exception. -/
theorem finish_require (s : State) (ok : Bool) (e : Exc) (k : Unit → Eff State) :
    finish s (require ok e >>= k) = if ok then finish s (k ()) else takeTrap e s := by
  cases ok <;> rfl

/-- A computation in sequence: go on with its value, or end with its exception. -/
theorem finish_bind {α : Type} (s : State) (r : Eff α) (k : α → Eff State) :
    finish s (r >>= k) = match r with
      | .ok x => finish s (k x)
      | .error e => finish s (.error e) := by
  cases r <;> rfl

/-- An instruction that ends in a next state computed it, took a trap, or accessed an address space of the
implementation. -/
theorem finishOpen_next {u s t : State} {r : Eff State} (h : finishOpen u s r = .next t) :
    r = .ok t ∨ (∃ e, r = .error (.trap e) ∧ takeTrap e s = .next t) ∨
      (r = .error .implementation ∧ t = advance u) := by
  match r, h with
  | .ok _, h => exact .inl (by cases h; rfl)
  | .error (.trap e), h => exact .inr (.inl ⟨e, rfl, h⟩)
  | .error .implementation, h => exact .inr (.inr ⟨rfl, by cases h; rfl⟩)

/-- As `finishOpen_next`, for an instruction that writes no register from such an address space. -/
theorem finish_next {s t : State} {r : Eff State} (h : finish s r = .next t) :
    r = .ok t ∨ (∃ e, r = .error (.trap e) ∧ takeTrap e s = .next t) ∨
      (r = .error .implementation ∧ t = advance s) := finishOpen_next h

/-- What raising an exception answers. -/
theorem takeTrap_eq (e : Exc) (s : State) :
    takeTrap e s =
      match e.tt with
      | none => .fault (.hyperprivilegedTrap none s.pc s.npc)
      | some tt =>
        if e.alwaysExits || s.tl.val = Config.maxPtl || (e.toHyper && s.par.htrapPolicy = .exit) then
          .fault (.hyperprivilegedTrap (some tt) s.pc s.npc)
        else .next (enterTrap { s with fsr := e.recordFsr s.fsr } tt) := rfl

/-- A trap that is taken enters the privileged trap table from a trap level below the highest. -/
theorem takeTrap_next {e : Exc} {s t : State} (h : takeTrap e s = .next t) :
    ∃ tt, e.tt = some tt ∧ e.alwaysExits = false ∧ s.tl.val < 2 ∧ (e.toHyper = true → s.par.htrapPolicy ≠ .exit) ∧
      t = enterTrap { s with fsr := e.recordFsr s.fsr } tt := by
  rw [takeTrap_eq] at h
  split at h
  · cases h
  · rename_i tt htt
    split at h
    · cases h
    · rename_i hc
      simp only [Bool.or_eq_true, Bool.and_eq_true, decide_eq_true_eq, not_or, not_and] at hc
      cases h
      have := s.tl.isLt
      have h2 : s.tl.val ≠ 2 := hc.1.2
      exact ⟨tt, htt, by simpa using hc.1.1, by omega, hc.2, rfl⟩

/-- Raising an exception is never refused. -/
theorem takeTrap_ne_refused (e : Exc) (s : State) (r : Refusal) : takeTrap e s ≠ .refused r := by
  rw [takeTrap_eq]; split
  · exact nofun
  · split <;> exact nofun

/-- An instruction whose meaning ends with `finishOpen` is never refused. -/
theorem finishOpen_ne_refused (u s : State) (x : Eff State) (r : Refusal) : finishOpen u s x ≠ .refused r := by
  match x with
  | .ok _ => exact nofun
  | .error (.trap e) => exact takeTrap_ne_refused e s r
  | .error (.stuck _) => exact nofun
  | .error .implementation => exact nofun

/-- An instruction whose meaning ends with `finish` is never refused. -/
theorem finish_ne_refused (s : State) (x : Eff State) (r : Refusal) : finish s x ≠ .refused r :=
  finishOpen_ne_refused s s x r

/-! ## Integer instructions -/

theorem result_eq (s : State) (rd : Reg) (v : Word64) : result s rd v = .next (advance (writeR s rd v)) := rfl

theorem resultCc_eq (s : State) (rd : Reg) (v : Word64) (ccr : Ccr) :
    resultCc s rd v ccr = .next (advance { writeR s rd v with ccr := ccr }) := rfl

theorem multiply32_eq (product : Word64 → Word64 → Word64) (cc : Bool) (rd rs1 : Reg) (op2 : RegImm 13)
    (s : State) :
    multiply32 product cc rd rs1 op2 s = .next (advance
      { writeR s rd (product (readR s rs1) (operand2 s op2)) with
        y := field (product (readR s rs1) (operand2 s op2)) 32 32
        ccr := if cc then logicFlags (product (readR s rs1) (operand2 s op2)) else s.ccr }) := rfl

theorem divide32_eq (quotient : BitVec 32 → Word64 → Word64 → Word64 × Bool) (cc : Bool) (rd rs1 : Reg)
    (op2 : RegImm 13) (s : State) :
    divide32 quotient cc rd rs1 op2 s =
      if field (operand2 s op2) 0 32 != 0 then
        .next (advance
          { writeR (drawn s) rd (quotient s.y (readR s rs1) (operand2 s op2)).1 with
            y := field (freeValue s) 0 32
            ccr := if cc then divFlags (quotient s.y (readR s rs1) (operand2 s op2)).1
                (quotient s.y (readR s rs1) (operand2 s op2)).2 else s.ccr })
      else takeTrap .divisionByZero s := by
  unfold divide32; dsimp only; rw [finish_require]; rfl

theorem moveIcc_eq (x : Cc) (rd : Reg) (cond : ICond) (op2 : RegImm 11) (s : State) :
    moveIcc x rd cond op2 s = .next (advance (if icondTest cond x then writeR s rd (operand2 s op2) else s)) := rfl

theorem moveReg_eq (c : RCond) (rd rs1 : Reg) (op2 : RegImm 10) (s : State) :
    moveReg c rd rs1 op2 s =
      .next (advance (if rcondTest c (readR s rs1) then writeR s rd (operand2 s op2) else s)) := rfl

theorem moveFcc_eq (n : BitVec 2) (rd : Reg) (cond : FCond) (op2 : RegImm 11) (s : State) :
    moveFcc n rd cond op2 s =
      if fpuEnabled s then
        .next (advance (if fcondTest cond (readFcc s n) then writeR s rd (operand2 s op2) else s))
      else takeTrap .fpDisabled s := by
  unfold moveFcc needFpu; rw [finish_require]; rfl

/-! ## Control transfers -/

theorem finish_branchTo (s : State) (always taken a : Bool) (ea : Word64) :
    finish s (branchTo s always taken a ea) =
      if taken then
        if s.par.hasTct && s.pstate.tct then takeTrap .controlTransfer s
        else .next (if always && a then jumpNow s ea else jumpDelayed s ea)
      else .next (if a then annul s else advance s) := by
  unfold branchTo needNoTct
  cases taken
  · rfl
  · simp only [↓reduceIte]; rw [finish_require]; cases s.par.hasTct && s.pstate.tct <;> rfl

theorem branchIcc_eq {n : Nat} (cond : ICond) (x : Cc) (a : Bool) (disp : BitVec n) (s : State) :
    branchIcc cond x a disp s =
      if icondTest cond x then
        if s.par.hasTct && s.pstate.tct then takeTrap .controlTransfer s
        else .next (if decide (cond = .a) && a then jumpNow s (branchTarget s disp)
          else jumpDelayed s (branchTarget s disp))
      else .next (if a then annul s else advance s) :=
  finish_branchTo ..

theorem branchReg_eq (c : RCond) (a : Bool) (rs1 : Reg) (d16 : BitVec 16) (s : State) :
    branchReg c a rs1 d16 s =
      if rcondTest c (readR s rs1) then
        if s.par.hasTct && s.pstate.tct then takeTrap .controlTransfer s
        else .next (jumpDelayed s (branchTarget s d16))
      else .next (if a then annul s else advance s) :=
  finish_branchTo ..

theorem branchFcc_eq {n : Nat} (cond : FCond) (cc : BitVec 2) (a : Bool) (disp : BitVec n) (s : State) :
    branchFcc cond cc a disp s =
      if fpuEnabled s then
        if fcondTest cond (readFcc s cc) then
          if s.par.hasTct && s.pstate.tct then takeTrap .controlTransfer s
          else .next (if decide (cond = .a) && a then jumpNow s (branchTarget s disp)
            else jumpDelayed s (branchTarget s disp))
        else .next (if a then annul s else advance s)
      else takeTrap .fpDisabled s := by
  unfold branchFcc needFpu; rw [finish_require, finish_branchTo]

theorem compareBranch_eq (cond : ICond) (wide : Bool) (rs1 : Reg) (op2 : RegImm 5) (d10 : BitVec 10) (s : State) :
    compareBranch cond wide rs1 op2 d10 s =
      if icondTest cond (if wide then (subFlags (readR s rs1) (operand2 s op2) false).xcc
          else (subFlags (readR s rs1) (operand2 s op2) false).icc) then
        if s.par.hasTct && s.pstate.tct then takeTrap .controlTransfer s
        else .next (jumpNow s (branchTarget s d10))
      else .next (advance s) := by
  unfold compareBranch needNoTct; dsimp only
  generalize icondTest cond _ = taken
  cases taken
  · rfl
  · simp only [↓reduceIte]; rw [finish_require]; cases s.par.hasTct && s.pstate.tct <;> rfl

theorem trapIcc_eq (cond : ICond) (cc : IccSel) (rs1 : Reg) (op2 : RegImm 8) (s : State) :
    trapIcc cond cc rs1 op2 s =
      if icondTest cond (selectCc s cc) then
        if s.par.hasTct && s.pstate.tct then takeTrap .controlTransfer s
        else takeTrap (softwareTrap s (readR s rs1 + trapOperand s op2)) s
      else .next (advance s) := by
  unfold trapIcc needNoTct
  split
  · rw [finish_require]; cases s.par.hasTct && s.pstate.tct <;> rfl
  · rfl

/-! ## Privileged reads and writes -/

theorem readPriv_eq (s : State) (rd : Reg) (v : Word64) :
    readPriv s rd v = if s.pstate.priv then .next (advance (writeR s rd v)) else takeTrap .privilegedOpcode s := by
  unfold readPriv needPriv; rw [finish_require]; rfl

theorem writePriv_eq (s t : State) :
    writePriv s t = if s.pstate.priv then .next (advance t) else takeTrap .privilegedOpcode s := by
  unfold writePriv needPriv; rw [finish_require]; rfl

theorem windowOp_eq (s t : State) :
    windowOp s t = if s.pstate.priv then .next (advance t) else takeTrap .privilegedOpcode s := by
  unfold windowOp needPriv; rw [finish_require]; rfl

theorem readTrapStack_eq (s : State) (rd : Reg) (v : Word64) :
    readTrapStack s rd v =
      if s.pstate.priv then
        if 0 < s.tl.val then .next (advance (writeR s rd v)) else takeTrap .illegalInstruction s
      else takeTrap .privilegedOpcode s := by
  unfold readTrapStack needPriv; rw [finish_require, finish_require]; simp

theorem writeTrapStack_eq (s : State) (e : TrapEntry) :
    writeTrapStack s e =
      if s.pstate.priv then
        if 0 < s.tl.val then .next (advance (setTrapEntry s e)) else takeTrap .illegalInstruction s
      else takeTrap .privilegedOpcode s := by
  unfold writeTrapStack needPriv; rw [finish_require, finish_require]; simp

/-- The checks of DONE and RETRY, in their order. -/
theorem finish_returnChecks (s t : State) :
    finish s (do returnChecks s; .ok t) =
      if s.pstate.priv then
        if 0 < s.tl.val then
          if s.par.hasTct && s.pstate.tct then takeTrap .controlTransfer s
          else if s.npc = s.pc + 4 then .next t else .fault .returnInDelaySlot
        else takeTrap .illegalInstruction s
      else takeTrap .privilegedOpcode s := by
  unfold returnChecks needPriv needNoTct
  cases s.pstate.priv
  · rfl
  by_cases h : 0 < s.tl.val
  · simp only [h]
    cases s.par.hasTct && s.pstate.tct
    · by_cases hn : s.npc = s.pc + 4
      · simp only [hn]; rfl
      · simp only [hn]; rfl
    · rfl
  · simp only [h]; rfl

/-! ## Loads and stores -/

theorem loadImplicit_eq (n : Nat) (extend : Nat → Nat → Word64) (rd rs1 : Reg) (op2 : RegImm 13) (s : State) :
    loadImplicit n extend rd rs1 op2 s =
      match placeImplicit s (effAddr s rs1 op2) n .load with
      | .ok x => .next (advance (writeR s rd (extend n (loadValue s x n))))
      | .error e => finish s (.error e) := by
  unfold loadImplicit; cases placeImplicit s (effAddr s rs1 op2) n .load <;> rfl

theorem loadAlternate_eq (n : Nat) (extend : Nat → Nat → Word64) (rd rs1 : Reg) (addr : AltOperand) (s : State) :
    loadAlternate n extend rd rs1 addr s =
      match placeAsi s (altAsi s addr) (asiLoad ++ asiMonitor) (altAddr s rs1 addr) n .load with
      | .ok x => .next (advance (armMonitor s (altAsi s addr) x (writeR s rd (extend n (loadValue s x n)))))
      | .error e => finishOpen (openR s n extend rd) s (.error e) := by
  unfold loadAlternate; cases placeAsi s (altAsi s addr) (asiLoad ++ asiMonitor) (altAddr s rs1 addr) n .load <;> rfl

theorem storeImplicit_eq (n : Nat) (rd rs1 : Reg) (op2 : RegImm 13) (s : State) :
    storeImplicit n rd rs1 op2 s =
      match placeImplicit s (effAddr s rs1 op2) n .store with
      | .ok x => .next (advance (storeValue s x n (readR s rd).toNat))
      | .error e => finish s (.error e) := by
  unfold storeImplicit; cases placeImplicit s (effAddr s rs1 op2) n .store <;> rfl

theorem storeAlternate_eq (n : Nat) (rd rs1 : Reg) (addr : AltOperand) (s : State) :
    storeAlternate n rd rs1 addr s =
      match placeAsi s (altAsi s addr) (asiStore ++ asiStbi) (altAddr s rs1 addr) n .store with
      | .ok x => .next (advance (stbiEffect s (altAsi s addr) x n (storeValue s x n (readR s rd).toNat)))
      | .error e => finish s (.error e) := by
  unfold storeAlternate; cases placeAsi s (altAsi s addr) (asiStore ++ asiStbi) (altAddr s rs1 addr) n .store <;> rfl

theorem compareSwap_eq (n : Nat) (rd rs1 rs2 : Reg) (asi : AsiSource) (s : State) :
    compareSwap n rd rs1 rs2 asi s =
      match placeAsi s (casAsi s asi) asiAtomic (readR s rs1) n .atomic with
      | .ok x => .next (advance (writeR
          (if loadValue s x n = (readR s rs2).toNat % 256 ^ n then storeValue s x n (readR s rd).toNat else s) rd
          (unsignedBytes n (loadValue s x n))))
      | .error e => finishOpen (openR s n unsignedBytes rd) s (.error e) := by
  unfold compareSwap; cases placeAsi s (casAsi s asi) asiAtomic (readR s rs1) n .atomic <;> rfl

/-- The checks of an access to a register ASI, in their order. -/
theorem finish_checkRegisterAsi (s : State) (asi : BitVec 8) (ea : Word64) (k : Unit → Eff State) :
    finish s (checkRegisterAsi s asi ea >>= k) =
      if aligned ea 8 then
        if asiPrivileged s asi then takeTrap .privilegedAction s
        else if decide (asi = asiPic) || !asiAbsent s.par asi false then finish s (k ())
        else takeTrap .daeInvalidAsi s
      else takeTrap .memAddressNotAligned s := by
  unfold checkRegisterAsi
  cases aligned ea 8
  · rfl
  cases asiPrivileged s asi
  · cases h : (decide (asi = asiPic) || !asiAbsent s.par asi false) <;> rfl
  · rfl

/-- The reserved functions of a prefetch trap. -/
theorem finish_needPrefetchFcn (fcn : BitVec 5) (s : State) (k : Unit → Eff State) :
    finish s (needPrefetchFcn fcn >>= k) =
      if 5 ≤ fcn.toNat ∧ fcn.toNat ≤ 15 then takeTrap .illegalInstruction s else finish s (k ()) := by
  unfold needPrefetchFcn; rw [finish_require]
  by_cases h5 : 5 ≤ fcn.toNat <;> by_cases h15 : fcn.toNat ≤ 15 <;> simp [h5, h15]

/-- The ASI checks of PREFETCHA, in their order. -/
theorem finish_checkPrefetchAsi (s : State) (asi : BitVec 8) (k : Unit → Eff State) :
    finish s (checkPrefetchAsi s asi >>= k) =
      if s.par.prefetchaNop then finish s (k ())
      else if asiPrivileged s asi then takeTrap .privilegedAction s
      else if (decide (asi ∈ asiPrefetch) && !asiAbsent s.par asi false) || implAsi s.par asi then finish s (k ())
      else takeTrap .daeInvalidAsi s := by
  unfold checkPrefetchAsi
  cases s.par.prefetchaNop
  · cases asiPrivileged s asi
    · cases h : ((decide (asi ∈ asiPrefetch) && !asiAbsent s.par asi false) || implAsi s.par asi) <;>
        simp only [Bool.false_or, h] <;> rfl
    · rfl
  · simp only [Bool.true_or]; rfl

theorem loadFsr_eq (n : Nat) (update : Config.Params → Fsr → Word64 → Fsr) (rs1 : Reg) (op2 : RegImm 13) (s : State) :
    loadFsr n update rs1 op2 s =
      if fpuEnabled s then
        match placeImplicit s (effAddr s rs1 op2) n .load with
        | .ok x => .next (advance { s with fsr := update s.par s.fsr (BitVec.ofNat 64 (loadValue s x n)) })
        | .error e => finish s (.error e)
      else takeTrap .fpDisabled s := by
  unfold loadFsr needFpu; rw [finish_require]
  cases placeImplicit s (effAddr s rs1 op2) n .load <;> rfl

theorem storeFsr_eq (n : Nat) (rs1 : Reg) (op2 : RegImm 13) (s : State) :
    storeFsr n rs1 op2 s =
      if fpuEnabled s then
        match placeImplicit s (effAddr s rs1 op2) n .store with
        | .ok x => .next (advance
            { storeValue s x n (s.fsr.bits s.par.fsrVer).toNat with fsr := { s.fsr with ftt := 0 } })
        | .error e => finish s (.error e)
      else takeTrap .fpDisabled s := by
  unfold storeFsr needFpu; rw [finish_require]
  cases placeImplicit s (effAddr s rs1 op2) n .store <;> rfl

theorem finish_blockLoad (s : State) (rd : DReg) (asi : BitVec 8) (ea : Word64) :
    finish s (blockLoad s rd asi ea) =
      if field rd 0 3 == 0 then
        if fpuEnabled s then
          match placeAsi s asi asiBlock ea 64 .cachedLoad with
          | .ok x => .next (advance (loadBlock s x rd 8))
          | .error e => finish s (.error e)
        else takeTrap .fpDisabled s
      else takeTrap .illegalInstruction s := by
  unfold blockLoad needFpu needBlockReg; rw [finish_require, finish_require]
  cases placeAsi s asi asiBlock ea 64 .cachedLoad <;> rfl

theorem finish_blockStore (s : State) (rd : DReg) (asi : BitVec 8) (ea : Word64) :
    finish s (blockStore s rd asi ea) =
      if field rd 0 3 == 0 then
        if fpuEnabled s then
          match placeAsi s asi (asiBlock ++ asiCommit) ea 64 .store with
          | .ok x => .next (advance (storeBlock s x rd 8))
          | .error e => finish s (.error e)
        else takeTrap .fpDisabled s
      else takeTrap .illegalInstruction s := by
  unfold blockStore needFpu needBlockReg; rw [finish_require, finish_require]
  cases placeAsi s asi (asiBlock ++ asiCommit) ea 64 .store <;> rfl

theorem finish_shortLoad (s : State) (rd : DReg) (asi : BitVec 8) (ea : Word64) :
    finish s (shortLoad s rd asi ea) =
      if fpuEnabled s then
        match placeAsi s asi asiShort ea (shortBytes asi) .load with
        | .ok x => .next (advance (writeFD s rd (BitVec.ofNat 64 (loadValue s x (shortBytes asi)))))
        | .error e => finish s (.error e)
      else takeTrap .fpDisabled s := by
  unfold shortLoad needFpu; rw [finish_require]
  cases placeAsi s asi asiShort ea (shortBytes asi) .load <;> rfl

theorem finish_shortStore (s : State) (rd : DReg) (asi : BitVec 8) (ea : Word64) :
    finish s (shortStore s rd asi ea) =
      if fpuEnabled s then
        match placeAsi s asi asiShort ea (shortBytes asi) .store with
        | .ok x => .next (advance (storeValue s x (shortBytes asi) (readFD s rd).toNat))
        | .error e => finish s (.error e)
      else takeTrap .fpDisabled s := by
  unfold shortStore needFpu; rw [finish_require]
  cases placeAsi s asi asiShort ea (shortBytes asi) .store <;> rfl

/-! ## Floating-point operates -/

/-- The end of an FPop: the trap of an enabled exception, or the result with cexc, aexc and ftt. -/
theorem completeFp_eq (s : State) (r : FpResult) (t : State) :
    completeFp s r t =
      match trappedFlag (r.cexc s.fsr.tem) s.fsr.tem with
      | some e => .error (.trap (.fpIeee e))
      | none => .ok (advance
          { t with fsr := { t.fsr with cexc := r.cexc s.fsr.tem, aexc := s.fsr.aexc.or (r.cexc s.fsr.tem),
                                       ftt := 0 } }) := rfl

/-- unfinished_FPop, or the FPop goes on. -/
theorem finish_needFinished (s : State) (op : Option Config.FpOperation) (src dst : Prec) (operands : List Nat)
    (subnormalOperand subnormalResult : Bool) (k : Unit → Eff State) :
    finish s (needFinished s op src dst operands subnormalOperand subnormalResult >>= k) =
      if s.par.unfinishedCases.any fun c =>
          decide (some c.operation = op ∧ c.source = src.width ∧ c.destination = dst.width) &&
            match c.condition with
            | .subnormalOperand => subnormalOperand
            | .subnormalResult => subnormalResult
            | .chosenOperands => Config.unfinishedChoice c.operation c.source c.destination operands
      then takeTrap (.fpOther 2) s else finish s (k ()) := by
  unfold needFinished; rw [finish_require]
  cases s.par.unfinishedCases.any _ <;> rfl

/-- Without nonstandard mode a source is the value in its register. -/
theorem Prec.source_of_standard (p : Prec) (s : State) (r : BitVec 5) (h : nonstandard s = false) :
    p.source s r = p.value s r := by
  simp [Prec.source, nsFlushed, h]

theorem nsInexact_of_standard (s : State) (p : Prec) (r : BitVec 5) (h : nonstandard s = false) :
    nsInexact s p r = false := by
  simp [nsInexact, nsFlushed, h]

theorem nsIntermediate_of_standard (s : State) (src dst : Prec) (operand : Nat) (r : FpResult)
    (h : nonstandard s = false) : nsIntermediate s src dst operand r = r := by
  simp [nsIntermediate, h]

/-- What nonstandard mode can make of a tiny result before it is delivered. -/
theorem nsIntermediate_cases (s : State) (src dst : Prec) (operand : Nat) (r : FpResult) :
    nsIntermediate s src dst operand r = r ∨
      (nonstandard s = true ∧ r.tiny = true ∧ nsIntermediate s src dst operand r = r.zeroed dst) := by
  unfold nsIntermediate
  split <;> simp_all

/-- What nonstandard mode can make of a result. -/
theorem nsResult_cases (s : State) (p : Prec) (r : FpResult) :
    nsResult s p r = r ∨
      (nonstandard s = true ∧ p.format.subnormal r.bits = true ∧ nsResult s p r = r.zeroed p) := by
  unfold nsResult
  split <;> simp_all

theorem nsResult_of_standard (s : State) (p : Prec) (r : FpResult) (h : nonstandard s = false) :
    nsResult s p r = r := by
  simp [nsResult, h]

/-- The checks of an FPop, in their order. -/
theorem finish_fpChecks (s : State) (regs : List (Prec × BitVec 5)) (k : Unit → Eff State) :
    finish s (fpChecks s regs >>= k) =
      if regs.all fun r => decide (r.1 ≠ .q) || s.par.hasQuad then
        if fpuEnabled s then
          if regs.all fun r => decide (r.1 ≠ .q) || !bit r.2 0 then finish s (k ())
          else takeTrap (.fpOther 6) s
        else takeTrap .fpDisabled s
      else takeTrap .illegalInstruction s := by
  unfold fpChecks needFpu
  cases regs.all fun r => decide (r.1 ≠ .q) || s.par.hasQuad
  · rfl
  cases fpuEnabled s
  · rfl
  cases regs.all fun r => decide (r.1 ≠ .q) || !bit r.2 0
  · rfl
  · rfl

theorem fpLexicographic_eq (p : Prec) (cc : BitVec 2) (rs1 rs2 : BitVec 5) (s : State) :
    fpLexicographic p cc rs1 rs2 s =
      if fpuEnabled s then
        .next (advance { s with fsr := s.fsr.withFcc cc (lexicographicFcc (p.value s rs1) (p.value s rs2)) })
      else takeTrap .fpDisabled s := by
  unfold fpLexicographic needFpu; rw [finish_require]; rfl

/-! ## VIS and cryptography -/

theorem toFD_eq (rd : DReg) (v : Word64) (s : State) :
    toFD rd v s = if fpuEnabled s then .next (advance (writeFD s rd v)) else takeTrap .fpDisabled s := by
  unfold toFD needFpu; rw [finish_require]; rfl

theorem toFS_eq (rd : FReg) (v : Word32) (s : State) :
    toFS rd v s = if fpuEnabled s then .next (advance (writeFS s rd v)) else takeTrap .fpDisabled s := by
  unfold toFS needFpu; rw [finish_require]; rfl

theorem toR_eq (rd : Reg) (v : Word64) (s : State) :
    toR rd v s = if fpuEnabled s then .next (advance (writeR s rd v)) else takeTrap .fpDisabled s := by
  unfold toR needFpu; rw [finish_require]; rfl

theorem toRGsr_eq (rd : Reg) (v : Word64) (gsr : Gsr) (s : State) :
    toRGsr rd v gsr s =
      if fpuEnabled s then .next (advance { writeR s rd v with gsr := gsr }) else takeTrap .fpDisabled s := by
  unfold toRGsr needFpu; rw [finish_require]; rfl

theorem toMask_eq (mask : BitVec 32) (s : State) :
    toMask mask s =
      if fpuEnabled s then .next (advance { s with gsr := { s.gsr with mask := mask } })
      else takeTrap .fpDisabled s := by
  unfold toMask needFpu; rw [finish_require]; rfl

theorem finish_cryptoChecks (s : State) (cfrBit : Nat) (k : Unit → Eff State) :
    finish s (cryptoChecks s cfrBit >>= k) =
      if bit s.par.cfr cfrBit then
        if fpuEnabled s then finish s (k ()) else takeTrap .fpDisabled s
      else takeTrap .compatibilityFeature s := by
  unfold cryptoChecks needFpu
  cases bit s.par.cfr cfrBit
  · rfl
  cases fpuEnabled s <;> rfl

theorem cryptoResult_eq (cfrBit : Nat) (rd : DReg) (v : Word64) (s : State) :
    cryptoResult cfrBit rd v s =
      if bit s.par.cfr cfrBit then
        if fpuEnabled s then .next (advance (writeFD s rd v)) else takeTrap .fpDisabled s
      else takeTrap .compatibilityFeature s := by
  unfold cryptoResult; rw [finish_cryptoChecks]; rfl

theorem hashResult_eq (cfrBit : Nat) (vs : List Word64) (s : State) :
    hashResult cfrBit vs s =
      if bit s.par.cfr cfrBit then
        if fpuEnabled s then .next (advance (writeRun 0 vs s)) else takeTrap .fpDisabled s
      else takeTrap .compatibilityFeature s := by
  unfold hashResult; rw [finish_cryptoChecks]; rfl

theorem finish_multiChecks (s : State) (cfrBit : Nat) (k : Unit → Eff State) :
    finish s (multiChecks s cfrBit >>= k) =
      if bit s.par.cfr cfrBit then
        if fpuEnabled s then
          if s.canrestore == maxSavable then finish s (k ()) else takeTrap (fillTrap s) s
        else takeTrap .fpDisabled s
      else takeTrap .compatibilityFeature s := by
  unfold multiChecks cryptoChecks needFpu
  cases bit s.par.cfr cfrBit
  · rfl
  cases fpuEnabled s
  · rfl
  cases s.canrestore == maxSavable <;> rfl

/-- Lanes put together: lane `k` of the result is lane `k` of what was given. -/
theorem lane_buildLanes {n w count : Nat} (hn : n = w * count) (g : Nat → BitVec w) {k : Nat} (hk : k < count) :
    lane w k (buildLanes n w count g) = g k := by
  have fold : ∀ (l : List Nat), (l.foldr (fun k acc => (g k).toNat + 2 ^ w * acc) 0) < 2 ^ (w * l.length) ∧
      ∀ (i : Nat) (hi : i < l.length),
        (l.foldr (fun k acc => (g k).toNat + 2 ^ w * acc) 0) / 2 ^ (w * i) % 2 ^ w = (g l[i]).toNat := by
    intro l
    induction l with
    | nil => exact ⟨by simp, fun i hi => absurd hi (Nat.not_lt_zero _)⟩
    | cons x t ih =>
      have hx := (g x).isLt
      refine ⟨?_, ?_⟩
      · simp only [List.foldr_cons, List.length_cons]
        rw [Nat.mul_succ, Nat.pow_add, Nat.mul_comm (2 ^ (w * t.length))]
        have hm := Nat.mul_le_mul_left (2 ^ w) (Nat.succ_le_of_lt ih.1)
        rw [Nat.mul_succ] at hm
        omega
      · intro i hi
        simp only [List.foldr_cons]
        cases i with
        | zero => simp [Nat.mod_eq_of_lt hx]
        | succ i =>
          rw [Nat.mul_succ, Nat.add_comm (w * i), Nat.pow_add, ← Nat.div_div_eq_div_mul,
            Nat.add_mul_div_left _ _ (Nat.two_pow_pos w), Nat.div_eq_of_lt hx, Nat.zero_add]
          exact ih.2 i (by simpa using hi)
  have h := fold (List.range count)
  simp only [List.length_range] at h
  apply BitVec.eq_of_toNat_eq
  have h2 := h.2 k hk
  simp only [List.getElem_range] at h2
  rw [← h2]
  simp only [lane, field, BitVec.extractLsb'_toNat, buildLanes, BitVec.toNat_ofNat, Nat.shiftRight_eq_div_pow]
  rw [hn, Nat.mod_eq_of_lt h.1]

theorem lane_zipLanes {n w : Nat} (hn : n % w = 0) (f : BitVec w → BitVec w → BitVec w)
    (a b : BitVec n) {k : Nat} (hk : k < n / w) : lane w k (zipLanes w f a b) = f (lane w k a) (lane w k b) :=
  lane_buildLanes (by rw [Nat.mul_div_cancel' (Nat.dvd_of_mod_eq_zero hn)]) _ hk

end Sys2Proof.Machine
end

