-- ==== Sys2Proof/Laws/Frames.lean ====
section
/-!
SUPPORT. How a next state that differs in one place is shown: one lemma for each predicate `nextWith…` and `nextStored`
of Safety.lean.
-/

namespace Sys2Proof.Machine

open Sys2Proof

theorem memoryKept_refl (s : State) : memoryKept s s := fun _ => rfl

/-- A write to a register keeps every other place of the register files. -/
theorem registersKept_writeR (s : State) (rd : Reg) (v : Word64) : registersKept s (writeR s rd v) [rd] := by
  constructor
  · intro i h
    have h := h rd (by simp)
    rw [writeR_g]
    split
    · rename_i hr
      rw [getFin_set, if_neg]
      rintro rfl
      rcases h with h | h | h
      · exact hr.1 h
      · omega
      · exact h rfl
    · rfl
  · intro i h
    have h := h rd (by simp)
    rw [writeR_w]
    split
    · rw [getFin_set, if_neg]
      rintro rfl
      rcases h with h | h
      · omega
      · exact h rfl
    · rfl

theorem nextWithR_writeR (u : State) (rd : Reg) (v : Word64) : nextWithR (.next (writeR u rd v)) u rd v := by
  refine ⟨_, rfl, ?_, registersKept_writeR u rd v, ?_, writeR_shape u rd v⟩
  · rw [readR_writeR]
    by_cases h : rd = 0
    · subst h; rfl
    · rw [if_pos ⟨rfl, h⟩, if_neg h]
  · rw [writeR_shape]; exact fun _ => rfl

/-- The place of an update that leaves the register files, GL and CWP alone does not matter. -/
theorem nextWithR_of {t u : State} {rd : Reg} {v : Word64} (h : t = writeR u rd v) : nextWithR (.next t) u rd v :=
  h ▸ nextWithR_writeR u rd v

theorem advance_writeR (s : State) (rd : Reg) (v : Word64) :
    advance (writeR s rd v) = writeR (advance s) rd v := by
  unfold writeR; split; rfl; split <;> rfl

theorem nextWithR_advance (s : State) (rd : Reg) (v : Word64) :
    nextWithR (.next (advance (writeR s rd v))) (advance s) rd v := nextWithR_of (advance_writeR s rd v)

theorem nextWithFS_writeFS (u : State) (rd : FReg) (v : Word32) :
    nextWithFS (.next (writeFS u rd v)) u rd v := by
  refine ⟨_, rfl, ?_, ?_, fun _ => rfl, ?_⟩
  · simp [readFS_writeFS]
  · intro i hi
    simp only [List.mem_singleton] at hi
    unfold writeFS
    rw [getFin_set, if_neg (fun h => hi h.symm)]
  · simp [writeFS, Fprs.dirty]

theorem dirty_eq (x : Fprs) (k : DReg) : x.dirty (decide (16 ≤ k.toNat)) = dirtyD x k := by
  unfold Fprs.dirty dirtyD
  by_cases h : k.toNat < 16
  · have : ¬16 ≤ k.toNat := by omega
    simp [h, this]
  · have : 16 ≤ k.toNat := by omega
    simp [h, this]

theorem nextWithFD_writeFD (u : State) (k : DReg) (v : Word64) :
    nextWithFD (.next (writeFD u k v)) u k v := by
  refine ⟨_, rfl, ?_, ?_, fun _ => rfl, ?_⟩
  · simp [readFD_writeFD]
  · intro i hi
    simp only [List.mem_cons, List.not_mem_nil, or_false, not_or] at hi
    unfold writeFD
    rw [getFin_set, getFin_set, if_neg (fun h => hi.2 h.symm), if_neg (fun h => hi.1 h.symm)]
  · rw [← dirty_eq]; rfl

theorem readFQ_writeFQ (s : State) (k : DReg) (v : Word128) (hk : k.toNat % 2 = 0) : readFQ (writeFQ s k v) k = v := by
  have h1 : k &&& 0b11110 = k := by revert hk; revert k; decide
  have h2 : k ≠ k ||| 0b00001 := by revert hk; revert k; decide
  unfold readFQ writeFQ
  rw [h1, readFD_writeFD, readFD_writeFD, readFD_writeFD, if_neg h2, if_pos rfl, if_pos rfl]
  unfold field
  exact BitVec.extractLsb'_append_extractLsb'_eq_extractLsb' (by rfl) |>.trans (by simp)

theorem nextWithFQ_writeFQ (u : State) (k : DReg) (v : Word128) (hk : k.toNat % 2 = 0) :
    nextWithFQ (.next (writeFQ u k v)) u k v := by
  have h1 : k &&& 0b11110 = k := by revert hk; revert k; decide
  have h3 : (k ||| 0b00001).toNat < 16 ↔ k.toNat < 16 := by revert hk; revert k; decide
  refine ⟨_, rfl, readFQ_writeFQ u k v hk, ?_, fun _ => rfl, ?_⟩
  · intro i hi
    simp only [List.mem_cons, List.not_mem_nil, or_false, not_or] at hi
    unfold writeFQ
    rw [h1]
    unfold writeFD
    simp only [getFin_set]
    rw [if_neg (fun h => hi.2.2.2 h.symm), if_neg (fun h => hi.2.2.1 h.symm), if_neg (fun h => hi.2.1 h.symm),
      if_neg (fun h => hi.1 h.symm)]
  · have : (writeFQ u k v).fprs = dirtyD u.fprs k := by
      unfold writeFQ
      rw [h1]
      show ((u.fprs.dirty _).dirty _) = _
      rw [dirty_eq, dirty_eq]
      unfold dirtyD
      by_cases h : k.toNat < 16
      · rw [if_pos h, if_pos (h3.mpr h)]
      · rw [if_neg h, if_neg (fun h' => h (h3.mp h'))]
    rw [← this]; rfl

theorem bytesStored_storeValue {s : State} (h : s.mem.wf = true) (x : Place) (n v : Nat) :
    bytesStored (storeValue s x n v) x n v := fun k hk => read_storeValue_in h x n v k hk

theorem memoryKeptOutside_storeValue {s : State} (h : s.mem.wf = true) (x : Place) (n v : Nat) :
    memoryKeptOutside s (storeValue s x n v) x.ra n := fun a ha => read_storeValue_out h x n v a ha

theorem nextStored_storeValue {u : State} (h : u.mem.wf = true) (x : Place) (n v : Nat) :
    nextStored (.next (storeValue u x n v)) u x n v :=
  ⟨_, rfl, bytesStored_storeValue h x n v, memoryKeptOutside_storeValue h x n v, rfl⟩

end Sys2Proof.Machine
end

