-- ==== Sys2Proof/Laws/Rounding.lean ====
section
/-!
SUPPORT. Rounding (R28, R340, R342): `roundTo` rounds the number that its arguments describe once. The numbers of a format
lie on a grid; the exact magnitude lies between two neighbours of it, and the direction chooses one of them.
-/

namespace Sys2Proof.Laws
open Sys2Proof Sys2Proof.Machine

/-- A number of the lattice of a format with the exponent range unbounded above. -/
def onGrid (m : FpFormat) (z : ℝ) : Prop :=
  ∃ r k : ℕ, r ≤ 2 ^ (m.fracBits + 1) ∧ z = r * (2 : ℝ) ^ (m.minQuantum + k)

/-- `n · 2 ^ u` and `(n + 1) · 2 ^ u` are neighbours on the grid of a format. -/
theorem onGrid_gap {m : FpFormat} {n : ℕ} {u : ℤ} {z : ℝ}
    (hn : u = m.minQuantum ∨ 2 ^ m.fracBits ≤ n) (hz : onGrid m z) :
    z ≤ n * (2 : ℝ) ^ u ∨ (n + 1) * (2 : ℝ) ^ u ≤ z := by
  obtain ⟨r, k, hr, rfl⟩ := hz
  by_cases h : u ≤ m.minQuantum + k
  · obtain ⟨d, hd⟩ := Int.le.dest h
    have e : (2 : ℝ) ^ (m.minQuantum + k) = 2 ^ d * (2 : ℝ) ^ u := by
      rw [← hd, zpow_add₀ (by norm_num), zpow_natCast]; ring
    rw [e, ← mul_assoc]
    have p : (0 : ℝ) < (2 : ℝ) ^ u := by positivity
    rcases Nat.lt_or_ge n (r * 2 ^ d) with h | h
    · right; gcongr; exact_mod_cast h
    · left; gcongr; exact_mod_cast h
  · left
    have hn : 2 ^ m.fracBits ≤ n := hn.resolve_left (by omega)
    have e : (2 : ℝ) ^ (m.minQuantum + k) * 2 ≤ (2 : ℝ) ^ u := by
      rw [← zpow_add_one₀ (by norm_num)]
      exact zpow_le_zpow_right₀ (by norm_num) (by omega)
    calc (r : ℝ) * (2 : ℝ) ^ (m.minQuantum + k) ≤ (2 ^ (m.fracBits + 1) : ℝ) * (2 : ℝ) ^ (m.minQuantum + k) := by
          gcongr; exact_mod_cast hr
      _ = 2 ^ m.fracBits * ((2 : ℝ) ^ (m.minQuantum + k) * 2) := by rw [pow_succ]; ring
      _ ≤ n * (2 : ℝ) ^ u := by gcongr; exact_mod_cast hn

/-- A multiple of a power of two that a format's significand can hold is on its grid. -/
theorem onGrid_mul {m : FpFormat} {n : ℕ} {u : ℤ} (hu : m.minQuantum ≤ u) (hn : n ≤ 2 ^ (m.fracBits + 1)) :
    onGrid m (n * (2 : ℝ) ^ u) :=
  ⟨n, (u - m.minQuantum).toNat, hn, by congr 2; omega⟩

/-- The magnitude of every finite number of a format is on its grid. -/
theorem represents_onGrid {m : FpFormat} {b : ℕ} {z : ℝ} (h : m.represents b z) : onGrid m |z| := by
  obtain ⟨n, s, e, hd, rfl⟩ := h
  simp only [FpFormat.decode] at hd
  have hf : b % 2 ^ m.fracBits < 2 ^ m.fracBits := Nat.mod_lt _ (by positivity)
  have key : ∀ s e, s < 2 ^ (m.fracBits + 1) → m.minQuantum ≤ e → onGrid m |(FpValue.fin n s e).real| := by
    intro s e hs he
    have : |(FpValue.fin n s e).real| = s * (2 : ℝ) ^ e := by
      simp only [FpValue.real]; split <;> simp [abs_mul, abs_of_pos (show (0:ℝ) < 2 ^ e by positivity)]
    rw [this]; exact onGrid_mul he hs.le
  split at hd
  · split at hd <;> cases hd
  · split at hd
    · cases hd; exact key _ _ (by rw [pow_succ]; omega) le_rfl
    · rename_i h0
      cases hd
      exact key _ _ (by rw [pow_succ]; omega) (by simp only [FpFormat.minQuantum]; omega)


/-- What a pattern below that of the infinity stands for: exponent field and fraction run on from one another. -/
theorem represents_pattern {m : FpFormat} {neg : Bool} {k r : ℕ} (hr : r ≤ 2 ^ (m.fracBits + 1))
    (hk : k = 0 ∨ 2 ^ m.fracBits ≤ r) (hb : k * 2 ^ m.fracBits + r < m.inf false) :
    m.represents (m.signBit neg + (k * 2 ^ m.fracBits + r))
      ((if neg then -1 else 1) * (r * (2 : ℝ) ^ (m.minQuantum + k))) := by
  set p := m.fracBits with hp
  have pp : 0 < 2 ^ p := by positivity
  have pe : 0 < 2 ^ m.expBits := by positivity
  set b := k * 2 ^ p + r with hbdef
  simp only [FpFormat.inf, FpFormat.signBit, FpFormat.maxExp, Bool.false_eq_true, if_false, zero_add, ← hp] at hb
  have hlt : b < 2 ^ m.expBits * 2 ^ p := lt_of_lt_of_le hb (Nat.mul_le_mul_right _ (by omega))
  have s1 : (m.signBit neg + b) / 2 ^ p % 2 ^ m.expBits = b / 2 ^ p := by
    have : b / 2 ^ p < 2 ^ m.expBits := Nat.div_lt_of_lt_mul (by rwa [Nat.mul_comm])
    unfold FpFormat.signBit
    split
    · rw [pow_add, ← hp, Nat.add_comm, Nat.add_mul_div_right _ _ pp, Nat.add_mod_right, Nat.mod_eq_of_lt this]
    · rw [Nat.zero_add, Nat.mod_eq_of_lt this]
  have s2 : (m.signBit neg + b) % 2 ^ p = b % 2 ^ p := by
    unfold FpFormat.signBit
    split
    · rw [pow_add, ← hp, Nat.add_comm, Nat.add_mul_mod_self_right]
    · rw [Nat.zero_add]
  have s3 : m.negative (m.signBit neg + b) = neg := by
    have h0 : b / 2 ^ (m.expBits + p) = 0 := Nat.div_eq_of_lt (by rwa [pow_add])
    unfold FpFormat.negative FpFormat.signBit
    cases neg
    · simp [← hp, h0]
    · simp only [if_true, ← hp]
      rw [Nat.add_div_left _ (by positivity), h0]; rfl
  have hmax : b / 2 ^ p ≠ m.maxExp := by
    have : b / 2 ^ p < 2 ^ m.expBits - 1 := Nat.div_lt_of_lt_mul (by rwa [Nat.mul_comm])
    unfold FpFormat.maxExp; omega
  have hsign : ∀ (s : ℕ) (e : ℤ), (FpValue.fin neg s e).real = (if neg then -1 else 1) * (s * (2 : ℝ) ^ e) := by
    intro s e; simp only [FpValue.real]; ring
  unfold FpFormat.represents FpFormat.decode
  simp only [s1, ← hp, s2, s3, if_neg hmax]
  rcases Nat.lt_or_ge r (2 ^ p) with h | h
  · obtain rfl : k = 0 := hk.resolve_right (by omega)
    have e1 : b = r := by simp [hbdef]
    rw [e1, Nat.div_eq_of_lt h, Nat.mod_eq_of_lt h]
    exact ⟨neg, _, _, by rw [if_pos rfl], by simp [hsign]⟩
  · rcases Nat.lt_or_ge r (2 ^ (p + 1)) with h' | h'
    · have e1 : b = (r - 2 ^ p) + (k + 1) * 2 ^ p := by rw [hbdef, Nat.add_mul]; omega
      have l1 : r - 2 ^ p < 2 ^ p := by rw [pow_succ] at h'; omega
      have d1 : b / 2 ^ p = k + 1 := by rw [e1, Nat.add_mul_div_right _ _ pp, Nat.div_eq_of_lt l1, Nat.zero_add]
      have d2 : b % 2 ^ p = r - 2 ^ p := by rw [e1, Nat.add_mul_mod_self_right, Nat.mod_eq_of_lt l1]
      refine ⟨neg, _, _, by rw [d1, d2, if_neg (by omega)], ?_⟩
      rw [hsign, Nat.add_sub_cancel' h]
      congr 3
      simp only [FpFormat.minQuantum]; push_cast; ring
    · obtain rfl : r = 2 ^ (p + 1) := by omega
      have e1 : b = (k + 2) * 2 ^ p := by rw [hbdef, Nat.add_mul, pow_succ]; ring
      have d1 : b / 2 ^ p = k + 2 := by rw [e1, Nat.mul_div_cancel _ pp]
      have d2 : b % 2 ^ p = 0 := by rw [e1, Nat.mul_mod_left]
      refine ⟨neg, _, _, by rw [d1, d2, if_neg (by omega)], ?_⟩
      have : ((k + 2 : ℕ) : ℤ) - m.bias - p = (m.minQuantum + k) + 1 := by
        simp only [FpFormat.minQuantum, ← hp]; push_cast; ring
      rw [hsign, this, zpow_add_one₀ (by norm_num)]
      push_cast
      rw [pow_succ]; ring


/-- The fraction of a unit that `low` of `2 ^ shift` parts and a further part below one make up. -/
theorem partOf {low shift : ℕ} {δ : ℝ} (h0 : 0 ≤ δ) (h1 : δ < 1) (hl : low < 2 ^ shift) (hs : δ ≠ 0 → 0 < shift) :
    let ρ := (low + δ) / 2 ^ shift
    0 ≤ ρ ∧ ρ < 1 ∧ (ρ = 0 ↔ low = 0 ∧ δ = 0) ∧
      (1 / 2 < ρ ↔ 2 ^ shift < 2 * low ∨ (2 * low = 2 ^ shift ∧ δ ≠ 0)) ∧
      (ρ = 1 / 2 ↔ (2 * low = 2 ^ shift ∧ 0 < shift) ∧ δ = 0) := by
  intro ρ
  have pp : (0 : ℝ) < 2 ^ shift := by positivity
  have hl' : (low : ℝ) + 1 ≤ 2 ^ shift := by exact_mod_cast hl
  have ll : (0 : ℝ) ≤ low := by positivity
  have even : 2 * low < 2 ^ shift → 0 < shift → (2 * low + 2 : ℝ) ≤ 2 ^ shift := by
    intro h h'
    obtain ⟨k, rfl⟩ : ∃ k, shift = k + 1 := ⟨shift - 1, by omega⟩
    rw [pow_succ] at h
    have : low + 1 ≤ 2 ^ k := by omega
    have : (low : ℝ) + 1 ≤ 2 ^ k := by exact_mod_cast this
    rw [pow_succ]; linarith
  have zero : shift = 0 → (low : ℝ) = 0 ∧ δ = 0 := by
    rintro rfl
    exact ⟨by norm_cast; simpa using hl, by by_contra h; exact absurd (hs h) (lt_irrefl _)⟩
  have c1 : (2 : ℝ) ^ shift < 2 * low ↔ 2 ^ shift < 2 * low := by exact_mod_cast Iff.rfl
  have c2 : (2 * low : ℝ) = 2 ^ shift ↔ 2 * low = 2 ^ shift := by exact_mod_cast Iff.rfl
  have c3 : (2 * low : ℝ) < 2 ^ shift ↔ 2 * low < 2 ^ shift := by exact_mod_cast Iff.rfl
  refine ⟨by positivity, ?_, ?_, ?_, ?_⟩
  · rw [div_lt_one pp]; linarith
  · rw [div_eq_zero_iff]
    constructor
    · rintro (h | h)
      · exact ⟨by exact_mod_cast (by linarith : (low : ℝ) = 0), by linarith⟩
      · exact absurd h pp.ne'
    · rintro ⟨h, h'⟩; left; simp [h, h']
  · rw [lt_div_iff₀ pp, ← c1, ← c2]
    constructor
    · intro h
      rcases lt_trichotomy (2 * low : ℝ) (2 ^ shift) with h' | h' | h'
      · rcases Nat.eq_zero_or_pos shift with h'' | h''
        · obtain ⟨a, b⟩ := zero h''; rw [a, b] at h; linarith
        · have := even (c3.1 h') h''; linarith
      · right; exact ⟨h', by rintro rfl; linarith⟩
      · exact .inl h'
    · rintro (h | ⟨h, h'⟩)
      · linarith
      · have := lt_of_le_of_ne h0 (Ne.symm h'); linarith
  · rw [div_eq_iff pp.ne', ← c2]
    constructor
    · intro h
      rcases Nat.eq_zero_or_pos shift with h'' | h''
      · obtain ⟨a, b⟩ := zero h''; rw [a, b] at h; linarith
      · rcases lt_trichotomy (2 * low : ℝ) (2 ^ shift) with h' | h' | h'
        · have := even (c3.1 h') h''; linarith
        · exact ⟨⟨h', h''⟩, by linarith⟩
        · linarith
    · rintro ⟨⟨h, -⟩, h'⟩; linarith

/-- `roundsUp` by the discarded fraction `ρ` of a unit (R340). -/
theorem roundsUp_iff {rd : BitVec 2} {neg odd sticky : Bool} {low shift : ℕ} {ρ : ℝ}
    (h0 : ρ = 0 ↔ low = 0 ∧ sticky = false)
    (h1 : 1 / 2 < ρ ↔ 2 ^ shift < 2 * low ∨ (2 * low = 2 ^ shift ∧ sticky = true))
    (h2 : ρ = 1 / 2 ↔ (2 * low = 2 ^ shift ∧ 0 < shift) ∧ sticky = false)
    (hs : sticky = true → 0 < shift) :
    roundsUp rd neg odd low shift sticky = true ↔
      (rd = 0 ∧ (1 / 2 < ρ ∨ (ρ = 1 / 2 ∧ odd = true))) ∨
        (((rd = 2 ∧ neg = false) ∨ (rd = 3 ∧ neg = true)) ∧ ρ ≠ 0) := by
  have cases : ∀ d : BitVec 2, d = 0 ∨ d = 1 ∨ d = 2 ∨ d = 3 := by decide
  rw [Ne, h0, h1, h2]
  rcases cases rd with rfl | rfl | rfl | rfl <;> cases neg <;> cases odd <;> cases sticky <;>
    simp_all [roundsUp]


/-- A magnitude `sig` · 2 ^ `exp`, or one above it by less than 2 ^ `exp` when `sticky` holds, cut at a quantum that
lies at least two bits above `exp` when `sticky` holds. -/
theorem cutAt {sig : ℕ} {exp quantum : ℤ} {sticky : Bool} {x : ℝ}
    (lo : sig * (2 : ℝ) ^ exp ≤ x) (hi : x < (sig + 1) * (2 : ℝ) ^ exp)
    (hst : sticky = true ↔ x ≠ sig * (2 : ℝ) ^ exp) (hq : sticky = true → exp + 2 ≤ quantum) :
    let shift := (quantum - exp).toNat
    let wide := sig * 2 ^ (exp - quantum).toNat
    ∃ ρ : ℝ, 0 ≤ ρ ∧ ρ < 1 ∧ x = ((wide / 2 ^ shift : ℕ) + ρ) * (2 : ℝ) ^ quantum ∧
      (ρ = 0 ↔ wide % 2 ^ shift = 0 ∧ sticky = false) ∧
      (1 / 2 < ρ ↔ 2 ^ shift < 2 * (wide % 2 ^ shift) ∨ (2 * (wide % 2 ^ shift) = 2 ^ shift ∧ sticky = true)) ∧
      (ρ = 1 / 2 ↔ (2 * (wide % 2 ^ shift) = 2 ^ shift ∧ 0 < shift) ∧ sticky = false) ∧
      (sticky = true → 0 < shift) := by
  intro shift wide
  have pe : (0 : ℝ) < (2 : ℝ) ^ exp := by positivity
  have pos : sticky = true → 0 < shift := fun h => by have := hq h; simp only [shift]; omega
  set δ : ℝ := x / (2 : ℝ) ^ exp - sig with hδ
  have hx : x = (sig + δ) * (2 : ℝ) ^ exp := by rw [hδ]; field_simp; ring
  have d0 : 0 ≤ δ := by rw [hδ, sub_nonneg, le_div_iff₀ pe]; exact lo
  have d1 : δ < 1 := by rw [hδ, sub_lt_iff_lt_add, div_lt_iff₀ pe, add_comm]; exact hi
  have dz : δ = 0 ↔ sticky = false := by
    rw [hδ, sub_eq_zero, div_eq_iff pe.ne', ← Bool.not_eq_true, hst, not_not]
  have ds : δ ≠ 0 ↔ sticky = true := by rw [Ne, dz]; simp
  obtain ⟨r0, r1, rz, rh, re⟩ := partOf d0 d1 (Nat.mod_lt wide (by positivity : 0 < 2 ^ shift))
    (fun h => pos (ds.1 h))
  refine ⟨_, r0, r1, ?_, by rw [rz, dz], by rw [rh, ds], by rw [re, dz], pos⟩
  have split : (wide : ℝ) = (wide / 2 ^ shift : ℕ) * 2 ^ shift + (wide % 2 ^ shift : ℕ) := by
    exact_mod_cast (Nat.div_add_mod' wide (2 ^ shift)).symm
  have ps : (0 : ℝ) < 2 ^ shift := by positivity
  have e : ((wide / 2 ^ shift : ℕ) + ((wide % 2 ^ shift : ℕ) + δ) / 2 ^ shift : ℝ) = (wide + δ) / 2 ^ shift := by
    rw [split]; field_simp; ring
  rw [e, hx]
  rcases le_total exp quantum with h | h
  · have : (2 : ℝ) ^ quantum = 2 ^ shift * (2 : ℝ) ^ exp := by
      rw [← zpow_natCast, ← zpow_add₀ (by norm_num)]; congr 1; simp only [shift]; omega
    have w : wide = sig := by simp [wide, show (exp - quantum).toNat = 0 by omega]
    rw [this, w]; field_simp
  · have s0 : shift = 0 := by simp only [shift]; omega
    have st : δ = 0 := by
      by_contra hh; have := hq (ds.1 hh); omega
    have : (2 : ℝ) ^ exp = 2 ^ (exp - quantum).toNat * (2 : ℝ) ^ quantum := by
      rw [← zpow_natCast, ← zpow_add₀ (by norm_num)]; congr 1; omega
    rw [this, s0, st]; simp only [wide]; push_cast; ring

/-- The magnitude that rounding gives lies next to the exact one. -/
structure Rounds (m : FpFormat) (rd : BitVec 2) (neg : Bool) (x : ℝ) (n : ℕ) (u : ℤ) (ρ : ℝ) (r : ℕ) : Prop where
  quantum : m.minQuantum ≤ u
  width : u = m.minQuantum ∨ 2 ^ m.fracBits ≤ n
  bound : n < 2 ^ (m.fracBits + 1)
  nonneg : 0 ≤ ρ
  below : ρ < 1
  exact : x = (n + ρ) * (2 : ℝ) ^ u
  up : r = n + 1 ∧ ((rd = 0 ∧ (1 / 2 < ρ ∨ (ρ = 1 / 2 ∧ n % 2 = 1))) ∨
      (((rd = 2 ∧ neg = false) ∨ (rd = 3 ∧ neg = true)) ∧ ρ ≠ 0)) ∨
    r = n ∧ ¬((rd = 0 ∧ (1 / 2 < ρ ∨ (ρ = 1 / 2 ∧ n % 2 = 1))) ∨
      (((rd = 2 ∧ neg = false) ∨ (rd = 3 ∧ neg = true)) ∧ ρ ≠ 0))

/-- A signed number of the grid lies on one side of the gap that holds the exact magnitude. -/
theorem Rounds.sides {m : FpFormat} {rd : BitVec 2} {neg : Bool} {x : ℝ} {n r : ℕ} {u : ℤ} {ρ w : ℝ}
    (h : Rounds m rd neg x n u ρ r) (hw : onGrid m |w|) :
    w ≤ n * (2 : ℝ) ^ u ∨ (n + 1) * (2 : ℝ) ^ u ≤ w := by
  have p : (0 : ℝ) < (2 : ℝ) ^ u := by positivity
  have q : (0 : ℝ) ≤ n * (2 : ℝ) ^ u := by positivity
  rcases onGrid_gap h.width hw with h' | h'
  · left; linarith [le_abs_self w]
  · rcases le_total 0 w with h'' | h''
    · right; rwa [abs_of_nonneg h''] at h'
    · left; linarith

/-- Of two magnitudes `a` < `c` around `a + ρ (c - a)` the one that nearest-even rounding takes is nearest, and in a tie
the even one. -/
theorem nearest_of {a c x y w ρ : ℝ} {even : Prop} (ac : a < c) (hx : x = a + ρ * (c - a)) (h0 : 0 ≤ ρ) (h1 : ρ ≤ 1)
    (hw : w ≤ a ∨ c ≤ w)
    (hy : y = c ∧ (1 / 2 < ρ ∨ (ρ = 1 / 2 ∧ even)) ∨ y = a ∧ (ρ < 1 / 2 ∨ (ρ = 1 / 2 ∧ even))) :
    |x - y| ≤ |x - w| ∧ (|x - y| = |x - w| → w ≠ y → even) := by
  have p : 0 < c - a := sub_pos.2 ac
  have q0 : 0 ≤ ρ * (c - a) := by positivity
  have q1 : ρ * (c - a) ≤ c - a := by nlinarith
  have half : ρ = 1 / 2 → ρ * (c - a) = (c - a) / 2 := by rintro rfl; ring
  have less : ρ < 1 / 2 → ρ * (c - a) < (c - a) / 2 := fun h => by nlinarith
  have more : 1 / 2 < ρ → (c - a) / 2 < ρ * (c - a) := fun h => by nlinarith
  generalize ρ * (c - a) = d at *
  have ha : |x - a| = d := by rw [hx, abs_of_nonneg] <;> linarith
  have hc : |x - c| = c - a - d := by rw [hx, abs_of_nonpos] <;> linarith
  have dw : (w ≤ a ∧ |x - w| = x - w) ∨ (c ≤ w ∧ |x - w| = w - x) := by
    rcases hw with h | h
    · exact .inl ⟨h, abs_of_nonneg (by linarith)⟩
    · exact .inr ⟨h, by rw [abs_of_nonpos (by linarith)]; ring⟩
  rcases hy with ⟨rfl, h | ⟨h, e⟩⟩ | ⟨rfl, h | ⟨h, e⟩⟩
  · have := more h
    rw [hc]
    rcases dw with ⟨k, l⟩ | ⟨k, l⟩ <;> rw [l] <;>
      exact ⟨by linarith, fun m n => absurd (le_antisymm (by linarith) (by linarith)) n⟩
  · have := half h
    rw [hc]
    rcases dw with ⟨k, l⟩ | ⟨k, l⟩ <;> rw [l] <;> exact ⟨by linarith, fun _ _ => e⟩
  · have := less h
    rw [ha]
    rcases dw with ⟨k, l⟩ | ⟨k, l⟩ <;> rw [l] <;>
      exact ⟨by linarith, fun m n => absurd (le_antisymm (by linarith) (by linarith)) n⟩
  · have := half h
    rw [ha]
    rcases dw with ⟨k, l⟩ | ⟨k, l⟩ <;> rw [l] <;> exact ⟨by linarith, fun _ _ => e⟩

/-- A directed rounding takes the lower or the upper neighbour. -/
theorem Rounds.directed {m : FpFormat} {rd : BitVec 2} {neg : Bool} {x : ℝ} {n r : ℕ} {u : ℤ} {ρ : ℝ}
    (h : Rounds m rd neg x n u ρ r) (hd : rd ≠ 0) :
    ((rd = 2 ∧ neg = false) ∨ (rd = 3 ∧ neg = true) → x ≤ r * (2 : ℝ) ^ u ∧
      ∀ w : ℝ, onGrid m |w| → x ≤ w → r * (2 : ℝ) ^ u ≤ w) ∧
    (¬((rd = 2 ∧ neg = false) ∨ (rd = 3 ∧ neg = true)) → r * (2 : ℝ) ^ u ≤ x ∧
      ∀ w : ℝ, onGrid m |w| → w ≤ x → w ≤ r * (2 : ℝ) ^ u) := by
  have p : (0 : ℝ) < (2 : ℝ) ^ u := by positivity
  have hx := h.exact
  have h0 := h.nonneg
  have h1 := h.below
  constructor <;> intro ha
  · rcases h.up with ⟨rfl, -⟩ | ⟨rfl, hn⟩
    · push_cast
      refine ⟨by rw [hx]; gcongr, fun w hw xw => ?_⟩
      rcases h.sides hw with k | k
      · exfalso
        rcases h.up with ⟨-, k'⟩ | ⟨k', -⟩
        · have : ρ ≠ 0 := (k'.resolve_left (fun k => hd k.1)).2
          have : 0 < ρ * (2 : ℝ) ^ u := mul_pos (lt_of_le_of_ne h0 this.symm) p
          linarith
        · omega
      · exact k
    · have z : ρ = 0 := by by_contra k; exact hn (.inr ⟨ha, k⟩)
      rw [z, add_zero] at hx
      exact ⟨hx.le, fun w _ k => hx ▸ k⟩
  · rcases h.up with ⟨-, k⟩ | ⟨rfl, -⟩
    · rcases k with k | k
      · exact absurd k.1 hd
      · exact absurd k.1 ha
    · have : 0 ≤ ρ * (2 : ℝ) ^ u := by positivity
      refine ⟨by linarith, fun w hw k => ?_⟩
      rcases h.sides hw with l | l
      · exact l
      · have : ρ * (2 : ℝ) ^ u < 1 * (2 : ℝ) ^ u := by gcongr
        linarith

/-- The rounded magnitude with its sign is the exact number rounded (R340). -/
theorem Rounds.roundsTo {m : FpFormat} {rd : BitVec 2} {neg : Bool} {x : ℝ} {n r bits : ℕ} {u : ℤ} {ρ : ℝ}
    (h : Rounds m rd neg x n u ρ r) (pos : 0 < x) (hb : bits % 2 = r % 2) :
    Machine.roundsTo m rd ((if neg then -1 else 1) * x) bits ((if neg then -1 else 1) * (r * (2 : ℝ) ^ u)) := by
  intro b z hz
  have p : (0 : ℝ) < (2 : ℝ) ^ u := by positivity
  set y : ℝ := r * (2 : ℝ) ^ u with hy
  have y0 : 0 ≤ y := by positivity
  obtain ⟨w, rfl⟩ : ∃ w, z = (if neg then -1 else 1) * w := ⟨(if neg then -1 else 1) * z, by split <;> ring⟩
  have hw : onGrid m |w| := by
    have := represents_onGrid hz
    cases neg <;> simpa using this
  have ab : ∀ v : ℝ, |(if neg then -1 else 1) * v| = |v| := by intro v; cases neg <;> simp
  have sub : ∀ v v' : ℝ, |(if neg then -1 else 1) * v - (if neg then -1 else 1) * v'| = |v - v'| := by
    intro v v'; rw [← mul_sub, ab]
  by_cases d0 : rd = 0
  · rw [if_pos d0, sub, sub]
    have hn := h.up
    have hx := h.exact
    have hs := h.sides hw
    have key := nearest_of (a := n * (2 : ℝ) ^ u) (c := (n + 1) * (2 : ℝ) ^ u) (x := x) (y := y) (w := w) (ρ := ρ)
      (even := r % 2 = 0) (by linarith) (by rw [hx]; ring) h.nonneg h.below.le hs
      (by
        simp only [d0, true_and, show ¬((0 : BitVec 2) = 2) by decide, show ¬((0 : BitVec 2) = 3) by decide,
          false_and, or_false] at hn
        rcases hn with ⟨e, k⟩ | ⟨e, k⟩
        · left
          refine ⟨by rw [hy, e]; push_cast; ring, k.imp_right fun k => ⟨k.1, by omega⟩⟩
        · right
          refine ⟨by rw [hy, e], ?_⟩
          rcases lt_trichotomy ρ (1 / 2) with l | l | l
          · exact .inl l
          · exact .inr ⟨l, by
              have : ¬n % 2 = 1 := fun o => k (.inr ⟨l, o⟩)
              omega⟩
          · exact absurd (.inl l) k)
    refine ⟨key.1, fun k l => ?_⟩
    rw [hb]
    exact key.2 k (fun e => l (by rw [e]))
  · obtain ⟨up, down⟩ := h.directed d0
    rw [if_neg d0]
    have cases : ∀ d : BitVec 2, d ≠ 0 → d = 1 ∨ d = 2 ∨ d = 3 := by decide
    rcases cases rd d0 with rfl | rfl | rfl
    · obtain ⟨k, l⟩ := down (by rintro (⟨e, -⟩ | ⟨e, -⟩) <;> exact absurd e (by decide))
      rw [if_pos rfl, ab, ab, ab, abs_of_pos pos, abs_of_nonneg y0]
      exact ⟨k, l |w| (by rwa [abs_abs])⟩
    · rw [if_neg (by decide), if_pos rfl]
      cases neg
      · obtain ⟨k, l⟩ := up (by decide)
        simpa using ⟨k, l w hw⟩
      · obtain ⟨k, l⟩ := down (by decide)
        simpa using ⟨k, l w hw⟩
    · rw [if_neg (by decide), if_neg (by decide)]
      cases neg
      · obtain ⟨k, l⟩ := down (by decide)
        simpa using ⟨k, l w hw⟩
      · obtain ⟨k, l⟩ := up (by decide)
        simpa using ⟨k, l w hw⟩


/-- The first magnitude above the largest finite number, the exponent range unbounded. -/
theorem next_eq {m : FpFormat} : (2 : ℝ) ^ ((m.bias : ℤ) + 1) =
    ((2 ^ (m.fracBits + 1) - 1 : ℕ) + 1) * (2 : ℝ) ^ ((m.bias : ℤ) - m.fracBits) := by
  have : ((2 ^ (m.fracBits + 1) - 1 : ℕ) + 1 : ℝ) = (2 : ℝ) ^ ((m.fracBits + 1 : ℕ) : ℤ) := by
    rw [zpow_natCast]; norm_cast; exact Nat.sub_add_cancel Nat.one_le_two_pow
  rw [this, ← zpow_add₀ (by norm_num)]
  congr 1; push_cast; ring

/-- The largest finite number as a multiple of its quantum. -/
theorem largest_eq {m : FpFormat} : m.largest =
    (2 ^ (m.fracBits + 1) - 1 : ℕ) * (2 : ℝ) ^ ((m.bias : ℤ) - m.fracBits) := by
  unfold FpFormat.largest
  rw [Nat.cast_sub Nat.one_le_two_pow]; push_cast; rfl

/-- A number of the grid is at most the largest finite one or at least the next above it. -/
theorem onGrid_top {m : FpFormat} {z : ℝ} (hz : onGrid m z) :
    z ≤ m.largest ∨ (2 : ℝ) ^ ((m.bias : ℤ) + 1) ≤ z := by
  rw [next_eq, largest_eq]
  exact onGrid_gap (.inr (by rw [pow_succ]; omega)) hz

/-- The rounded magnitude passes the largest finite number exactly where R28 and R340 see an overflow. -/
theorem Rounds.overflows {m : FpFormat} {rd : BitVec 2} {neg : Bool} {x : ℝ} {n r : ℕ} {u : ℤ} {ρ : ℝ}
    (h : Rounds m rd neg x n u ρ r) (pos : 0 < x) (hB : 1 ≤ m.bias) :
    Machine.overflows m rd ((if neg then -1 else 1) * x) ↔ (2 : ℝ) ^ ((m.bias : ℤ) + 1) ≤ r * (2 : ℝ) ^ u := by
  have p : (0 : ℝ) < (2 : ℝ) ^ u := by positivity
  set next := (2 : ℝ) ^ ((m.bias : ℤ) + 1) with hnext
  have quantumTop : m.minQuantum ≤ (m.bias : ℤ) - m.fracBits := by simp only [FpFormat.minQuantum]; omega
  have gridL : onGrid m m.largest := by rw [largest_eq]; exact onGrid_mul quantumTop (Nat.sub_le _ _)
  have gridN : onGrid m next := by
    rw [hnext, next_eq]
    have := onGrid_mul (m := m) (n := 2 ^ (m.fracBits + 1) - 1 + 1) quantumTop (by
      rw [Nat.sub_add_cancel Nat.one_le_two_pow])
    exact_mod_cast this
  have gapL := onGrid_gap h.width gridL
  have gapN := onGrid_gap h.width gridN
  have gridA : onGrid m (n * (2 : ℝ) ^ u) := onGrid_mul h.quantum h.bound.le
  have gridC : onGrid m ((n + 1) * (2 : ℝ) ^ u) := by exact_mod_cast onGrid_mul h.quantum h.bound
  have topA := onGrid_top gridA
  have topC := onGrid_top gridC
  rw [← hnext] at topA topC
  have ln : m.largest < next := by
    rw [hnext, next_eq, largest_eq]
    have : (0 : ℝ) < (2 : ℝ) ^ ((m.bias : ℤ) - m.fracBits) := by positivity
    linarith
  have ab : |(if neg then -1 else 1) * x| = x := by cases neg <;> simp [abs_of_pos pos]
  have hx := h.exact
  have q0 : 0 ≤ ρ * (2 : ℝ) ^ u := mul_nonneg h.nonneg p.le
  have q1 : ρ * (2 : ℝ) ^ u < 1 * (2 : ℝ) ^ u := by have := h.below; gcongr
  have sgn : ((rd = 2 ∧ 0 < (if neg then -1 else 1) * x) ∨ (rd = 3 ∧ (if neg then -1 else 1) * x < 0)) ↔
      ((rd = 2 ∧ neg = false) ∨ (rd = 3 ∧ neg = true)) := by
    cases neg <;> simp [pos, pos.not_gt]
  unfold Machine.overflows
  rw [ab]
  simp only [sgn, ← hnext]
  by_cases d0 : rd = 0
  · rw [if_pos d0]
    have hu := h.up
    simp only [d0, true_and, show ¬((0 : BitVec 2) = 2) by decide, show ¬((0 : BitVec 2) = 3) by decide,
      false_and, or_false] at hu
    rcases lt_or_ge x m.largest with k | k
    · have c : (n + 1) * (2 : ℝ) ^ u ≤ m.largest := gapL.resolve_left (by linarith)
      have : r * (2 : ℝ) ^ u ≤ (n + 1) * (2 : ℝ) ^ u := by
        rcases hu with ⟨rfl, -⟩ | ⟨rfl, -⟩ <;> push_cast <;> linarith
      exact ⟨fun l => by linarith, fun l => by linarith⟩
    · rcases lt_or_ge x next with k' | k'
      · have a1 : m.largest ≤ n * (2 : ℝ) ^ u := gapL.resolve_right (by linarith)
        have a2 : n * (2 : ℝ) ^ u ≤ m.largest := topA.resolve_right (by linarith)
        have c1 : (n + 1) * (2 : ℝ) ^ u ≤ next := gapN.resolve_left (by linarith)
        have c2 : next ≤ (n + 1) * (2 : ℝ) ^ u := topC.resolve_left (by linarith)
        have odd : n % 2 = 1 := by
          have e : (2 : ℝ) ^ u = (2 : ℝ) ^ ((m.bias : ℤ) - m.fracBits) := by
            have e1 : (2 : ℝ) ^ u = next - m.largest := by linarith
            rw [e1, hnext, next_eq, largest_eq]; ring
          have e2 : (n : ℝ) * (2 : ℝ) ^ u = (2 ^ (m.fracBits + 1) - 1 : ℕ) * (2 : ℝ) ^ u := by
            rw [le_antisymm a2 a1, largest_eq, e]
          have e3 : n = 2 ^ (m.fracBits + 1) - 1 := by exact_mod_cast mul_right_cancel₀ p.ne' e2
          rw [e3, pow_succ]
          have : 0 < 2 ^ m.fracBits := by positivity
          omega
        have mid : (m.largest + next) / 2 ≤ x ↔ 1 / 2 ≤ ρ := by
          constructor
          · intro l
            have : 1 / 2 * (2 : ℝ) ^ u ≤ ρ * (2 : ℝ) ^ u := by linarith
            exact le_of_mul_le_mul_right this p
          · intro l
            have : 1 / 2 * (2 : ℝ) ^ u ≤ ρ * (2 : ℝ) ^ u := by gcongr
            linarith
        rw [mid]
        rcases hu with ⟨rfl, l⟩ | ⟨rfl, l⟩
        · refine ⟨fun _ => by push_cast; exact c2, fun _ => ?_⟩
          rcases l with l | l <;> linarith
        · refine ⟨fun l' => absurd ?_ l, fun l' => by linarith⟩
          exact (lt_or_eq_of_le l').imp_right fun e => ⟨e.symm, odd⟩
      · have a1 : next ≤ n * (2 : ℝ) ^ u := gapN.resolve_right (by linarith)
        have : n * (2 : ℝ) ^ u ≤ r * (2 : ℝ) ^ u := by
          rcases hu with ⟨rfl, -⟩ | ⟨rfl, -⟩ <;> push_cast <;> linarith
        exact ⟨fun _ => by linarith, fun _ => by linarith⟩
  · obtain ⟨up, down⟩ := h.directed d0
    rw [if_neg d0]
    have y0 : (0 : ℝ) ≤ r * (2 : ℝ) ^ u := by positivity
    have gridY : onGrid m (r * (2 : ℝ) ^ u) := by
      rcases h.up with ⟨e, -⟩ | ⟨e, -⟩ <;> rw [e]
      · exact_mod_cast gridC
      · exact gridA
    by_cases ha : (rd = 2 ∧ neg = false) ∨ (rd = 3 ∧ neg = true)
    · rw [if_pos ha]
      obtain ⟨k, l⟩ := up ha
      constructor
      · intro hlt
        exact (onGrid_top gridY).resolve_left (by linarith)
      · intro hle
        by_contra hc
        have := l m.largest (by rwa [abs_of_nonneg (by linarith)]) (not_lt.1 hc)
        linarith
    · rw [if_neg ha]
      obtain ⟨k, l⟩ := down ha
      exact ⟨fun hn => l next (by rwa [abs_of_pos (by positivity)]) hn, fun hn => hn.trans k⟩


/-- The pattern reaches that of the infinity exactly where the magnitude passes the largest finite number. -/
theorem inf_le_pattern {m : FpFormat} {k r : ℕ} (hE : 2 ≤ m.expBits) (hr : r ≤ 2 ^ (m.fracBits + 1))
    (hk : k = 0 ∨ 2 ^ m.fracBits ≤ r) :
    m.inf false ≤ k * 2 ^ m.fracBits + r ↔
      (2 : ℝ) ^ ((m.bias : ℤ) + 1) ≤ r * (2 : ℝ) ^ (m.minQuantum + k) := by
  set p := m.fracBits with hp
  have pp : 0 < 2 ^ p := by positivity
  obtain ⟨e, he⟩ : ∃ e, m.expBits = e + 2 := ⟨m.expBits - 2, by omega⟩
  have inf : m.inf false = (2 * m.bias + 1) * 2 ^ p := by
    simp only [FpFormat.inf, FpFormat.signBit, FpFormat.maxExp, FpFormat.bias, ← hp, he, Bool.false_eq_true,
      if_false, Nat.zero_add]
    congr 1
    have : 0 < 2 ^ e := by positivity
    simp only [show e + 2 - 1 = e + 1 by omega, pow_succ]
    omega
  have hB : 1 ≤ m.bias := by
    unfold FpFormat.bias
    have : 0 < 2 ^ e := by positivity
    rw [he, show e + 2 - 1 = e + 1 by omega, pow_succ]; omega
  have nat : (2 : ℝ) ^ ((m.bias : ℤ) + 1) ≤ r * (2 : ℝ) ^ (m.minQuantum + k) ↔
      2 ^ p * 2 ^ (2 * m.bias) ≤ r * 2 ^ k := by
    have e1 : (2 : ℝ) ^ ((m.bias : ℤ) + 1) = (2 ^ p * 2 ^ (2 * m.bias) : ℕ) * (2 : ℝ) ^ m.minQuantum := by
      push_cast
      rw [← zpow_natCast, ← zpow_natCast, ← zpow_add₀ (by norm_num), ← zpow_add₀ (by norm_num)]
      congr 1; simp only [FpFormat.minQuantum, ← hp]; push_cast; ring
    have e2 : r * (2 : ℝ) ^ (m.minQuantum + k) = (r * 2 ^ k : ℕ) * (2 : ℝ) ^ m.minQuantum := by
      rw [zpow_add₀ (by norm_num), zpow_natCast]; push_cast; ring
    rw [e1, e2, mul_le_mul_iff_left₀ (by positivity)]
    norm_cast
  rw [nat, inf]
  rw [pow_succ] at hr
  rcases Nat.lt_trichotomy (k + 1) (2 * m.bias) with h | h | h
  · constructor <;> intro hc <;> exfalso
    · have : (2 * m.bias + 1) * 2 ^ p = (k + 1 + (2 * m.bias - k)) * 2 ^ p := by congr 1; omega
      have : 3 * 2 ^ p ≤ (2 * m.bias + 1 - k) * 2 ^ p := Nat.mul_le_mul_right _ (by omega)
      have : (2 * m.bias + 1) * 2 ^ p = k * 2 ^ p + (2 * m.bias + 1 - k) * 2 ^ p := by
        rw [← Nat.add_mul]; congr 1; omega
      omega
    · have h1 : 2 ^ (k + 2) ≤ 2 ^ (2 * m.bias) := Nat.pow_le_pow_right (by norm_num) (by omega)
      have h2 : r * 2 ^ k ≤ 2 ^ p * 2 * 2 ^ k := Nat.mul_le_mul_right _ hr
      have h3 : 2 ^ p * 2 ^ (k + 2) ≤ 2 ^ p * 2 ^ (2 * m.bias) := Nat.mul_le_mul_left _ h1
      have h4 : 2 ^ p * 2 ^ (k + 2) = 4 * (2 ^ p * 2 ^ k) := by rw [pow_add]; ring
      have h5 : 2 ^ p * 2 * 2 ^ k = 2 * (2 ^ p * 2 ^ k) := by ring
      have : 0 < 2 ^ p * 2 ^ k := by positivity
      omega
  · have e1 : 2 ^ p * 2 ^ (2 * m.bias) = (2 * 2 ^ p) * 2 ^ k := by rw [← h, pow_succ]; ring
    rw [e1, mul_le_mul_iff_left₀ (by positivity), ← h, show k + 1 + 1 = k + 2 from rfl, Nat.add_mul]
    omega
  · have hr' : 2 ^ p ≤ r := hk.resolve_left (by omega)
    refine ⟨fun _ => Nat.mul_le_mul hr' (Nat.pow_le_pow_right (by norm_num) (by omega)), fun _ => ?_⟩
    have : 2 * m.bias * 2 ^ p ≤ k * 2 ^ p := Nat.mul_le_mul_right _ (by omega)
    rw [Nat.add_mul]; omega

/-- `roundTo` rounds the number whose magnitude its arguments describe once (R28, R340, R342). -/
theorem roundTo_roundedOnce {m : FpFormat} (hE : 2 ≤ m.expBits) (hp : 1 ≤ m.fracBits) {dir : BitVec 2} {neg : Bool}
    {sig : ℕ} {exp : ℤ} {sticky : Bool} {x : ℝ} (hs : 0 < sig) (lo : sig * (2 : ℝ) ^ exp ≤ |x|)
    (hi : |x| < (sig + 1) * (2 : ℝ) ^ exp) (hst : sticky = true ↔ |x| ≠ sig * (2 : ℝ) ^ exp)
    (hw : sticky = true → m.fracBits + 2 ≤ Nat.log2 sig) (hneg : neg = true ↔ x < 0) :
    roundedOnce m dir x (roundTo m dir neg sig exp sticky) := by
  have hB : 1 ≤ m.bias := by
    have : 2 ^ 1 ≤ 2 ^ (m.expBits - 1) := Nat.pow_le_pow_right (by norm_num) (by omega)
    unfold FpFormat.bias; omega
  set l := Nat.log2 sig with hl
  have l1 : 2 ^ l ≤ sig := Nat.log2_self_le hs.ne'
  have l2 : sig < 2 ^ (l + 1) := Nat.lt_log2_self
  set top : ℤ := exp + (l : ℤ) with htop
  set quantum : ℤ := max (top - m.fracBits) m.minQuantum with hq
  have pe : (0 : ℝ) < (2 : ℝ) ^ exp := by positivity
  have pu : (0 : ℝ) < (2 : ℝ) ^ quantum := by positivity
  have x0 : 0 < |x| := lt_of_lt_of_le (by positivity) lo
  have xs : x = (if neg then -1 else 1) * |x| := by
    rcases lt_or_ge x 0 with h | h
    · rw [if_pos (hneg.2 h), abs_of_neg h]; ring
    · rw [if_neg (fun k => absurd (hneg.1 k) (not_lt.2 h)), abs_of_nonneg h, one_mul]
  have top1 : (2 : ℝ) ^ top ≤ |x| := by
    refine le_trans ?_ lo
    rw [htop, add_comm, zpow_add₀ (by norm_num), zpow_natCast]
    gcongr; exact_mod_cast l1
  have top2 : |x| < (2 : ℝ) ^ (top + 1) := by
    refine lt_of_lt_of_le hi ?_
    rw [htop, show exp + (l : ℤ) + 1 = ((l + 1 : ℕ) : ℤ) + exp by push_cast; ring, zpow_add₀ (by norm_num), zpow_natCast]
    gcongr; exact_mod_cast l2
  obtain ⟨ρ, r0, r1, hx, rz, rh, re, rp⟩ := cutAt (quantum := quantum) lo hi hst (fun h => by
    have := hw h; omega)
  simp only [roundTo, ← hl, ← htop, ← hq]
  set shift := (quantum - exp).toNat
  set wide := sig * 2 ^ (exp - quantum).toNat
  set n := wide / 2 ^ shift
  set low := wide % 2 ^ shift
  have width : quantum = m.minQuantum ∨ 2 ^ m.fracBits ≤ n := by
    rcases max_choice (top - m.fracBits) m.minQuantum with h | h
    · right
      rw [← hq] at h
      have : (2 : ℝ) ^ m.fracBits * (2 : ℝ) ^ quantum < (n + 1) * (2 : ℝ) ^ quantum := by
        rw [← zpow_natCast, ← zpow_add₀ (by norm_num), show (m.fracBits : ℤ) + quantum = top by omega]
        calc (2 : ℝ) ^ top ≤ |x| := top1
          _ = (n + ρ) * (2 : ℝ) ^ quantum := hx
          _ < (n + 1) * (2 : ℝ) ^ quantum := by gcongr
      have := lt_of_mul_lt_mul_right this pu.le
      have : 2 ^ m.fracBits < n + 1 := by exact_mod_cast this
      omega
    · left; rw [hq]; exact h
  have bound : n < 2 ^ (m.fracBits + 1) := by
    have : (n : ℝ) * (2 : ℝ) ^ quantum < (2 : ℝ) ^ (m.fracBits + 1) * (2 : ℝ) ^ quantum := by
      calc (n : ℝ) * (2 : ℝ) ^ quantum ≤ (n + ρ) * (2 : ℝ) ^ quantum := by gcongr; linarith
        _ = |x| := hx.symm
        _ < (2 : ℝ) ^ (top + 1) := top2
        _ ≤ (2 : ℝ) ^ (m.fracBits + 1) * (2 : ℝ) ^ quantum := by
          rw [← zpow_natCast, ← zpow_add₀ (by norm_num)]
          exact zpow_le_zpow_right₀ (by norm_num) (by push_cast; omega)
    have := lt_of_mul_lt_mul_right this pu.le
    exact_mod_cast this
  have up := roundsUp_iff (rd := dir) (neg := neg) (odd := n % 2 == 1) rz rh re rp
  simp only [beq_iff_eq] at up
  set r := if roundsUp dir neg (n % 2 == 1) low shift sticky = true then n + 1 else n with hr
  have H : Rounds m dir neg |x| n quantum ρ r := by
    refine ⟨le_max_right _ _, width, bound, r0, r1, hx, ?_⟩
    by_cases h : roundsUp dir neg (n % 2 == 1) low shift sticky = true
    · exact .inl ⟨by rw [hr, if_pos h], up.1 h⟩
    · exact .inr ⟨by rw [hr, if_neg h], fun k => h (up.2 k)⟩
  have nr : n ≤ r := by rw [hr]; split <;> omega
  have rb : r ≤ 2 ^ (m.fracBits + 1) := by rw [hr]; split <;> omega
  set k := (quantum - m.minQuantum).toNat with hk
  have kq : m.minQuantum + (k : ℤ) = quantum := by have := le_max_right (top - m.fracBits) m.minQuantum; omega
  have kw : k = 0 ∨ 2 ^ m.fracBits ≤ r := by
    rcases width with h | h
    · left; omega
    · right; omega
  have ovf := H.overflows x0 hB
  rw [← xs] at ovf
  have pat := inf_le_pattern hE rb kw
  rw [kq, ← ovf] at pat
  by_cases hof : m.inf false ≤ k * 2 ^ m.fracBits + r
  · rw [if_pos hof]
    have hover := pat.1 hof
    refine ⟨rfl, rfl, ?_, by simpa using hover, by simp, fun _ => ⟨rfl, ?_⟩⟩
    · have : (2 : ℝ) ^ (1 - (m.bias : ℤ)) ≤ |x| := by
        have h1 := ovf.1 hover
        by_contra hc
        have h2 : r * (2 : ℝ) ^ quantum ≤ (2 : ℝ) ^ (1 - (m.bias : ℤ)) := by
          have g : onGrid m ((2 : ℝ) ^ (1 - (m.bias : ℤ))) := by
            refine ⟨2 ^ m.fracBits, 0, Nat.pow_le_pow_right (by norm_num) (by omega), ?_⟩
            push_cast
            rw [← zpow_natCast, ← zpow_add₀ (by norm_num)]
            congr 1; simp only [FpFormat.minQuantum]; ring
          have rn : r ≤ n + 1 := by rw [hr]; split <;> omega
          have : (r : ℝ) * (2 : ℝ) ^ quantum ≤ (n + 1) * (2 : ℝ) ^ quantum := by
            gcongr; exact_mod_cast rn
          rcases onGrid_gap width g with h' | h'
          · have : (n : ℝ) * (2 : ℝ) ^ quantum ≤ |x| := by rw [hx]; gcongr; linarith
            linarith
          · linarith
        have h3 : (2 : ℝ) ^ (1 - (m.bias : ℤ)) < (2 : ℝ) ^ ((m.bias : ℤ) + 1) :=
          zpow_lt_zpow_right₀ (by norm_num) (by omega)
        linarith
      simpa using this
    · have pos : ¬x < 0 → 0 < x := fun h => lt_of_le_of_ne (not_lt.1 h) (fun e => by simp [← e] at x0)
      have c : ∀ d : BitVec 2, d = 0 ∨ d = 1 ∨ d = 2 ∨ d = 3 := by decide
      cases neg
      · have xp := pos (fun h => by simpa using hneg.2 h)
        rcases c dir with rfl | rfl | rfl | rfl <;>
          simp [overflowBits, FpFormat.inf, FpFormat.signBit, xp, xp.le, xp.not_gt]
      · have xn := hneg.1 rfl
        rcases c dir with rfl | rfl | rfl | rfl <;>
          simp [overflowBits, FpFormat.inf, FpFormat.signBit, xn, xn.le, xn.not_gt]
  · rw [if_neg hof]
    have under : ¬ Machine.overflows m dir x := fun h => hof (pat.2 h)
    have rep := represents_pattern (neg := neg) rb kw (not_le.1 hof)
    rw [kq] at rep
    have rto := H.roundsTo (bits := m.signBit neg + (k * 2 ^ m.fracBits + r)) x0 (by
      obtain ⟨e, he⟩ : ∃ e, m.fracBits = e + 1 := ⟨m.fracBits - 1, by omega⟩
      have e1 : m.signBit neg % 2 = 0 := by
        unfold FpFormat.signBit
        split
        · rw [he, ← Nat.add_assoc, pow_succ]; omega
        · rfl
      have e2 : k * 2 ^ m.fracBits % 2 = 0 := by rw [he, pow_succ, ← mul_assoc]; omega
      omega)
    rw [← xs] at rto
    refine ⟨rfl, rfl, ?_, by simpa using under, fun _ => ⟨_, rep, rto, ?_, ?_⟩, by simp⟩
    · rw [decide_eq_true_iff, show m.minQuantum + m.fracBits = 1 - (m.bias : ℤ) by
        simp only [FpFormat.minQuantum]; ring]
      constructor
      · intro h
        exact top2.trans_le (zpow_le_zpow_right₀ (by norm_num) (by omega))
      · intro h
        by_contra hc
        have : (2 : ℝ) ^ (1 - (m.bias : ℤ)) ≤ (2 : ℝ) ^ top := zpow_le_zpow_right₀ (by norm_num) (by omega)
        linarith
    · have nx : (decide (low ≠ 0) || sticky) = true ↔ ρ ≠ 0 := by
        rw [ne_eq ρ, rz]
        cases sticky <;> simp
      have cancel : (if neg then -1 else 1) * (r * (2 : ℝ) ^ quantum) = x ↔ (r : ℝ) = n + ρ := by
        rw [xs, mul_right_inj' (show (if neg then -1 else 1 : ℝ) ≠ 0 by split <;> norm_num), hx, mul_left_inj' pu.ne']
      rw [nx, Ne, Ne, cancel, not_iff_not]
      rcases H.up with ⟨e, h⟩ | ⟨e, h⟩ <;> rw [e]
      · constructor
        · rintro rfl
          rcases h with ⟨-, h | ⟨h, -⟩⟩ | ⟨-, h⟩
          · norm_num at h
          · norm_num at h
          · exact absurd rfl h
        · intro h; push_cast at h; linarith
      · constructor <;> intro h <;> linarith
    · have small : k * 2 ^ m.fracBits + r < 2 ^ (m.expBits + m.fracBits) := by
        refine (not_le.1 hof).trans_le ?_
        simp only [FpFormat.inf, FpFormat.signBit, FpFormat.maxExp, Bool.false_eq_true, if_false, Nat.zero_add]
        rw [pow_add]; exact Nat.mul_le_mul_right _ (Nat.sub_le _ _)
      have px : 0 < 2 ^ (m.expBits + m.fracBits) := by positivity
      unfold FpFormat.signBit
      by_cases h : x < 0
      · rw [if_pos h, if_pos (hneg.2 h), Nat.add_div_left _ px, Nat.div_eq_of_lt small]
      · rw [if_neg h, if_neg (fun k => h (hneg.1 k)), Nat.zero_add, Nat.div_eq_of_lt small]

/-- `roundTo` rounds an exact number, given by its sign, significand and exponent, once. -/
theorem roundTo_exact {m : FpFormat} (hE : 2 ≤ m.expBits) (hp : 1 ≤ m.fracBits) {dir : BitVec 2} {neg : Bool}
    {sig : ℕ} {exp : ℤ} {x : ℝ} (hx : x = (if neg then -1 else 1) * (sig * (2 : ℝ) ^ exp)) (h0 : x ≠ 0) :
    roundedOnce m dir x (roundTo m dir neg sig exp false) := by
  have pe : (0 : ℝ) < (2 : ℝ) ^ exp := by positivity
  have hs : sig ≠ 0 := by rintro rfl; simp at hx; exact h0 hx
  have sp : (0 : ℝ) < sig := by exact_mod_cast Nat.pos_of_ne_zero hs
  have ax : |x| = sig * (2 : ℝ) ^ exp := by rw [hx]; cases neg <;> simp [abs_mul, abs_of_pos pe]
  apply roundTo_roundedOnce hE hp (Nat.pos_of_ne_zero hs) ax.ge (by rw [ax]; gcongr; linarith) (by simp [ax]) (by simp)
  have : 0 < (sig : ℝ) * (2 : ℝ) ^ exp := by positivity
  rw [hx]; cases neg <;> simp [this, this.le]

/-- The integer square root. -/
theorem sqrtFloor_spec : ∀ (fuel n : ℕ), n < 4 ^ fuel →
    sqrtFloor n fuel * sqrtFloor n fuel ≤ n ∧ n < (sqrtFloor n fuel + 1) * (sqrtFloor n fuel + 1)
  | 0, n, h => by simp at h; simp [sqrtFloor, h]
  | fuel + 1, n, h => by
    obtain ⟨h1, h2⟩ := sqrtFloor_spec fuel (n / 4) (by rw [pow_succ] at h; omega)
    simp only [sqrtFloor]
    generalize sqrtFloor (n / 4) fuel = r at h1 h2
    have e1 : (2 * r + 1) * (2 * r + 1) = 4 * (r * r) + 4 * r + 1 := by ring
    have e2 : (2 * r + 1 + 1) * (2 * r + 1 + 1) = 4 * ((r + 1) * (r + 1)) := by ring
    have e3 : 2 * r * (2 * r) = 4 * (r * r) := by ring
    split
    · exact ⟨by assumption, by omega⟩
    · exact ⟨by omega, by omega⟩

end Sys2Proof.Laws
end

