-- ==== Sys2Proof/Laws/Step.lean ====
section
/-!
SUPPORT. What a step can do: the cases of a step that answers a next state, and what the environment leaves alone.
-/

namespace Sys2Proof.Machine

open Sys2Proof

/-! ## The environment -/

/-- Time changes the counters, SOFTINT and a suspension. -/
theorem passTime_shape (s : State) (ns cycles : Nat) :
    passTime s ns cycles =
      { s with
        softint := (passTime s ns cycles).softint
        stick := (passTime s ns cycles).stick
        tick := (passTime s ns cycles).tick
        pause := (passTime s ns cycles).pause
        monitor := (passTime s ns cycles).monitor
        mwait := (passTime s ns cycles).mwait } := rfl

theorem enqueue_shape (s : State) (q : Queue) :
    enqueue s q = { s with queueTail := (enqueue s q).queueTail } := by
  unfold enqueue; split <;> rfl

theorem remoteStore_shape (s : State) (ra : Nat) (log : Fin 4) (value : Word64) :
    remoteStore s ra log value =
      { s with mem := (remoteStore s ra log value).mem, monitor := (remoteStore s ra log value).monitor,
               mwait := (remoteStore s ra log value).mwait } := by
  unfold remoteStore; split
  · dsimp only; split <;> rfl
  · rfl

theorem useCode_shape (s : State) (n : Nat) (used : Bool) :
    useCode s n used = { s with code := (useCode s n used).code } := by
  unfold useCode; split <;> rfl

/-- Whatever one event does, it leaves everything but the counters, SOFTINT, a suspension, the queue tails, memory and
the copies of instruction words alone. -/
theorem applyEvent_shape (s : State) (e : EnvEvent) :
    applyEvent s e =
      { s with
        softint := (applyEvent s e).softint
        stick := (applyEvent s e).stick
        tick := (applyEvent s e).tick
        pause := (applyEvent s e).pause
        monitor := (applyEvent s e).monitor
        mwait := (applyEvent s e).mwait
        queueTail := (applyEvent s e).queueTail
        mem := (applyEvent s e).mem
        code := (applyEvent s e).code } := by
  cases e with
  | tick ns cycles => rfl
  | request levels => rfl
  | enqueue q => unfold applyEvent; dsimp only; rw [enqueue_shape]
  | remoteStore ra log value => unfold applyEvent; dsimp only; rw [remoteStore_shape]
  | copyCode ra => rfl
  | useCode n used => unfold applyEvent; dsimp only; rw [useCode_shape]

/-- As `applyEvent_shape`, for the events of one gap. -/
theorem applyEvents_shape (events : List EnvEvent) (s : State) :
    events.foldl applyEvent s =
      { s with
        softint := (events.foldl applyEvent s).softint
        stick := (events.foldl applyEvent s).stick
        tick := (events.foldl applyEvent s).tick
        pause := (events.foldl applyEvent s).pause
        monitor := (events.foldl applyEvent s).monitor
        mwait := (events.foldl applyEvent s).mwait
        queueTail := (events.foldl applyEvent s).queueTail
        mem := (events.foldl applyEvent s).mem
        code := (events.foldl applyEvent s).code } := by
  induction events generalizing s with
  | nil => rfl
  | cons e rest ih =>
    simp only [List.foldl_cons]
    generalize ht : rest.foldl applyEvent (applyEvent s e) = t
    have h := ih (applyEvent s e)
    rw [ht, applyEvent_shape s e] at h
    exact h

/-- Whatever the environment does after a step, it leaves everything but the counters, SOFTINT, a suspension, the queue
tails, memory and the copies of instruction words alone. -/
theorem elapse_shape (s : State) :
    elapse s =
      { s with
        softint := (elapse s).softint
        stick := (elapse s).stick
        tick := (elapse s).tick
        pause := (elapse s).pause
        monitor := (elapse s).monitor
        mwait := (elapse s).mwait
        queueTail := (elapse s).queueTail
        mem := (elapse s).mem
        code := (elapse s).code
        env := (elapse s).env
        gap := (elapse s).gap
        freeCount := (elapse s).freeCount } := by
  unfold elapse
  split
  · rw [applyEvents_shape]
  · split <;> rfl

/-- One event keeps the canonical form of memory. -/
theorem wf_applyEvent {s : State} (h : s.mem.wf = true) (e : EnvEvent) : (applyEvent s e).mem.wf = true := by
  cases e with
  | tick ns cycles => exact h
  | request levels => exact h
  | enqueue q => unfold applyEvent; dsimp only; rw [enqueue_shape]; exact h
  | remoteStore ra log value => exact wf_remoteStore h ra log value
  | copyCode ra => exact h
  | useCode n used => unfold applyEvent; dsimp only; rw [useCode_shape]; exact h

/-- The events of one gap keep the canonical form of memory. -/
theorem wf_applyEvents (events : List EnvEvent) {s : State} (h : s.mem.wf = true) :
    (events.foldl applyEvent s).mem.wf = true := by
  induction events generalizing s with
  | nil => exact h
  | cons e rest ih => exact ih (wf_applyEvent h e)

/-- The environment keeps the canonical form of memory. -/
theorem wf_elapse {s : State} (h : s.mem.wf = true) : (elapse s).mem.wf = true := by
  unfold elapse
  split
  · exact wf_applyEvents _ h
  · split <;> exact h

/-- Every event keeps the environment's list and the parameters, so a gap uses up exactly one list. -/
theorem elapse_env (s : State) : (elapse s).env = s.env.tail := by
  unfold elapse
  split
  · rename_i events rest h
    rw [applyEvents_shape, h]
    rfl
  · rename_i h
    split <;> exact h.trans (by rw [h]; rfl)

/-! ## One boundary -/

/-- What fetching and executing answers. -/
theorem attempt_eq (s : State) :
    attempt s = match fetch s with
      | .error e => finish s (.error e)
      | .ok w =>
        match decode w with
        | none => undecoded s w
        | some i => if emulated s.par w then takeTrap (emulationTrap i) s else exec i s := rfl

/-- A word that decodes to no instruction traps, or it uses an implementation-dependent ASR: then the next state is the
state advanced, or that with a free value in a register. -/
theorem undecoded_next {s u : State} {w : Word32} (h : undecoded s w = .next u) :
    (∃ e, takeTrap e s = .next u) ∨ u = advance s ∨ ∃ rd, u = advance (openR s 8 unsignedBytes rd) := by
  have use {t : State} {x : Config.ImplAsr} (h : useImplAsr s t x = .next u) :
      (∃ e, takeTrap e s = .next u) ∨ u = advance t := by
    unfold useImplAsr at h
    rw [finish_require] at h
    split at h
    · cases h; exact .inr rfl
    · exact .inl ⟨_, h⟩
  unfold undecoded at h
  split at h
  · rcases use h with h | h
    · exact .inl h
    · exact .inr (.inr ⟨_, h⟩)
  · rcases use h with h | h
    · exact .inl h
    · exact .inr (.inl h)
  · exact .inl ⟨_, h⟩

/-- Fetching never names an address space of the implementation. -/
theorem fetch_ne_implementation (s : State) : fetch s ≠ .error .implementation := by
  have bind {α β : Type} {r : Eff α} {k : α → Eff β} (hr : r ≠ .error .implementation)
      (hk : ∀ x, k x ≠ .error .implementation) : r >>= k ≠ .error .implementation := by
    cases r with
    | error e => exact fun h => hr (by cases h; rfl)
    | ok x => exact hk x
  have check (ok : Bool) (e : Exc) : require ok e ≠ .error .implementation := by cases ok <;> exact nofun
  have inside (par : Config.Params) (x : PageAttr) : inMemory par x ≠ .error .implementation := by
    unfold inMemory; split <;> exact nofun
  have page : fetchPage s ≠ .error .implementation := by
    unfold fetchPage translate
    refine bind (check _ _) fun _ => ?_
    split
    · split
      · exact inside _ _
      · exact nofun
    · exact inside _ _
    · exact inside _ _
    · split <;> exact nofun
  unfold fetch
  exact bind (check _ _) fun _ => bind page fun _ => bind (check _ _) fun _ => bind (check _ _) fun _ =>
    bind (check _ _) fun _ => nofun

/-- Fetching and executing ends in a next state by the instruction decoded, which is in hardware, by a trap, or by the
use of an implementation-dependent ASR. -/
theorem attempt_next {s u : State} (h : attempt s = .next u) :
    (∃ e, takeTrap e s = .next u) ∨ (u = advance s ∨ ∃ rd, u = advance (openR s 8 unsignedBytes rd)) ∨
      ∃ w i, fetch s = .ok w ∧ decode w = some i ∧ emulated s.par w = false ∧ exec i s = .next u := by
  rw [attempt_eq] at h
  split at h
  · rename_i he
    rcases finish_next h with h | ⟨e, _, h⟩ | ⟨h, _⟩
    · cases h
    · exact .inl ⟨e, h⟩
    · cases h; exact absurd he (fetch_ne_implementation s)
  · rename_i w hw
    split at h
    · rcases undecoded_next h with h | h
      · exact .inl h
      · exact .inr (.inl h)
    · rename_i i hi
      split at h
      · exact .inl ⟨_, h⟩
      · rename_i he
        exact .inr (.inr ⟨w, i, hw, hi, by simpa using he, h⟩)

/-- A strand that awaits its trap is the strand woken, but for the delay and the count of free values. -/
theorem awaiting_shape (s : State) :
    awaiting s = { wake s with trapDelay := (awaiting s).trapDelay, freeCount := (awaiting s).freeCount } := by
  unfold awaiting; split <;> rfl

/-- An instruction boundary that ends in a next state: the strand was suspended and nothing happened, a trap was taken,
an implementation-dependent ASR was used, or the decoded instruction was executed; the last three from `s`, or from `s`
woken with another delay and another count of free values. -/
theorem boundary_next {s u : State} (h : boundary s = .next u) :
    (suspended s = true ∧ u = s) ∨
      ∃ r, (r = s ∨ ∃ delay count, r = { wake s with trapDelay := delay, freeCount := count }) ∧
        ((∃ e, takeTrap e r = .next u) ∨ (u = advance r ∨ ∃ rd, u = advance (openR r 8 unsignedBytes rd)) ∨
          ∃ w i, fetch r = .ok w ∧ decode w = some i ∧ emulated r.par w = false ∧ exec i r = .next u) := by
  have awaitingWith (s : State) (delay : Option Nat) :
      { awaiting s with trapDelay := delay } =
        { wake s with trapDelay := delay, freeCount := (awaiting s).freeCount } := by
    rw [awaiting_shape]
  unfold boundary at h
  split at h
  · split at h
    · rename_i hs
      cases h; exact .inl ⟨hs, rfl⟩
    · exact .inr ⟨_, .inl rfl, attempt_next h⟩
  · rename_i e _
    dsimp only at h
    split at h
    · rename_i delay _
      exact .inr ⟨_, .inr ⟨some delay, (awaiting s).freeCount, awaitingWith s _⟩, attempt_next h⟩
    · split at h
      · exact .inr ⟨_, .inr ⟨_, _, awaiting_shape s⟩, attempt_next h⟩
      · exact .inr ⟨_, .inr ⟨none, (awaiting s).freeCount, awaitingWith s _⟩, .inl ⟨e, h⟩⟩

/-- A step that ends in a next state: an instruction boundary and then the environment. -/
theorem step_next {s t : State} (h : step s = .next t) :
    undefinedMode s = false ∧ ∃ u, boundary s = .next u ∧ t = elapse u := by
  unfold step at h
  split at h
  · cases h
  · rename_i hu
    split at h
    · rename_i u hb
      cases h; exact ⟨by simpa using hu, u, hb, rfl⟩
    · cases h
    · cases h

/-- An invariant is kept by every step when waking, traps, the use of an implementation-dependent ASR, instructions
and the environment keep it. -/
theorem step_keeps (Inv : State → Prop)
    (hwake : ∀ s delay count, Inv s → Inv { wake s with trapDelay := delay, freeCount := count })
    (htrap : ∀ s e u, Inv s → takeTrap e s = .next u → Inv u)
    (hasr : ∀ s, Inv s → Inv (advance s) ∧ ∀ rd, Inv (advance (openR s 8 unsignedBytes rd)))
    (hexec : ∀ s i u, Inv s → exec i s = .next u → Inv u)
    (henv : ∀ s, Inv s → Inv (elapse s))
    {s t : State} (hs : Inv s) (h : step s = .next t) : Inv t := by
  obtain ⟨_, u, hb, rfl⟩ := step_next h
  apply henv
  rcases boundary_next hb with ⟨_, rfl⟩ | ⟨r, hr, h⟩
  · exact hs
  · have hr' : Inv r := by
      rcases hr with rfl | ⟨delay, count, rfl⟩
      · exact hs
      · exact hwake _ _ _ hs
    rcases h with ⟨e, h⟩ | (rfl | ⟨rd, rfl⟩) | ⟨w, i, _, _, _, h⟩
    · exact htrap r e u hr' h
    · exact (hasr r hr').1
    · exact (hasr r hr').2 rd
    · exact hexec r i u hr' h

end Sys2Proof.Machine
end

