-- ==== Sys2Proof/Tests/Slice0.lean ====
section
/-!
SUPPORT. Tests. Words written out from the encodings, one for every constructor, decode to their instructions;
ill-formed terms are refused; the test vectors of `95_test_vectors.md` and the examples of the rules run on small states,
one instruction each; and for every statement with hypotheses, a witness that they can be met, clause by clause.
-/

namespace Sys2Proof.Tests

open Sys2Proof Sys2Proof.Machine

-- One theorem at a time: the kernel evaluations of many at once take too much memory.
set_option Elab.async false

/-! ## Encoding -/

/-- Each word decodes to its instruction, which is well formed and is encoded as the word. -/
noncomputable def decodes (rows : List (Word32 × Instr)) : Bool :=
  rows.all fun p => decide (decode p.1 = some p.2) && wellFormed p.2 && decide (encode p.2 = p.1)

theorem test_decode_0 : decodes
    [(0x01000000, .NOP),
     (0x17134F06, .SETHI 11 0x134F06),
     (0x9A054006, .ADD 13 21 (.reg 6)),
     (0x980CC00D, .AND 12 19 (.reg 13)),
     (0x8410C004, .OR 2 3 (.reg 4)),
     (0x9018E3C8, .XOR 8 3 (.imm 968)),
     (0xB624C00E, .SUB 27 19 (.reg 14)),
     (0xAA2D63F5, .ANDN 21 21 (.imm 1013)),
     (0xA634C00E, .ORN 19 19 (.reg 14)),
     (0x843CB288, .XNOR 2 18 (.imm 4744)),
     (0x9C4173BE, .ADDC 14 5 (.imm 5054)),
     (0xA44EE698, .MULX 18 27 (.imm 1688)),
     (0xA654F7D5, .UMUL 19 19 (.imm 6101)),
     (0x885CA3D0, .SMUL 4 18 (.imm 976)),
     (0xA861C01B, .SUBC 20 7 (.reg 27)),
     (0xB26AC01D, .UDIVX 25 11 (.reg 29)),
     (0x9872800B, .UDIV 12 10 (.reg 11)),
     (0xAE7E4013, .SDIV 23 25 (.reg 19)),
     (0xA2843CB9, .ADDcc 17 16 (.imm 7353)),
     (0x948D278E, .ANDcc 10 20 (.imm 1934)),
     (0xA2938015, .ORcc 17 14 (.reg 21)),
     (0x8A9F8002, .XORcc 5 30 (.reg 2)),
     (0xBEA58014, .SUBcc 31 22 (.reg 20)),
     (0x96ADC01F, .ANDNcc 11 23 (.reg 31)),
     (0xA6B68005, .ORNcc 19 26 (.reg 5)),
     (0xBEBA4004, .XNORcc 31 9 (.reg 4)),
     (0x84C63C85, .ADDCcc 2 24 (.imm 7301)),
     (0x94D5C016, .UMULcc 10 23 (.reg 22)),
     (0x82DFC00A, .SMULcc 1 31 (.reg 10)),
     (0xA8E1000D, .SUBCcc 20 4 (.reg 13)),
     (0xB2F2800F, .UDIVcc 25 10 (.reg 15)),
     (0x9AFB7FC6, .SDIVcc 13 13 (.imm 8134)),
     (0x87018011, .TADDcc 3 6 (.reg 17)),
     (0xBB0971D1, .TSUBcc 29 5 (.imm 4561)),
     (0xAF13B859, .TADDccTV 23 14 (.imm 6233)),
     (0xBF1A000B, .TSUBccTV 31 8 (.reg 11)),
     (0x8B2220C5, .MULScc 5 8 (.imm 197)),
     (0xA16EF0D0, .SDIVX 16 27 (.imm 4304)),
     (0x95284017, .SLL 10 1 (.reg 23)),
     (0xA92CD008, .SLLX 20 19 (.reg 8)),
     (0xAF372003, .SRL 23 28 (.imm 3)),
     (0x9F377032, .SRLX 15 29 (.imm 50)),
     (0x9B3B401E, .SRA 13 13 (.reg 30)),
     (0xAB3B5004, .SRAX 21 13 (.reg 4)),
     (0x8F638015, .MOVfcc0 7 .ule (.reg 21)),
     (0xA9604809, .MOVfcc1 20 .ne (.reg 9)),
     (0xA560F068, .MOVfcc2 18 .ul (.imm 104)),
     (0x8761BA60, .MOVfcc3 3 .g (.imm 608)),
     (0xAB6625D3, .MOVicc 21 .a (.imm 1491)),
     (0xA164D01F, .MOVxcc 16 .l (.reg 31))] = true := by
  decide +kernel

theorem test_decode_1 : decodes
    [(0x9F700013, .POPC 15 (.reg 19)),
     (0x87794415, .MOVRZ 3 5 (.reg 21)),
     (0xB17A480A, .MOVRLEZ 24 9 (.reg 10)),
     (0xA3784C17, .MOVRLZ 17 1 (.reg 23)),
     (0x8B7DF437, .MOVRNZ 5 23 (.imm 55)),
     (0xB37C5805, .MOVRGZ 25 17 (.reg 5)),
     (0xAF7F1C17, .MOVRGEZ 23 28 (.reg 23)),
     (0xBDB18236, .ADDXC 30 6 22),
     (0xB3B20275, .ADDXCcc 25 8 21),
     (0xABB202CC, .UMULXHI 21 8 12),
     (0xB5B002EF, .LZCNT 26 15),
     (0xB7B3482E, .SUBXC 27 13 14),
     (0x8FB4487F, .SUBXCcc 7 17 31),
     (0x99B622A1, .XMULX 12 24 1),
     (0x83B6A2D1, .XMULXHI 1 26 17),
     (0x003C725C, .ILLTRAP 0x3C725C),
     (0x204F27D8, .BPN true .icc true 0x727D8),
     (0x22638703, .BPE true .xcc false 0x38703),
     (0x044B25B5, .BPLE false .icc true 0x325B5),
     (0x264807D1, .BPL true .icc true 0x7D1),
     (0x2861EB20, .BPLEU true .xcc false 0x1EB20),
     (0x2A4ADB39, .BPCS true .icc true 0x2DB39),
     (0x2C66555A, .BPNEG true .xcc false 0x6555A),
     (0x2E628AAC, .BPVS true .xcc false 0x28AAC),
     (0x10426B1C, .BPA false .icc false 0x26B1C),
     (0x324D9B44, .BPNE true .icc true 0x59B44),
     (0x14403A56, .BPG false .icc false 0x3A56),
     (0x164B1DEC, .BPGE false .icc true 0x31DEC),
     (0x184B678B, .BPGU false .icc true 0x3678B),
     (0x3A4C265B, .BPCC true .icc true 0x4265B),
     (0x3C45A919, .BPPOS true .icc false 0x5A919),
     (0x3E626DEB, .BPVC true .xcc false 0x26DEB),
     (0x00B85603, .BN false 0x385603),
     (0x028080DC, .BE false 0x80DC),
     (0x04960F75, .BLE false 0x160F75),
     (0x06BC9B6A, .BL false 0x3C9B6A),
     (0x0887E798, .BLEU false 0x7E798),
     (0x2ABDC222, .BCS true 0x3DC222),
     (0x0C8745F6, .BNEG false 0x745F6),
     (0x0E987CB8, .BVS false 0x187CB8),
     (0x308566C5, .BA true 0x566C5),
     (0x12B9E0E6, .BNE false 0x39E0E6),
     (0x14881C78, .BG false 0x81C78),
     (0x36A9ADB5, .BGE true 0x29ADB5),
     (0x18A37AD0, .BGU false 0x237AD0),
     (0x3ABD304B, .BCC true 0x3D304B),
     (0x1CA13A51, .BPOS false 0x213A51),
     (0x1EB9489A, .BVC false 0x39489A),
     (0x02F908E3, .BRZ false true 4 0xC8E3),
     (0x24D8FB35, .BRLEZ true true 3 0x7B35)] = true := by
  decide +kernel

theorem test_decode_2 : decodes
    [(0x26E1DB05, .BRLZ true false 7 0x9B05),
     (0x0AE7FB7C, .BRNZ false false 31 0xBB7C),
     (0x0CDF4646, .BRGZ false true 29 0x4646),
     (0x2EC63031, .BRGEZ true false 24 0x3031),
     (0x12CB794A, .CWBE 13 (.imm 10) 0x1CA),
     (0x14D1B6D9, .CWBLE 6 (.imm 25) 0x2B6),
     (0x16C39794, .CWBL 14 (.reg 20) 0xBC),
     (0x18DE1575, .CWBLEU 24 (.reg 21) 0x3AB),
     (0x1AD3F4D8, .CWBCS 15 (.imm 24) 0x2A6),
     (0x1CC47CE4, .CWBNEG 17 (.imm 4) 0xE7),
     (0x1EC7B586, .CWBVS 30 (.imm 6) 0xAC),
     (0x32D2452B, .CWBNE 9 (.reg 11) 0x229),
     (0x34D6423B, .CWBG 25 (.reg 27) 0x211),
     (0x36D353BF, .CWBGE 13 (.reg 31) 0x29D),
     (0x38D8CCEB, .CWBGU 3 (.reg 11) 0x367),
     (0x3AC756A1, .CWBCC 29 (.reg 1) 0xB5),
     (0x3CC6910E, .CWBPOS 26 (.reg 14) 0x88),
     (0x3EC262FD, .CWBVC 9 (.imm 29) 0x17),
     (0x12F2E49A, .CXBE 11 (.imm 26) 0x224),
     (0x14E51C0F, .CXBLE 20 (.reg 15) 0xE0),
     (0x16E993AB, .CXBL 6 (.reg 11) 0x19D),
     (0x18EF94B3, .CXBLEU 30 (.reg 19) 0x1A5),
     (0x1AF2854B, .CXBCS 10 (.reg 11) 0x22A),
     (0x1CE32970, .CXBNEG 12 (.imm 16) 0x4B),
     (0x1EF8598C, .CXBVS 1 (.reg 12) 0x3CC),
     (0x32FA2EA6, .CXBNE 8 (.imm 6) 0x375),
     (0x34F58ED9, .CXBG 22 (.reg 25) 0x276),
     (0x36F5D7AE, .CXBGE 23 (.reg 14) 0x2BD),
     (0x38F9E788, .CXBGU 7 (.imm 8) 0x33C),
     (0x3AE323A8, .CXBCC 12 (.imm 8) 0x1D),
     (0x3CF8EE50, .CXBPOS 3 (.imm 16) 0x372),
     (0x3EF18838, .CXBVC 6 (.reg 24) 0x241),
     (0x016759EB, .FBPN false 2 false 0x759EB),
     (0x035F2218, .FBPNE false 1 true 0x72218),
     (0x056D4348, .FBPLG false 2 true 0x54348),
     (0x2754F3E8, .FBPUL true 1 false 0x4F3E8),
     (0x09600460, .FBPL false 2 false 0x460),
     (0x2B779823, .FBPUG true 3 false 0x79823),
     (0x2D501447, .FBPG true 1 false 0x1447),
     (0x0F624D45, .FBPU false 2 false 0x24D45),
     (0x31485C22, .FBPA true 0 true 0x5C22),
     (0x33615A0A, .FBPE true 2 false 0x15A0A),
     (0x157FE834, .FBPUE false 3 true 0x7E834),
     (0x1760B35B, .FBPGE false 2 false 0xB35B),
     (0x3953ADD6, .FBPUGE true 1 false 0x3ADD6),
     (0x1B422126, .FBPLE false 0 false 0x22126),
     (0x3D4F38E0, .FBPULE true 0 true 0x738E0),
     (0x1F47D426, .FBPO false 0 false 0x7D426),
     (0x21806C9A, .FBN true 0x6C9A),
     (0x2388F96A, .FBNE true 0x8F96A)] = true := by
  decide +kernel

theorem test_decode_3 : decodes
    [(0x05887456, .FBLG false 0x87456),
     (0x27A047E0, .FBUL true 0x2047E0),
     (0x09A1FDCF, .FBL false 0x21FDCF),
     (0x0B9A4491, .FBUG false 0x1A4491),
     (0x0DBAEC6C, .FBG false 0x3AEC6C),
     (0x2FB0F7BD, .FBU true 0x30F7BD),
     (0x11BD5034, .FBA false 0x3D5034),
     (0x3385FBD2, .FBE true 0x5FBD2),
     (0x1589EA98, .FBUE false 0x9EA98),
     (0x17AA7789, .FBGE false 0x2A7789),
     (0x39A6F724, .FBUGE true 0x26F724),
     (0x1B819897, .FBLE false 0x19897),
     (0x3D87C3BD, .FBULE true 0x7C3BD),
     (0x3FA26725, .FBO true 0x226725),
     (0x4CBD0A71, .CALL 0xCBD0A71),
     (0xAFC1F29D, .JMPL 23 7 (.imm 4765)),
     (0x81CDFDBD, .RETURN 23 (.imm 7613)),
     (0x81D3F066, .TN .xcc 15 (.imm 102)),
     (0x83D0F008, .TE .xcc 3 (.imm 8)),
     (0x85D3D01C, .TLE .xcc 15 (.reg 28)),
     (0x87D3500D, .TL .xcc 13 (.reg 13)),
     (0x89D4C010, .TLEU .icc 19 (.reg 16)),
     (0x8BD1708F, .TCS .xcc 5 (.imm 143)),
     (0x8DD5C01F, .TNEG .icc 23 (.reg 31)),
     (0x8FD35000, .TVS .xcc 13 (.reg 0)),
     (0x91D59013, .TA .xcc 22 (.reg 19)),
     (0x93D38014, .TNE .icc 14 (.reg 20)),
     (0x95D6C014, .TG .icc 27 (.reg 20)),
     (0x97D6D00C, .TGE .xcc 27 (.reg 12)),
     (0x99D76081, .TGU .icc 29 (.imm 129)),
     (0x9BD0D004, .TCC .xcc 3 (.reg 4)),
     (0x9DD79011, .TPOS .xcc 30 (.reg 17)),
     (0x9FD24012, .TVC .icc 9 (.reg 18)),
     (0x81F00000, .DONE),
     (0x83F00000, .RETRY),
     (0x8143C000, .STBAR),
     (0x8143E027, .MEMBAR 2 7),
     (0x81DA4014, .FLUSH 9 (.reg 20)),
     (0xCE06401B, .LDUW 7 25 (.reg 27)),
     (0xFA08799A, .LDUB 29 1 (.imm 6554)),
     (0xFC176D05, .LDUH 30 29 (.imm 3333)),
     (0xF018C01A, .LDTW 24 3 (.reg 26)),
     (0xDE253251, .STW 15 20 (.imm 4689)),
     (0xE028A825, .STB 16 2 (.imm 2085)),
     (0xCC340012, .STH 6 16 (.reg 18)),
     (0xD43A70A6, .STTW 10 9 (.imm 4262)),
     (0xDA45401E, .LDSW 13 21 (.reg 30)),
     (0xE44D800A, .LDSB 18 22 (.reg 10)),
     (0xEA51801F, .LDSH 21 6 (.reg 31)),
     (0xE45A0015, .LDX 18 8 (.reg 21))] = true := by
  decide +kernel

theorem test_decode_4 : decodes
    [(0xF26BC00C, .LDSTUB 25 15 (.reg 12)),
     (0xD070C005, .STX 8 3 (.reg 5)),
     (0xD67A000C, .SWAP 11 8 (.reg 12)),
     (0xFA807A6B, .LDUWA 29 1 (.asiReg 6763)),
     (0xDA8BAD70, .LDUBA 13 14 (.asiReg 3440)),
     (0xDA924083, .LDUHA 13 9 (.immAsi 0x4 3)),
     (0xD09CE80E, .LDTWA 8 19 (.asiReg 2062)),
     (0xECA46DD2, .STWA 22 17 (.asiReg 3538)),
     (0xC6AA789C, .STBA 3 9 (.asiReg 6300)),
     (0xDAB55013, .STHA 13 21 (.immAsi 0x80 19)),
     (0xC8B8911E, .STTWA 4 2 (.immAsi 0x88 30)),
     (0xE0C0409D, .LDSWA 16 1 (.immAsi 0x4 29)),
     (0xD0CE8209, .LDSBA 8 26 (.immAsi 0x10 9)),
     (0xE2D5901D, .LDSHA 17 22 (.immAsi 0x80 29)),
     (0xE4DE4208, .LDXA 18 25 (.immAsi 0x10 8)),
     (0xE6EF8213, .LDSTUBA 19 30 (.immAsi 0x10 19)),
     (0xEAF27BFE, .STXA 21 9 (.asiReg 7166)),
     (0xEEFE4284, .SWAPA 23 25 (.immAsi 0x14 4)),
     (0xE09FC5CC, .LDTXA 16 31 12 0x2E),
     (0xC76EA0AB, .PREFETCH 3 26 (.imm 171)),
     (0xE5E2943D, .CASA 18 10 29 (.imm 0xA1)),
     (0xC7EC2FCF, .PREFETCHA 3 16 (.asiReg 4047)),
     (0xC3F7E01A, .CASXA 1 31 26 .asiReg),
     (0xD500801F, .LDF 10 2 (.reg 31)),
     (0xC10F7AE1, .LDFSR 29 (.imm 6881)),
     (0xC308C01B, .LDXFSR 3 (.reg 27)),
     (0xC70F801F, .LDXEFSR 30 (.reg 31)),
     (0xC515C01A, .LDQF 1 23 (.reg 26)),
     (0xD91D8000, .LDDF 6 22 (.reg 0)),
     (0xF522A450, .STF 26 10 (.imm 1104)),
     (0xC129C00C, .STFSR 7 (.reg 12)),
     (0xC32AAC69, .STXFSR 10 (.imm 3177)),
     (0xD133C012, .STQF 4 15 (.reg 18)),
     (0xC93FEBFC, .STDF 2 31 (.imm 3068)),
     (0xFB821103, .LDFA 29 8 (.immAsi 0x88 3)),
     (0xCB97900D, .LDQFA 18 30 (.immAsi 0x80 13)),
     (0xE9994203, .LDDFA 10 5 (.immAsi 0x10 3)),
     (0xDB9BC2F4, .LDBLOCKF 22 15 20 0x17),
     (0xC79F9A4A, .LDSHORTF 17 30 10 0xD2),
     (0xCFA1BDED, .STFA 7 6 (.asiReg 7661)),
     (0xC5B2B83B, .STQFA 1 10 (.asiReg 6203)),
     (0xF7BB3C50, .STDFA 29 12 (.asiReg 7248)),
     (0xCDB902C0, .STBLOCKF 3 4 0 0x16),
     (0xD3B8D9B6, .STPARTIALF 20 3 22 0xCD),
     (0xFFBF5B47, .STSHORTF 31 29 7 0xDA),
     (0x81580000, .FLUSHW),
     (0x81880000, .SAVED),
     (0x83880000, .RESTORED),
     (0x85880000, .ALLCLEAN),
     (0x87880000, .OTHERW)] = true := by
  decide +kernel

theorem test_decode_5 : decodes
    [(0x89880000, .NORMALW),
     (0x8B880000, .INVALW),
     (0xBFE64016, .SAVE 31 25 (.reg 22)),
     (0xB3EEC01B, .RESTORE 25 27 (.reg 27)),
     (0x87400000, .RDY 3),
     (0x85408000, .RDCCR 2),
     (0xAF40C000, .RDASI 23),
     (0xA1410000, .RDTICK 16),
     (0x8F414000, .RDPC 7),
     (0x99418000, .RDFPRS 12),
     (0xA544C000, .RDGSR 18),
     (0xBD458000, .RDSOFTINT 30),
     (0x9F460000, .RDSTICK 15),
     (0x8F464000, .RDSTICK_CMPR 7),
     (0x97468000, .RDCFR 11),
     (0x99500000, .RDPR_TPC 12),
     (0xB1504000, .RDPR_TNPC 24),
     (0xBB508000, .RDPR_TSTATE 29),
     (0xA150C000, .RDPR_TT 16),
     (0x83510000, .RDPR_TICK 1),
     (0xAB514000, .RDPR_TBA 21),
     (0x9D518000, .RDPR_PSTATE 14),
     (0x9151C000, .RDPR_TL 8),
     (0xB5520000, .RDPR_PIL 26),
     (0xAB524000, .RDPR_CWP 21),
     (0xB3528000, .RDPR_CANSAVE 25),
     (0x9B52C000, .RDPR_CANRESTORE 13),
     (0x85530000, .RDPR_CLEANWIN 2),
     (0x9B534000, .RDPR_OTHERWIN 13),
     (0x85538000, .RDPR_WSTATE 2),
     (0x9F540000, .RDPR_GL 15),
     (0x8180E3F7, .WRY 3 (.imm 1015)),
     (0x85824004, .WRCCR 9 (.reg 4)),
     (0x8787773A, .WRASI 29 (.imm 5946)),
     (0x8D824002, .WRFPRS 9 (.reg 2)),
     (0xA7827441, .WRGSR 9 (.imm 5185)),
     (0xA9878000, .WRSOFTINT_SET 30 (.reg 0)),
     (0xAB86242E, .WRSOFTINT_CLR 24 (.imm 1070)),
     (0xAD8066DD, .WRSOFTINT 1 (.imm 1757)),
     (0xB3843DCE, .WRSTICK_CMPR 16 (.imm 7630)),
     (0xB787F011, .WRPAUSE 31 (.imm 4113)),
     (0xB7803F95, .PAUSE (.imm 8085)),
     (0xB9816BB5, .WRMWAIT 5 (.imm 2997)),
     (0xB9800013, .MWAIT (.reg 19)),
     (0x8196E9AF, .WRPR_TPC 27 (.imm 2479)),
     (0x83950014, .WRPR_TNPC 20 (.reg 20)),
     (0x8593C005, .WRPR_TSTATE 15 (.reg 5)),
     (0x8794400A, .WRPR_TT 17 (.reg 10)),
     (0x8B920002, .WRPR_TBA 8 (.reg 2)),
     (0x8D9434D9, .WRPR_PSTATE 16 (.imm 5337))] = true := by
  decide +kernel

theorem test_decode_6 : decodes
    [(0x8F91A6BB, .WRPR_TL 6 (.imm 1723)),
     (0x9190C005, .WRPR_PIL 3 (.reg 5)),
     (0x9391C01F, .WRPR_CWP 7 (.reg 31)),
     (0x9595EB15, .WRPR_CANSAVE 23 (.imm 2837)),
     (0x9792001D, .WRPR_CANRESTORE 8 (.reg 29)),
     (0x99952F09, .WRPR_CLEANWIN 20 (.imm 3849)),
     (0x9B9627C1, .WRPR_OTHERWIN 24 (.imm 1985)),
     (0x9D9672CD, .WRPR_WSTATE 25 (.imm 4813)),
     (0xA19277DE, .WRPR_GL 9 (.imm 6110)),
     (0x81B01024, .SIAM 4),
     (0xB1A00030, .FMOVs 24 16),
     (0x8FA0005C, .FMOVd 19 14),
     (0x91A0006B, .FMOVq 4 21),
     (0x91A000AF, .FNEGs 8 15),
     (0x8BA000D2, .FNEGd 18 9),
     (0xBBA000EC, .FNEGq 30 6),
     (0x97A00124, .FABSs 11 4),
     (0x9BA00150, .FABSd 22 8),
     (0x91A0016E, .FABSq 4 7),
     (0xABA00526, .FSQRTs 21 6),
     (0xABA0055D, .FSQRTd 26 30),
     (0x85A00566, .FSQRTq 1 3),
     (0x83A4082E, .FADDs 1 16 14),
     (0xB7A3C857, .FADDd 29 23 27),
     (0x85A74872, .FADDq 1 30 9),
     (0x91A108A3, .FSUBs 8 4 3),
     (0x8FA508CC, .FSUBd 19 10 6),
     (0xBDA0C8F7, .FSUBq 15 17 27),
     (0xA3A7092B, .FMULs 17 28 11),
     (0x9FA50950, .FMULd 23 10 8),
     (0xB3A64960, .FMULq 28 28 0),
     (0x89A549B6, .FDIVs 4 21 22),
     (0x8FA089D7, .FDIVd 19 1 27),
     (0x97A149E2, .FDIVq 21 18 1),
     (0x8FA24A22, .FNADDs 7 9 2),
     (0xA9A60A4D, .FNADDd 10 12 22),
     (0xB7A04B34, .FNMULs 27 1 20),
     (0x9DA58B57, .FNMULd 7 11 27),
     (0x8DA50C33, .FHADDs 6 20 19),
     (0x87A1CC42, .FHADDd 17 19 1),
     (0xB5A40CBE, .FHSUBs 26 16 30),
     (0x87A38CC6, .FHSUBd 17 7 3),
     (0xB5A34D29, .FsMULd 13 13 9),
     (0xABA48DC5, .FdMULq 26 9 18),
     (0xABA18E39, .FNHADDs 21 6 25),
     (0xAFA24E5A, .FNHADDd 27 20 13),
     (0x95A58F33, .FNsMULd 5 22 19),
     (0x9DA01023, .FsTOx 7 3),
     (0x95A01056, .FdTOx 5 11),
     (0x9DA0107A, .FqTOx 7 13)] = true := by
  decide +kernel

theorem test_decode_7 : decodes
    [(0x83A01097, .FxTOs 1 27),
     (0xABA0110C, .FxTOd 26 6),
     (0x9BA01199, .FxTOq 22 28),
     (0x8FA01880, .FiTOs 7 0),
     (0x9DA018CA, .FdTOs 14 5),
     (0x9DA018E7, .FqTOs 14 19),
     (0xB7A01905, .FiTOd 29 5),
     (0x9BA01937, .FsTOd 22 23),
     (0x9FA0196A, .FqTOd 23 5),
     (0x8BA01980, .FiTOq 18 0),
     (0x85A019A9, .FsTOq 1 9),
     (0xABA019D9, .FdTOq 26 28),
     (0x87A01A37, .FsTOi 3 23),
     (0xB1A01A4A, .FdTOi 24 5),
     (0x8BA01A76, .FqTOi 5 11),
     (0x95A9402A, .FMOVSfcc0 10 .ug 10),
     (0xBDA88046, .FMOVDfcc0 15 .lg 3),
     (0x9BABC06C, .FMOVQfcc0 22 .o 6),
     (0x95A90822, .FMOVSfcc1 10 .l 2),
     (0xBDABC854, .FMOVDfcc1 15 .o 10),
     (0x85AB0865, .FMOVQfcc1 1 .uge 18),
     (0xBBA9502E, .FMOVSfcc2 29 .ug 14),
     (0xA9AB104C, .FMOVDfcc2 10 .uge 6),
     (0xB7ABD06B, .FMOVQfcc2 29 .o 21),
     (0xA7A99822, .FMOVSfcc3 19 .g 2),
     (0x9BA95858, .FMOVDfcc3 22 .ug 12),
     (0x99A8D869, .FMOVQfcc3 6 .ul 20),
     (0x91A9A022, .FMOVSicc 8 .neg 2),
     (0xBBA86054, .FMOVDicc 30 .e 10),
     (0x89AB207D, .FMOVQicc 2 .gu 30),
     (0xA5AA703A, .FMOVSxcc 18 .ne 26),
     (0x95A9F05B, .FMOVDxcc 5 .vs 29),
     (0x9BAAF07C, .FMOVQxcc 22 .ge 14),
     (0x87A98A21, .FCMPs 3 6 1),
     (0x81AD0A5F, .FCMPd 0 10 31),
     (0x87AA0A7C, .FCMPq 3 4 14),
     (0x87AECAAB, .FCMPEs 3 27 11),
     (0x87AB4AC6, .FCMPEd 3 22 3),
     (0x81A94AF6, .FCMPEq 0 18 11),
     (0x9DAB04A5, .FMOVRsZ 14 12 5),
     (0xB5ABC4C2, .FMOVRdZ 13 15 1),
     (0x85AD44E8, .FMOVRqZ 1 21 4),
     (0x87AF88B4, .FMOVRsLEZ 3 30 20),
     (0xB3AE08C5, .FMOVRdLEZ 28 24 18),
     (0x85AE48F8, .FMOVRqLEZ 1 25 12),
     (0xABAFCCA8, .FMOVRsLZ 21 31 8),
     (0x83AF0CC4, .FMOVRdLZ 16 28 2),
     (0xA9AE0CE7, .FMOVRqLZ 10 24 19),
     (0x8FA954BF, .FMOVRsNZ 7 5 31),
     (0x95AFD4CA, .FMOVRdNZ 5 31 5)] = true := by
  decide +kernel

theorem test_decode_8 : decodes
    [(0xADAE94EE, .FMOVRqNZ 11 26 7),
     (0x87AED8B6, .FMOVRsGZ 3 27 22),
     (0xA9AE58D0, .FMOVRdGZ 10 25 8),
     (0x8DAAD8F1, .FMOVRqGZ 3 11 24),
     (0xBBAEDCBD, .FMOVRsGEZ 29 27 29),
     (0x8BAA5CDE, .FMOVRdGEZ 18 9 15),
     (0x8FACDCF0, .FMOVRqGEZ 19 19 8),
     (0x83B2EA37, .FLCMPs 1 11 23),
     (0x81B1EA4B, .FLCMPd 0 19 21),
     (0x9BB9A831, .FMADDs 13 6 17 20),
     (0xBBBB604A, .FMADDd 30 22 5 8),
     (0x89BE6EA3, .FMSUBs 4 25 3 23),
     (0xBFBF0CDC, .FMSUBd 31 14 14 3),
     (0x93BCAF39, .FNMSUBs 9 18 25 23),
     (0x93BB5357, .FNMSUBd 20 22 27 20),
     (0x99BAF9A5, .FNMADDs 12 11 5 28),
     (0x91B9A5C3, .FNMADDd 4 3 17 9),
     (0xB7B44010, .EDGE8cc 27 17 16),
     (0x95B54034, .EDGE8N 10 21 20),
     (0xB1B04042, .EDGE8Lcc 24 1 2),
     (0x91B14072, .EDGE8LN 8 5 18),
     (0xA9B5409B, .EDGE16cc 20 21 27),
     (0x9DB440B7, .EDGE16N 14 17 23),
     (0xBBB080C8, .EDGE16Lcc 29 2 8),
     (0xA1B200E2, .EDGE16LN 16 8 2),
     (0x83B08100, .EDGE32cc 1 2 0),
     (0xA7B30133, .EDGE32N 19 12 19),
     (0x89B44156, .EDGE32Lcc 4 17 22),
     (0xA5B2017A, .EDGE32LN 18 8 26),
     (0xA7B28208, .ARRAY8 19 10 8),
     (0x8FB3025E, .ARRAY16 7 12 30),
     (0x8DB14280, .ARRAY32 6 5 0),
     (0xBDB6830F, .ALIGNADDRESS 30 26 15),
     (0xAFB1433C, .BMASK 23 5 28),
     (0x89B0C349, .ALIGNADDRESS_LITTLE 4 3 9),
     (0x81B00371, .CMASK8 17),
     (0x81B003B9, .CMASK16 25),
     (0x81B003F0, .CMASK32 16),
     (0xBFB04403, .FPCMPLE16 31 16 17),
     (0xABB6C436, .FSLL16 26 29 11),
     (0xA9B5445C, .FPCMPNE16 20 26 14),
     (0xA9B7847F, .FSRL16 10 15 31),
     (0x91B18480, .FPCMPLE32 8 3 0),
     (0x85B084A1, .FSLL32 1 1 16),
     (0x9BB184CF, .FPCMPNE32 13 3 23),
     (0x8DB084E6, .FSRL32 3 1 3),
     (0x83B5050C, .FPCMPGT16 1 10 6),
     (0x8BB3852C, .FSLAS16 18 7 6),
     (0xA3B5055A, .FPCMPEQ16 17 10 13),
     (0xB7B5056B, .FSRA16 29 10 21)] = true := by
  decide +kernel

theorem test_decode_9 : decodes
    [(0xA3B28584, .FPCMPGT32 17 5 2),
     (0x95B545A3, .FSLAS32 5 26 17),
     (0xBBB605DE, .FPCMPEQ32 29 12 15),
     (0xAFB485E0, .FSRA32 27 9 0),
     (0x9BB7063B, .FMUL8x16 22 28 29),
     (0xB1B7867D, .FMUL8x16AU 12 30 29),
     (0x87B6069C, .FPCMPLE8 3 12 14),
     (0x8DB206A6, .FMUL8x16AL 3 8 6),
     (0x93B206C2, .FMUL8SUx16 20 4 1),
     (0x89B2C6F0, .FMUL8ULx16 2 21 8),
     (0xAFB08711, .FMULD8SUx16 27 2 17),
     (0xABB4873B, .FMULD8ULx16 26 18 27),
     (0xADB68750, .FPACK32 11 13 8),
     (0x95B0076D, .FPACK16 10 22),
     (0x87B74780, .FPCMPGT8 3 30 0),
     (0x8DB007B0, .FPACKFIX 6 8),
     (0xBBB207CC, .PDIST 30 4 6),
     (0xBFB187F4, .PDISTN 31 3 10),
     (0x8FB74818, .FMEAN16 19 30 12),
     (0x97B5084F, .FPADD64 21 10 23),
     (0x9BB7889E, .FCHKSM16 22 15 15),
     (0xA1B6C8C0, .FPSUB64 8 29 0),
     (0xB9B0491B, .FALIGNDATAg 14 16 29),
     (0xBFB6092E, .FALIGNDATAi 31 24 7),
     (0xA7B74973, .FPMERGE 25 29 19),
     (0xB5B1C999, .BSHUFFLE 13 19 28),
     (0xA9B009A4, .FEXPAND 10 4),
     (0xA7B78A0A, .FPADD16 25 15 5),
     (0x8BB08A21, .FPADD16s 5 2 1),
     (0x89B10A4A, .FPADD32 2 2 5),
     (0x99B14A61, .FPADD32s 12 5 1),
     (0x83B08A88, .FPSUB16 16 1 4),
     (0xAFB54AA2, .FPSUB16s 23 21 2),
     (0xAFB0CAC2, .FPSUB32 27 17 1),
     (0x87B70AF7, .FPSUB32s 3 28 23),
     (0x8FB6CB04, .FPADDS16 19 29 2),
     (0xBBB70B38, .FPADDS16s 29 28 24),
     (0x89B20B4D, .FPADDS32 2 4 22),
     (0x8FB10B62, .FPADDS32s 7 4 2),
     (0x85B7CB85, .FPSUBS16 1 31 18),
     (0xB7B64BB2, .FPSUBS16s 27 25 18),
     (0xA1B10BC8, .FPSUBS32 8 2 4),
     (0x89B68BED, .FPSUBS32s 4 26 13),
     (0x95B00C00, .FZEROd 5),
     (0x97B00C20, .FZEROs 11),
     (0x97B38C50, .FNORd 21 7 8),
     (0x83B30C70, .FNORs 1 12 16),
     (0xBDB28C83, .FANDNOT2d 15 5 17),
     (0xAFB64CB7, .FANDNOT2s 23 25 23),
     (0xBDB00CD4, .FNOT2d 15 10)] = true := by
  decide +kernel

theorem test_decode_10 : decodes
    [(0xB3B00CFE, .FNOT2s 25 30),
     (0xB9B28D01, .FANDNOT1d 14 5 16),
     (0xB5B38D21, .FANDNOT1s 26 14 1),
     (0x9DB44D40, .FNOT1d 7 24),
     (0xB3B10D60, .FNOT1s 25 4),
     (0x99B40D83, .FXORd 6 8 17),
     (0xA5B4CDAD, .FXORs 18 19 13),
     (0xAFB70DC5, .FNANDd 27 14 18),
     (0xA7B6CDF2, .FNANDs 19 27 18),
     (0x8DB38E00, .FANDd 3 7 0),
     (0xA3B1CE32, .FANDs 17 7 18),
     (0xB3B64E43, .FXNORd 28 28 17),
     (0x83B30E7F, .FXNORs 1 12 31),
     (0x89B40E80, .FSRC1d 2 8),
     (0xAFB68EA0, .FSRC1s 23 26),
     (0xB7B18EDF, .FORNOT2d 29 3 31),
     (0xA7B30EF0, .FORNOT2s 19 12 16),
     (0xA7B00F0A, .FSRC2d 25 5),
     (0x95B00F2D, .FSRC2s 10 13),
     (0xBFB5CF4E, .FORNOT1d 31 27 7),
     (0xA1B18F67, .FORNOT1s 16 6 7),
     (0xBFB54F85, .FORd 31 26 18),
     (0xA1B68FA6, .FORs 16 26 6),
     (0xABB00FC0, .FONEd 26),
     (0x97B00FE0, .FONEs 11),
     (0x99B02206, .MOVdTOx 12 3),
     (0x9BB02239, .MOVsTOuw 13 25),
     (0xBBB02265, .MOVsTOsw 29 5),
     (0x9DB02301, .MOVxTOd 7 1),
     (0x99B0232D, .MOVwTOs 12 13),
     (0x95B2635B, .FPMIN8 5 20 29),
     (0xBBB4A36A, .FPMIN16 30 9 5),
     (0x9BB7638E, .FPMIN32 22 30 7),
     (0xBFB3E3A8, .FPMAX8 31 23 4),
     (0xA5B523C2, .FPMAX16 9 10 1),
     (0x99B4E3F4, .FPMAX32 6 25 10),
     (0xA3B1641C, .FPCMPULE8 17 18 14),
     (0xADB4A454, .FPCMPNE8 22 9 10),
     (0x8DB3E47C, .FPADDUS16 3 23 14),
     (0xAFB66490, .FPADD8 27 28 8),
     (0xA7B224C8, .FPADDS8 25 4 4),
     (0x97B3E4EF, .FPADDUS8 21 23 23),
     (0xA3B1E511, .FPCMPUGT8 17 19 24),
     (0x95B66549, .FPCMPEQ8 10 28 20),
     (0xB1B1656F, .FPCMPUGT16 24 18 23),
     (0xB1B2E596, .FPCMPUGT32 24 21 11),
     (0x8DB225D4, .FPCMPULE16 6 4 10),
     (0xBFB1E5F0, .FPCMPULE32 31 19 8),
     (0xBFB62A66, .FPSUBUS16 31 12 3),
     (0x8DB7EA86, .FPSUB8 3 31 3)] = true := by
  decide +kernel

theorem test_decode_11 : decodes
    [(0x8FB36AC9, .FPSUBS8 19 22 20),
     (0x8BB6AAF3, .FPSUBUS8 18 13 25),
     (0xB1B2AB5B, .FPMINU8 12 5 29),
     (0x93B1EB66, .FPMINU16 20 19 3),
     (0xABB7AB86, .FPMINU32 26 15 3),
     (0x93B1EBB8, .FPMAXU8 20 19 12),
     (0x9FB0ABC0, .FPMAXU16 23 1 0),
     (0x9BB72BFB, .FPMAXU32 22 14 29),
     (0xAFBA3A12, .FPMADDX 27 4 9 30),
     (0x83B97290, .FPMADDXHI 16 18 8 28),
     (0x83B6260F, .AES_KEXPAND0 16 12 23),
     (0xBDB7263B, .AES_KEXPAND2 15 14 29),
     (0xAFB4E680, .DES_IP 27 25),
     (0xA7B626A0, .DES_IIP 25 12),
     (0xABB3A6CE, .DES_KEXPAND 26 7 14),
     (0xADB6278E, .CAMELLIA_FL 11 12 7),
     (0xADB1A7A7, .CAMELLIA_FLI 11 3 19),
     (0x81B02800, .MD5),
     (0x81B02820, .SHA1),
     (0x81B02840, .SHA256),
     (0x81B02860, .SHA512),
     (0x9FB3A8F4, .CRC32C 23 7 10),
     (0x81B02910, .MPMUL 16),
     (0x83B02906, .XMPMUL 6),
     (0x81B0293A, .MONTMUL 26),
     (0x83B0292F, .XMONTMUL 15),
     (0x81B02959, .MONTSQR 25),
     (0x83B0294A, .XMONTSQR 10),
     (0x92CF3C1B, .AES_EROUND01 20 14 29 15),
     (0x9EC8563A, .AES_EROUND23 23 16 13 21),
     (0xBACD4054, .AES_DROUND01 30 26 10 0),
     (0x9ACECC7F, .AES_DROUND23 22 29 31 3),
     (0x84CA548D, .AES_EROUND01_LAST 1 20 22 5),
     (0xAECEACAC, .AES_EROUND23_LAST 27 13 6 11),
     (0x88CF1ADD, .AES_DROUND01_LAST 2 14 30 22),
     (0xAECC2EE1, .AES_DROUND23_LAST 27 8 16 27),
     (0xA2CAFB3A, .DES_ROUND 24 21 13 30),
     (0x8ECDB38B, .CAMELLIA_F 19 11 21 28),
     (0xA2CE6D07, .AES_KEXPAND1 24 28 19 22)] = true := by
  decide +kernel

/-! ## Ill-formed terms -/

theorem test_illformed_sethi_nop : wellFormed (.SETHI 0 0) = false := by decide
theorem test_illformed_ldtw_odd : wellFormed (.LDTW 3 1 (.imm 0)) = false := by decide
theorem test_illformed_sttw_odd : wellFormed (.STTW 3 1 (.imm 0)) = false := by decide
theorem test_illformed_ldtwa_odd : wellFormed (.LDTWA 3 1 (.immAsi 0x80 0)) = false := by decide
theorem test_illformed_ldtwa_twin_asi : wellFormed (.LDTWA 2 1 (.immAsi 0xE2 0)) = false := by decide
theorem test_illformed_sttwa_odd : wellFormed (.STTWA 3 1 (.immAsi 0x80 0)) = false := by decide
theorem test_illformed_ldtxa_odd : wellFormed (.LDTXA 3 1 0 0xE2) = false := by decide
theorem test_illformed_ldtxa_asi : wellFormed (.LDTXA 2 1 0 0x80) = false := by decide
theorem test_illformed_prefetch_fcn : wellFormed (.PREFETCH 5 1 (.imm 0)) = false := by decide
theorem test_illformed_prefetcha_fcn : wellFormed (.PREFETCHA 15 1 (.immAsi 0x80 0)) = false := by decide
theorem test_illformed_lddfa_block : wellFormed (.LDDFA 2 1 (.immAsi 0xF0 0)) = false := by decide
theorem test_illformed_lddfa_short : wellFormed (.LDDFA 2 1 (.immAsi 0xD0 0)) = false := by decide
theorem test_illformed_ldblockf : wellFormed (.LDBLOCKF 0 1 0 0x80) = false := by decide
theorem test_illformed_ldshortf : wellFormed (.LDSHORTF 0 1 0 0x80) = false := by decide
theorem test_illformed_stdfa_partial : wellFormed (.STDFA 0 1 (.immAsi 0xC0 0)) = false := by decide
theorem test_illformed_stdfa_commit : wellFormed (.STDFA 0 1 (.immAsi 0xE0 0)) = false := by decide
theorem test_illformed_stblockf : wellFormed (.STBLOCKF 0 1 0 0x80) = false := by decide
theorem test_illformed_stpartialf : wellFormed (.STPARTIALF 0 1 0 0x80) = false := by decide
theorem test_illformed_stshortf : wellFormed (.STSHORTF 0 1 0 0x80) = false := by decide
theorem test_illformed_wrpause : wellFormed (.WRPAUSE 0 (.imm 1)) = false := by decide
theorem test_illformed_wrmwait : wellFormed (.WRMWAIT 0 (.imm 1)) = false := by decide


/-! ## One instruction on a small state

The expected values are those of `95_test_vectors.md` and of the examples in the rules. V-SR-11 and V-SR-12 have a 1 in bit
0 of SOFTINT, and so the parameter value that keeps it (log entry 14).
-/

/-- Decode a word and execute it. -/
noncomputable def runWord (w : Word32) (s : State) : Out :=
  match decode w with
  | some i => exec i s
  | none => takeTrap .illegalInstruction s

/-- The outcome is a next state of which `p` holds. -/
def sat (o : Out) (p : State → Bool) : Bool :=
  match o with
  | .next t => p t
  | _ => false

/-- The outcome is a trap of the type `tt`, taken or delivered to hyperprivileged mode. -/
def trapsWith (o : Out) (tt : BitVec 9) : Bool :=
  match o with
  | .next t => decide (0 < t.tl.val) && (trapEntry t).tt == tt
  | .fault (.hyperprivilegedTrap (some x) _ _) => x == tt
  | _ => false

/-- The start state. -/
abbrev s0 : State := State.reset

/-- The start state with PC at `pc`. -/
def at_ (pc : Word64) (s : State) : State := { s with pc := pc, npc := pc + 4 }

/-- Nonprivileged mode. -/
def user (s : State) : State := { s with pstate := { s.pstate with priv := false } }

/-- The register-window state. -/
def windows (cwp cansave canrestore otherwin cleanwin : BitVec 3) (s : State) : State :=
  { s with cwp := cwp, cansave := cansave, canrestore := canrestore, otherwin := otherwin, cleanwin := cleanwin }

/-- Integer condition codes. -/
def withCcr (b : BitVec 8) (s : State) : State := { s with ccr := .ofBits b }

/-- Bytes in memory, most significant first. -/
def bytesAt (a n v : Nat) (s : State) : State := { s with mem := s.mem.writeBE a n v }

theorem test_integer_1 : (
    -- ADDcc, I1
    sat (runWord 0x84806001 (writeR s0 1 0x7FFFFFFF))
      (fun t => readR t 2 == 0x80000000 && t.ccr.bits == 0x0A) &&
    -- ADDcc, I2
    sat (runWord 0x80806001 (writeR s0 1 0xFFFFFFFFFFFFFFFF))
      (fun t => readR t 0 == 0 && t.ccr.bits == 0x55) &&
    -- ADDXC, I6
    sat (runWord 0x87B04222 (withCcr 0x10 (writeR (writeR s0 1 1) 2 2))) (fun t => readR t 3 == 4) &&
    -- ADDXCcc, I7
    sat (runWord 0x87B04262 (withCcr 0x10 (writeR (writeR s0 1 0xFFFFFFFFFFFFFFFF) 2 0)))
      (fun t => readR t 3 == 0 && t.ccr.bits == 0x55) &&
    -- SUBXCcc, I12
    sat (runWord 0x87B04862 (withCcr 0x10 s0))
      (fun t => readR t 3 == 0xFFFFFFFFFFFFFFFF && t.ccr.bits == 0x99) &&
    -- UMULXHI, I30
    sat (runWord 0x85B042C1 (writeR s0 1 0xFFFFFFFFFFFFFFFF)) (fun t => readR t 2 == 0xFFFFFFFFFFFFFFFE) &&
    -- LZCNT, I50
    sat (runWord 0x85B002E1 (writeR s0 1 1)) (fun t => readR t 2 == 63) &&
    -- LZCNT, I50b
    sat (runWord 0x85B002E1 (writeR s0 1 0)) (fun t => readR t 2 == 64) &&
    -- XMULX, I51
    sat (runWord 0x87B062A2 (writeR (writeR s0 1 3) 2 3)) (fun t => readR t 3 == 5) &&
    -- XMULXHI, I52
    sat (runWord 0x87B062C2 (writeR (writeR s0 1 0xFFFFFFFFFFFFFFFF) 2 2)) (fun t => readR t 3 == 1)) = true := by
  decide +kernel

theorem test_control_1 : (
    -- BA, C1
    sat (runWord 0x10800010 (at_ 0x1000 s0)) (fun t => t.pc == 0x1004 && t.npc == 0x1040) &&
    -- BA, C2
    sat (runWord 0x30800010 (at_ 0x1000 s0)) (fun t => t.pc == 0x1040 && t.npc == 0x1044) &&
    -- BN, C3
    sat (runWord 0x00800010 (at_ 0x1000 s0)) (fun t => t.pc == 0x1004 && t.npc == 0x1008) &&
    -- BN, C4
    sat (runWord 0x20800010 (at_ 0x1000 s0)) (fun t => t.pc == 0x1008 && t.npc == 0x100C) &&
    -- BNE, C5
    sat (runWord 0x32800004 (at_ 0x1000 s0)) (fun t => t.pc == 0x1004 && t.npc == 0x1010) &&
    -- BNE, C6
    sat (runWord 0x32800004 (withCcr 0x04 (at_ 0x1000 s0))) (fun t => t.pc == 0x1008 && t.npc == 0x100C) &&
    -- BL, C8
    sat (runWord 0x06BFFFFE (withCcr 0x08 (at_ 0x1000 s0))) (fun t => t.pc == 0x1004 && t.npc == 0x0FF8) &&
    -- BL, C9
    sat (runWord 0x06BFFFFE (withCcr 0x0A (at_ 0x1000 s0))) (fun t => t.pc == 0x1004 && t.npc == 0x1008) &&
    -- BGU, C10
    sat (runWord 0x18800002 (at_ 0x1000 s0)) (fun t => t.pc == 0x1004 && t.npc == 0x1008) &&
    -- BGU, C10b
    sat (runWord 0x18800002 (withCcr 1 (at_ 0x1000 s0))) (fun t => t.pc == 0x1004 && t.npc == 0x1008) &&
    -- BPGE, C11
    sat (runWord 0x16680004 (withCcr 0x08 (at_ 0x1000 s0))) (fun t => t.pc == 0x1004 && t.npc == 0x1010) &&
    -- BPGE, C11b
    sat (runWord 0x16480004 (withCcr 0x08 (at_ 0x1000 s0))) (fun t => t.pc == 0x1004 && t.npc == 0x1008)) = true := by
  decide +kernel

theorem test_control_2 : (
    -- BRZ, C13
    sat (runWord 0x02C20008 (at_ 0x1000 s0)) (fun t => t.pc == 0x1004 && t.npc == 0x1020) &&
    -- BRGEZ, C14
    sat (runWord 0x2ECA0008 (writeR (at_ 0x1000 s0) 8 0xFFFFFFFFFFFFFFFF))
      (fun t => t.pc == 0x1008 && t.npc == 0x100C) &&
    -- CWBE, C16
    sat (runWord 0x12C04082 (writeR (writeR (at_ 0x2000 s0) 1 0x100000005) 2 5))
      (fun t => t.pc == 0x2010 && t.npc == 0x2014) &&
    -- CXBE, C17
    sat (runWord 0x12E04082 (writeR (writeR (at_ 0x2000 s0) 1 0x100000005) 2 5))
      (fun t => t.pc == 0x2004 && t.npc == 0x2008) &&
    -- CWBL, C18
    sat (runWord 0x16D87FDF (writeR (at_ 0x2000 s0) 1 0xFFFFFFFE))
      (fun t => t.pc == 0x1FF8 && t.npc == 0x1FFC) &&
    -- CWBCS, C19
    sat (runWord 0x1AC06041 (at_ 0x2000 s0)) (fun t => t.pc == 0x2008 && t.npc == 0x200C) &&
    -- CALL, C20
    sat (runWord 0x40000100 (at_ 0x10000 s0))
      (fun t => readR t 15 == 0x10000 && t.pc == 0x10004 && t.npc == 0x10400) &&
    -- CALL, C21
    sat (runWord 0x40000100 ((fun s => { s with pstate := { s.pstate with am := true } }) (at_ 0x100000000 s0)))
      (fun t => readR t 15 == 0) &&
    -- JMPL, C22
    sat (runWord 0x81C3E008 (writeR (at_ 0x1000 s0) 15 0x2000))
      (fun t => t.pc == 0x1004 && t.npc == 0x2008) &&
    -- JMPL, C24
    sat (runWord 0x9FC3C000 (writeR (at_ 0x1000 s0) 15 0x2000))
      (fun t => readR t 15 == 0x1000 && t.pc == 0x1004 && t.npc == 0x2000) &&
    -- RETURN, C25
    sat (runWord 0x81CFE008 (writeR (windows 3 5 1 0 7 (at_ 0x3000 s0)) 31 0x2000))
      (fun t => t.cwp == 2 && t.cansave == 6 && t.canrestore == 0 && t.otherwin == 0 && t.cleanwin == 7 && t.pc == 0x3004 && t.npc == 0x2008) &&
    -- RETURN, C26
    sat (runWord 0x81CFE008 (writeR ((fun s => { s with wstate := ⟨0, 2⟩ }) (windows 3 5 0 0 7 (at_ 0x3000 s0))) 31 0x2000))
      (fun t => decide (0 < t.tl.val) && (trapEntry t).tt == 0xC8 && t.cwp == 2)) = true := by
  decide +kernel

theorem test_control_3 : (
    -- TA, C27
    sat (runWord 0x91D02005 (user s0)) (fun t => decide (0 < t.tl.val) && (trapEntry t).tt == 0x105) &&
    -- TA, C28
    sat (runWord 0x91D06003 (writeR (user s0) 1 0xFE))
      (fun t => decide (0 < t.tl.val) && (trapEntry t).tt == 0x101) &&
    -- TNE, C32
    sat (runWord 0x93D03001 (withCcr 0x40 (at_ 0x1000 s0))) (fun t => t.pc == 0x1004 && t.npc == 0x1008) &&
    -- DONE, C33
    sat (runWord 0x81F00000 ((fun s => { s with tl := 1, trap1 := { s.trap1 with tpc := 0x4004, tnpc := 0x4008, tstate := { s.trap1.tstate with pstate := .start } } }) s0))
      (fun t => t.pc == 0x4008 && t.npc == 0x400C && t.tl.val == 0) &&
    -- RETRY, C34
    sat (runWord 0x83F00000 ((fun s => { s with tl := 1, trap1 := { s.trap1 with tpc := 0x4004, tnpc := 0x4008, tstate := { s.trap1.tstate with pstate := .start } } }) s0))
      (fun t => t.pc == 0x4004 && t.npc == 0x4008 && t.tl.val == 0) &&
    -- DONE, C35
    trapsWith (runWord 0x81F00000 s0) 0x10 &&
    -- ILLTRAP, C37
    trapsWith (runWord 0x00001234 s0) 0x10 &&
    -- FBU, C38
    sat (runWord 0x0F800004 ((fun s => { s with fsr := s.fsr.withFcc 0 3 }) (at_ 0x1000 s0)))
      (fun t => t.pc == 0x1004 && t.npc == 0x1010) &&
    -- FBU, C38b
    sat (runWord 0x0F800002 ((fun s => { s with pstate := { s.pstate with pef := false } }) ((fun s => { s with fsr := s.fsr.withFcc 0 3 }) (at_ 0x1000 s0))))
      (fun t => decide (0 < t.tl.val) && (trapEntry t).tt == 0x20) &&
    -- FBPL, C39
    sat (runWord 0x29700004 ((fun s => { s with fsr := s.fsr.withFcc 3 1 }) (at_ 0x1000 s0)))
      (fun t => t.pc == 0x1004 && t.npc == 0x1010) &&
    -- FBPL, C39b
    sat (runWord 0x29700002 ((fun s => { s with fsr := s.fsr.withFcc 3 2 }) (at_ 0x1000 s0)))
      (fun t => t.pc == 0x1008 && t.npc == 0x100C)) = true := by
  decide +kernel

theorem test_memory_1 : (
    -- LDUB, M1
    sat (runWord 0xD20A2000 (writeR (bytesAt 0x2000 8 0x81223344556677F8 s0) 8 0x2000))
      (fun t => readR t 9 == 0x81) &&
    -- LDSB, M2
    sat (runWord 0xD24A2000 (writeR (bytesAt 0x2000 8 0x81223344556677F8 s0) 8 0x2000))
      (fun t => readR t 9 == 0xFFFFFFFFFFFFFF81) &&
    -- LDXA, M8
    sat (runWord 0xD2DA1100 (writeR (bytesAt 0x2000 8 0x81223344556677F8 s0) 8 0x2000))
      (fun t => readR t 9 == 0xF877665544332281) &&
    -- LDTW, M17
    sat (runWord 0xD41A2000 (writeR (bytesAt 0x2000 8 0x81223344556677F8 s0) 8 0x2000))
      (fun t => readR t 10 == 0x81223344 && readR t 11 == 0x556677F8) &&
    -- CASA, M31
    sat (runWord 0xD5E21009 (writeR (writeR (writeR (bytesAt 0x2000 8 0x81223344556677F8 s0) 8 0x2000) 9 0xFFFFFFFF81223344) 10 0x99))
      (fun t => readR t 10 == 0x81223344 && t.mem.readBE 0x2000 4 == 0x99) &&
    -- CASA, M32
    sat (runWord 0xD5E21009 (writeR (writeR (writeR (bytesAt 0x2000 8 0x81223344556677F8 s0) 8 0x2000) 9 0) 10 0x99))
      (fun t => readR t 10 == 0x81223344 && t.mem.readBE 0x2000 4 == 0x81223344) &&
    -- CASXA, M33
    sat (runWord 0xD5F21009 (writeR (writeR (writeR (bytesAt 0x2000 8 0x81223344556677F8 s0) 8 0x2000) 9 0x81223344556677F8) 10 1))
      (fun t => readR t 10 == 0x81223344556677F8 && t.mem.readBE 0x2000 8 == 1) &&
    -- LDUWA, M40
    sat (runWord 0xD2822004 ((fun s => { s with asi := 0x88 }) (writeR (bytesAt 0x2000 8 0x81223344556677F8 s0) 8 0x2000)))
      (fun t => readR t 9 == 0xF8776655) &&
    -- LDUW, M45
    trapsWith (runWord 0xD4020029 (writeR (bytesAt 0x2000 8 0x81223344556677F8 s0) 8 0x2000)) 0x10 &&
    -- MEMBAR, M46
    sat (runWord 0x8143E002 (at_ 0x1000 s0)) (fun t => t.pc == 0x1004 && t.npc == 0x1008) &&
    -- MEMBAR, M46b
    sat (runWord 0x8143E040 (at_ 0x1000 s0)) (fun t => t.pc == 0x1004 && t.npc == 0x1008) &&
    -- STBAR, M47
    sat (runWord 0x8143C000 (at_ 0x1000 s0)) (fun t => t.pc == 0x1004 && t.npc == 0x1008)) = true := by
  decide +kernel

theorem test_memory_2 : (
    -- PREFETCH, M48
    trapsWith (runWord 0xCB6A2000 (writeR (bytesAt 0x2000 8 0x81223344556677F8 s0) 8 0x2000)) 0x10 &&
    -- PREFETCH, M49
    sat (runWord 0xC1682000 (at_ 0x1000 s0)) (fun t => t.pc == 0x1004 && t.npc == 0x1008)) = true := by
  decide +kernel

theorem test_floatmem_1 : (
    -- LDF, F1
    sat (runWord 0xC3022000 (writeR (bytesAt 0x2000 8 0x81223344556677F8 s0) 8 0x2000))
      (fun t => readFS t 1 == 0x81223344) &&
    -- LDDF, F2
    sat (runWord 0xC51A2000 (writeR (bytesAt 0x2000 8 0x81223344556677F8 s0) 8 0x2000))
      (fun t => readFD t 1 == 0x81223344556677F8) &&
    -- LDDF, F3
    sat (runWord 0xC31A2000 (writeR (bytesAt 0x2000 8 0x81223344556677F8 s0) 8 0x2000))
      (fun t => readFD t 16 == 0x81223344556677F8) &&
    -- LDF, F7
    sat (runWord 0xC3022000 ((fun s => { s with fprs := { s.fprs with fef := false } }) (writeR (bytesAt 0x2000 8 0x81223344556677F8 s0) 8 0x2000)))
      (fun t => decide (0 < t.tl.val) && (trapEntry t).tt == 0x20) &&
    -- LDXFSR, F11
    sat (runWord 0xC30A2000 (bytesAt 0x2000 8 0x0000003FC0000C00 (writeR (bytesAt 0x2000 8 0x81223344556677F8 s0) 8 0x2000)))
      (fun t => t.fsr.bits 0 == 0x3FC0000C00) &&
    -- LDFSR, F12
    sat (runWord 0xC10A2000 (bytesAt 0x2000 4 0x40000000 (writeR (bytesAt 0x2000 8 0x81223344556677F8 s0) 8 0x2000)))
      (fun t => t.fsr.bits 0 == 0x40000000) &&
    -- STXFSR, F13
    sat (runWord 0xC32A2000 ((fun s => { s with fsr := { s.fsr with ftt := 2 } }) (writeR (bytesAt 0x2000 8 0x81223344556677F8 s0) 8 0x2000)))
      (fun t => t.mem.readBE 0x2000 8 == 0x8000 && t.fsr.bits 0 == 0) &&
    -- LDQF, F22
    trapsWith (runWord 0xC9122000 (writeR (bytesAt 0x2000 8 0x81223344556677F8 s0) 8 0x2000)) 0x10 &&
    -- LDQF, F22b
    sat (runWord 0xC9122000 (bytesAt 0x2000 16 0x000102030405060708090A0B0C0D0E0F ((fun s => { s with par := { s.par with hasQuad := true } }) (writeR (bytesAt 0x2000 8 0x81223344556677F8 s0) 8 0x2000))))
      (fun t => readFD t 2 == 0x0001020304050607 && readFD t 3 == 0x08090A0B0C0D0E0F)) = true := by
  decide +kernel

theorem test_windows_1 : (
    -- SAVE, W1
    sat (runWord 0x9DE3BF50 (writeR (windows 2 5 1 0 7 s0) 14 0x8000))
      (fun t => t.cwp == 3 && t.cansave == 4 && t.canrestore == 2 && t.otherwin == 0 && t.cleanwin == 7 && readR t 14 == 0x7F50 && readR t 30 == 0x8000) &&
    -- RESTORE, W6
    sat (runWord 0x91EE2001 (writeR (windows 3 5 1 0 7 s0) 24 7))
      (fun t => t.cwp == 2 && t.cansave == 6 && t.canrestore == 0 && t.otherwin == 0 && t.cleanwin == 7 && readR t 8 == 8) &&
    -- SAVED, W9
    sat (runWord 0x81880000 (windows 4 0 6 0 7 s0))
      (fun t => t.cwp == 4 && t.cansave == 1 && t.canrestore == 5 && t.otherwin == 0 && t.cleanwin == 7) &&
    -- SAVED, W10
    sat (runWord 0x81880000 (windows 4 0 4 2 7 s0))
      (fun t => t.cwp == 4 && t.cansave == 1 && t.canrestore == 4 && t.otherwin == 1 && t.cleanwin == 7) &&
    -- RESTORED, W11
    sat (runWord 0x83880000 (windows 7 6 0 0 5 s0))
      (fun t => t.cwp == 7 && t.cansave == 5 && t.canrestore == 1 && t.otherwin == 0 && t.cleanwin == 6) &&
    -- RESTORED, W12
    sat (runWord 0x83880000 (windows 7 4 0 2 7 s0))
      (fun t => t.cwp == 7 && t.cansave == 4 && t.canrestore == 1 && t.otherwin == 1 && t.cleanwin == 7) &&
    -- ALLCLEAN, W15
    sat (runWord 0x85880000 (windows 2 3 3 0 3 s0))
      (fun t => t.cwp == 2 && t.cansave == 3 && t.canrestore == 3 && t.otherwin == 0 && t.cleanwin == 7) &&
    -- OTHERW, W16
    sat (runWord 0x87880000 (windows 2 4 2 0 7 s0))
      (fun t => t.cwp == 2 && t.cansave == 4 && t.canrestore == 0 && t.otherwin == 2 && t.cleanwin == 7) &&
    -- NORMALW, W17
    sat (runWord 0x89880000 (windows 2 3 0 3 7 s0))
      (fun t => t.cwp == 2 && t.cansave == 3 && t.canrestore == 3 && t.otherwin == 0 && t.cleanwin == 7) &&
    -- INVALW, W18
    sat (runWord 0x8B880000 (windows 5 1 3 2 4 s0))
      (fun t => t.cwp == 5 && t.cansave == 6 && t.canrestore == 0 && t.otherwin == 0 && t.cleanwin == 4) &&
    -- SAVE, W2
    sat (runWord 0x9DE3BF50 ((fun s => { s with wstate := ⟨0, 3⟩ }) (windows 2 0 6 0 7 s0)))
      (fun t => decide (0 < t.tl.val) && (trapEntry t).tt == 0x8C && t.cwp == 4) &&
    -- RESTORE, W7
    sat (runWord 0x91EE2001 (windows 0 6 0 0 7 s0))
      (fun t => decide (0 < t.tl.val) && (trapEntry t).tt == 0xC0 && t.cwp == 7)) = true := by
  decide +kernel

theorem test_windows_2 : (
    -- FLUSHW, W13
    sat (runWord 0x81580000 (windows 2 6 0 0 7 s0))
      (fun t => t.cwp == 2 && t.cansave == 6 && t.canrestore == 0 && t.otherwin == 0 && t.cleanwin == 7) &&
    -- FLUSHW, W14
    sat (runWord 0x81580000 (windows 2 3 3 0 7 s0))
      (fun t => decide (0 < t.tl.val) && (trapEntry t).tt == 0x80 && t.cwp == 7) &&
    -- undefined, W20
    trapsWith (runWord 0x8D880000 s0) 0x10) = true := by
  decide +kernel

theorem test_registers_1 : (
    -- RDCCR, S1
    sat (runWord 0x91408000 (withCcr 0x44 s0)) (fun t => readR t 8 == 0x44) &&
    -- WRCCR, S2
    sat (runWord 0x858060FF (writeR s0 1 0x0F)) (fun t => t.ccr.bits == 0xF0) &&
    -- RDPC, S6
    sat (runWord 0x91414000 ((fun s => { s with pstate := { s.pstate with am := true } }) (at_ 0x100001000 s0)))
      (fun t => readR t 8 == 0x1000) &&
    -- WRFPRS, S7
    sat (runWord 0x8D802004 s0) (fun t => t.fprs.bits == 4) &&
    -- RDSOFTINT, S10
    sat (runWord 0x91458000 (user s0)) (fun t => decide (0 < t.tl.val) && (trapEntry t).tt == 0x11) &&
    -- WRSOFTINT_SET, S11
    sat (runWord 0xA9802010 ((fun s => { s with softint := 1, par := { s.par with softintBit0 := true } }) s0))
      (fun t => softintBits t == 0x11) &&
    -- undefined, S13
    trapsWith (runWord 0x91404000 s0) 0x10 &&
    -- RDPR_TT, S15
    sat (runWord 0x8350C000 ((fun s => { s with trap1 := { s.trap1 with tt := 0x24 } }) ((fun s => { s with tl := 1, trap1 := { s.trap1 with tpc := 0, tnpc := 0, tstate := { s.trap1.tstate with pstate := .start } } }) s0)))
      (fun t => readR t 1 == 0x24) &&
    -- RDPR_TT, S16
    trapsWith (runWord 0x8350C000 s0) 0x10 &&
    -- WRPR_TL, S18
    sat (runWord 0x8F902007 s0) (fun t => t.tl.val == 2) &&
    -- WRPR_GL, S19
    sat (runWord 0xA190200F s0) (fun t => t.gl.val == 2) &&
    -- SIAM, S25
    sat (runWord 0x81B01025 s0) (fun t => t.gsr.im && t.gsr.irnd == 1)) = true := by
  decide +kernel

theorem test_registers_2 : (
    -- PAUSE, S27
    sat (runWord 0xB7802064 s0) (fun t => t.pause == 100)) = true := by
  decide +kernel

theorem test_float_1 : (
    -- FADDs, P1
    sat (runWord 0x85A00821 (writeFS (writeFS s0 0 0x3F800000) 1 0x3F800000))
      (fun t => readFS t 2 == 0x40000000 && t.fsr.cexc.bits == 0 && t.fsr.aexc.bits == 0) &&
    -- FADDd, P2
    sat (runWord 0x89A00842 (writeFD (writeFD s0 0 0x3FF0000000000000) 1 0x4000000000000000))
      (fun t => readFD t 2 == 0x4008000000000000) &&
    -- FDIVs, P3
    sat (runWord 0x85A009A1 (writeFS (writeFS s0 0 0x3F800000) 1 0x40400000))
      (fun t => readFS t 2 == 0x3EAAAAAB && t.fsr.cexc.bits == 1 && t.fsr.aexc.bits == 1) &&
    -- FDIVs, P3b
    sat (runWord 0x85A009A1 ((fun s => { s with fsr := { s.fsr with rd := 1 } }) (writeFS (writeFS s0 0 0x3F800000) 1 0x40400000)))
      (fun t => readFS t 2 == 0x3EAAAAAA && t.fsr.cexc.bits == 1 && t.fsr.aexc.bits == 1) &&
    -- FADDs, P8
    sat (runWord 0x85A00821 (writeFS (writeFS s0 0 0x7F800000) 1 0xFF800000))
      (fun t => readFS t 2 == 0x7FFFFFFF && t.fsr.cexc.bits == 16 && t.fsr.aexc.bits == 16) &&
    -- FNADDs, P19
    sat (runWord 0x85A00A21 s0) (fun t => readFS t 2 == 0x80000000) &&
    -- FNMULs, P20
    sat (runWord 0x85A00B21 (writeFS (writeFS s0 0 0x80000000) 1 0x80000000))
      (fun t => readFS t 2 == 0x80000000) &&
    -- FHADDs, P21
    sat (runWord 0x85A00C21 (writeFS (writeFS s0 0 0x40400000) 1 0x3F800000))
      (fun t => readFS t 2 == 0x40000000) &&
    -- FsMULd, P23
    sat (runWord 0x85A00D21 (writeFS (writeFS s0 0 0x3F800001) 1 0x3F800001))
      (fun t => readFD t 1 == 0x3FF0000040000040 && t.fsr.cexc.bits == 0 && t.fsr.aexc.bits == 0) &&
    -- FSQRTd, P24
    sat (runWord 0x85A00540 (writeFD s0 0 0x4010000000000000))
      (fun t => readFD t 1 == 0x4000000000000000) &&
    -- FSQRTd, P24b
    sat (runWord 0x85A00540 (writeFD s0 0 0x8000000000000000))
      (fun t => readFD t 1 == 0x8000000000000000) &&
    -- FCMPs, P26
    sat (runWord 0x81A80A21 (writeFS (writeFS s0 0 0x3F800000) 1 0x40000000))
      (fun t => readFcc t 0 == 1 && t.fsr.cexc.bits == 0 && t.fsr.aexc.bits == 0)) = true := by
  decide +kernel

theorem test_float_2 : (
    -- FCMPs, P26b
    sat (runWord 0x81A80A21 (writeFS (writeFS s0 0 0x7FC00000) 1 0x40000000))
      (fun t => readFcc t 0 == 3 && t.fsr.cexc.bits == 0 && t.fsr.aexc.bits == 0) &&
    -- FCMPEs, P28
    sat (runWord 0x83A80AA1 (writeFS (writeFS s0 0 0x7FC00000) 1 0x40000000))
      (fun t => readFcc t 1 == 3 && t.fsr.cexc.bits == 16 && t.fsr.aexc.bits == 16) &&
    -- FLCMPs, P29
    sat (runWord 0x81B02A21 (writeFS (writeFS s0 0 0x80000000) 1 0)) (fun t => readFcc t 0 == 1) &&
    -- FLCMPs, P29b
    sat (runWord 0x81B02A21 (writeFS (writeFS s0 0 0x3F800000) 1 0x7FC00000))
      (fun t => readFcc t 0 == 3) &&
    -- FsTOi, P30
    sat (runWord 0x83A01A20 (writeFS s0 0 0x4F000000))
      (fun t => readFS t 1 == 0x7FFFFFFF && t.fsr.cexc.bits == 16 && t.fsr.aexc.bits == 16) &&
    -- FsTOi, P31
    sat (runWord 0x83A01A20 (writeFS s0 0 0xCF000000))
      (fun t => readFS t 1 == 0x80000000 && t.fsr.cexc.bits == 0 && t.fsr.aexc.bits == 0) &&
    -- FdTOi, P32
    sat (runWord 0x85A01A40 (writeFD s0 0 0xC1E0000000100000))
      (fun t => readFS t 2 == 0x80000000 && t.fsr.cexc.bits == 1 && t.fsr.aexc.bits == 1) &&
    -- FdTOx, P33
    sat (runWord 0x85A01040 (writeFD s0 0 0xBFFE666666666666))
      (fun t => readFD t 1 == 0xFFFFFFFFFFFFFFFF && t.fsr.cexc.bits == 1 && t.fsr.aexc.bits == 1) &&
    -- FdTOx, P34
    sat (runWord 0x85A01040 (writeFD s0 0 0xFFF8000000000000))
      (fun t => readFD t 1 == 0x8000000000000000 && t.fsr.cexc.bits == 16 && t.fsr.aexc.bits == 16) &&
    -- FiTOs, P35
    sat (runWord 0x83A01880 (writeFS s0 0 0xFFFFFFFF)) (fun t => readFS t 1 == 0xBF800000) &&
    -- FiTOs, P36
    sat (runWord 0x83A01880 (writeFS s0 0 0x01000001))
      (fun t => readFS t 1 == 0x4B800000 && t.fsr.cexc.bits == 1 && t.fsr.aexc.bits == 1) &&
    -- FxTOd, P37
    sat (runWord 0x85A01100 (writeFD s0 0 0x0020000000000001))
      (fun t => readFD t 1 == 0x4340000000000000 && t.fsr.cexc.bits == 1 && t.fsr.aexc.bits == 1)) = true := by
  decide +kernel

theorem test_float_3 : (
    -- FsTOd, P38
    sat (runWord 0x85A01920 (writeFS s0 0 0x3FC00000)) (fun t => readFD t 1 == 0x3FF8000000000000) &&
    -- FsTOd, P38b
    sat (runWord 0x85A01920 (writeFS s0 0 0x7FA00001))
      (fun t => readFD t 1 == 0x7FFC000020000000 && t.fsr.cexc.bits == 16 && t.fsr.aexc.bits == 16) &&
    -- FdTOs, P39
    sat (runWord 0x85A018C0 (writeFD s0 0 0x483D6329F1C35CA5))
      (fun t => readFS t 2 == 0x7F800000 && t.fsr.cexc.bits == 9 && t.fsr.aexc.bits == 9) &&
    -- FMADDd, P40
    sat (runWord 0x8DB80842 (writeFD (writeFD (writeFD s0 0 0x4000000000000000) 1 0x4008000000000000) 2 0x3FF0000000000000))
      (fun t => readFD t 3 == 0x401C000000000000) &&
    -- FMSUBd, P41
    sat (runWord 0x8DB808C2 (writeFD (writeFD (writeFD s0 0 0x4000000000000000) 1 0x4008000000000000) 2 0x3FF0000000000000))
      (fun t => readFD t 3 == 0x4014000000000000) &&
    -- FNMSUBd, P41b
    sat (runWord 0x8DB80942 (writeFD (writeFD (writeFD s0 0 0x4000000000000000) 1 0x4008000000000000) 2 0x3FF0000000000000))
      (fun t => readFD t 3 == 0xC014000000000000) &&
    -- FNMADDd, P41c
    sat (runWord 0x8DB809C2 (writeFD (writeFD (writeFD s0 0 0x4000000000000000) 1 0x4008000000000000) 2 0x3FF0000000000000))
      (fun t => readFD t 3 == 0xC01C000000000000) &&
    -- FMADDs, P42
    sat (runWord 0x87B80421 (writeFS (writeFS (writeFS s0 0 0x3F800001) 1 0x3F7FFFFE) 2 0xBF800000))
      (fun t => readFS t 3 == 0xA8800000 && t.fsr.cexc.bits == 0 && t.fsr.aexc.bits == 0) &&
    -- FMOVSicc, P44
    sat (runWord 0x85AA6021 (withCcr 4 (writeFS s0 1 1)))
      (fun t => readFS t 2 == 0 && t.fsr.cexc.bits == 0 && t.fsr.aexc.bits == 0) &&
    -- FMOVRdLZ, P45
    sat (runWord 0x89A84CC2 (writeFD (writeR s0 1 0x8000000000000000) 1 77)) (fun t => readFD t 2 == 77) &&
    -- FADDq, P47
    trapsWith (runWord 0x91A00864 s0) 0x10) = true := by
  decide +kernel

theorem test_quad_1 : (
    -- FADDq, T18
    trapsWith (runWord 0x89A00862 s0) 0x10) = true := by
  decide +kernel

theorem test_crypto_1 : (
    -- AES_EROUND01, CR3
    sat (runWord 0xB2C92E15 (writeFD (writeFD (writeFD s0 2 0xD6AA74FDD2AF72FA) 26 0x0010203040506070) 27 0x8090A0B0C0D0E0F0))
      (fun t => readFD t 28 == 0x89D810E8855ACE68) &&
    -- AES_EROUND23, CR4
    sat (runWord 0xB6C9AE35 (writeFD (writeFD (writeFD s0 3 0xDAA678F1D6AB76FE) 26 0x0010203040506070) 27 0x8090A0B0C0D0E0F0))
      (fun t => readFD t 29 == 0x2D1843D8CB128FE4) &&
    -- AES_EROUND01_LAST, CR5
    sat (runWord 0xBACA7699 (writeFD (writeFD (writeFD s0 20 0x13111D7FE3944A17) 28 0xBD6E7C3DF2B5779E) 29 0x0B61216E8B10B689))
      (fun t => readFD t 30 == 0x69C4E0D86A7B0430) &&
    -- AES_EROUND23_LAST, CR5b
    sat (runWord 0xBECAF6B9 (writeFD (writeFD (writeFD s0 21 0xF307A78B4D2B30C5) 28 0xBD6E7C3DF2B5779E) 29 0x0B61216E8B10B689))
      (fun t => readFD t 31 == 0xD8CDB78070B4C55A) &&
    -- AES_KEXPAND0, CR8
    sat (runWord 0x99B1260A (writeFD (writeFD s0 2 0x1011121314151617) 5 0xA97FCE93A572C09C))
      (fun t => readFD t 6 == 0x1651A8CD0244BEDA) &&
    -- CAMELLIA_F, CR10
    sat (runWord 0xAAC92F95 (writeFD (writeFD (writeFD s0 2 0xA09E667F3BCC908B) 26 0x1111111111111111) 27 0x0123456789ABCDEF))
      (fun t => readFD t 26 == 0x939696DD8FAB113B) &&
    -- CAMELLIA_FL, CR11
    sat (runWord 0xAFB42797 (writeFD (writeFD s0 8 0xFEDCBA9876543210) 27 0x0123456789ABCDEF))
      (fun t => readFD t 27 == 0xFEDCBA9889ABCDEF) &&
    -- CAMELLIA_FLI, CR11b
    sat (runWord 0xABB4A7B5 (writeFD (writeFD s0 9 0xFEDCBA9876543210) 26 0x0123456789ABCDEF))
      (fun t => readFD t 26 == 0xFEDCBA987412B8DE) &&
    -- DES_IP, CR15
    sat (runWord 0x83B06680 (writeFD s0 16 0x0123456789ABCDEF))
      (fun t => readFD t 16 == 0xCC00CCFFF0AAF0AA) &&
    -- DES_ROUND, CR16
    sat (runWord 0x82C80322 (writeFD (writeFD (writeFD s0 0 0x00E19955FAACCF1E) 1 0x00C332ABF5599E3D) 16 0xCC00CCFFF0AAF0AA))
      (fun t => readFD t 16 == 0xEF4A6544CC017709) &&
    -- DES_IIP, CR17
    sat (runWord 0x83B066A0 (writeFD s0 16 0x434232340A4CD995))
      (fun t => readFD t 16 == 0x85E813540F0AB405) &&
    -- CRC32C, CR21
    sat (runWord 0x81B028E2 (writeFD s0 0 0xFFFFFFFFFFFFFFFF)) (fun t => readFD t 0 == 0x754DD773)) = true := by
  decide +kernel

theorem test_crypto_2 : (
    -- CRC32C, CR22
    sat (runWord 0x81B028E2 (writeFD s0 1 0x100000000)) (fun t => readFD t 0 == 0xAC6F1138) &&
    -- AES_KEXPAND2, c1
    sat (exec (.AES_KEXPAND2 2 0 1) (writeFD (writeFD s0 0 0x0000000100000002) 1 0xF0))
      (fun t => readFD t 2 == 0xf1000000f3) &&
    -- AES_KEXPAND1, c504
    sat (exec (.AES_KEXPAND1 2 0 1 0) (writeFD (writeFD s0 0 0x2B7E151628AED2A6) 1 0xABF7158809CF4F3C))
      (fun t => readFD t 2 == 0xa0fafe1788542cb1) &&
    -- DES_IP, ip
    sat (exec (.DES_IP 2 0) (writeFD (writeFD s0 0 0x0123456789ABCDEF) 1 0))
      (fun t => readFD t 2 == 0xcc00ccfff0aaf0aa) &&
    -- DES_IIP, iip
    sat (exec (.DES_IIP 2 0) (writeFD (writeFD s0 0 0x0123456789ABCDEF) 1 0))
      (fun t => readFD t 2 == 0xff330f5500330f55) &&
    -- DES_KEXPAND, kexp0
    sat (exec (.DES_KEXPAND 2 0 0) (writeFD (writeFD s0 0 0x133457799BBCDFF1) 1 0))
      (fun t => readFD t 2 == 0xe19955faaccf1e) &&
    -- DES_KEXPAND, kexp1
    sat (exec (.DES_KEXPAND 2 0 1) (writeFD (writeFD s0 0 0x0080000008000001) 1 0))
      (fun t => readFD t 2 == 0x10000003)) = true := by
  decide +kernel

theorem test_vis_1 : (
    -- FALIGNDATAg, 3
    sat (exec (.FALIGNDATAg 2 0 1) (writeFD (writeFD { s0 with gsr := ⟨0, false, 0, 0, 3⟩ } 0 0x0001020304050607) 1 0x08090A0B0C0D0E0F))
      (fun t => readFD t 2 == 0x30405060708090a) &&
    -- FALIGNDATAg, 3b
    sat (exec (.FALIGNDATAg 2 0 1) (writeFD (writeFD { s0 with gsr := ⟨0, false, 0, 0, 0⟩ } 0 0x0001020304050607) 1 0x08090A0B0C0D0E0F))
      (fun t => readFD t 2 == 0x1020304050607) &&
    -- BSHUFFLE, 6
    sat (exec (.BSHUFFLE 2 0 1) (writeFD (writeFD { s0 with gsr := ⟨0x0F1E2D3C, false, 0, 0, 0⟩ } 0 0x0001020304050607) 1 0x08090A0B0C0D0E0F))
      (fun t => readFD t 2 == 0xf010e020d030c) &&
    -- FPADD16, 17
    sat (exec (.FPADD16 2 0 1) (writeFD (writeFD s0 0 0x7FFFFFFF00018000) 1 0x0001000100018000))
      (fun t => readFD t 2 == 0x8000000000020000) &&
    -- FPADDS16, 18
    sat (exec (.FPADDS16 2 0 1) (writeFD (writeFD s0 0 0x7FFFFFFF00018000) 1 0x0001000100018000))
      (fun t => readFD t 2 == 0x7fff000000028000) &&
    -- FPADDUS8, 19
    sat (exec (.FPADDUS8 2 0 1) (writeFD (writeFD s0 0 0xF0) 1 0x20))
      (fun t => readFD t 2 == 0xff) &&
    -- FPSUB32, 20
    sat (exec (.FPSUB32 2 0 1) (writeFD (writeFD s0 0 0x80000000) 1 0x100000001))
      (fun t => readFD t 2 == 0xffffffff7fffffff) &&
    -- FPSUBS32, 21
    sat (exec (.FPSUBS32 2 0 1) (writeFD (writeFD s0 0 0x80000000) 1 0x100000001))
      (fun t => readFD t 2 == 0xffffffff80000000) &&
    -- FPADD64, 22
    sat (exec (.FPADD64 2 0 1) (writeFD (writeFD s0 0 0xFFFFFFFFFFFFFFFF) 1 1))
      (fun t => readFD t 2 == 0x0) &&
    -- FPCMPGT16, 23
    sat (exec (.FPCMPGT16 1 0 1) (writeFD (writeFD s0 0 0x0001FFFF00050000) 1 0x0000000000050001))
      (fun t => readR t 1 == 0x8) &&
    -- FPCMPUGT16, 24
    sat (exec (.FPCMPUGT16 1 0 1) (writeFD (writeFD s0 0 0x0001FFFF00050000) 1 0x0000000000050001))
      (fun t => readR t 1 == 0xc) &&
    -- FPCMPEQ32, 25
    sat (exec (.FPCMPEQ32 1 0 1) (writeFD (writeFD s0 0 0x0001FFFF00050000) 1 0x0000000000050001))
      (fun t => readR t 1 == 0x0)) = true := by
  decide +kernel

theorem test_vis_2 : (
    -- PDISTN, 33
    sat (exec (.PDISTN 1 0 1) (writeFD (writeFD s0 0 0x0102030405060708) 1 0x0807060504030201))
      (fun t => readR t 1 == 0x20) &&
    -- FMEAN16, 34
    sat (exec (.FMEAN16 2 0 1) (writeFD (writeFD s0 0 0x00017FFFFFFE0000) 1 0x00027FFFFFFF0000))
      (fun t => readFD t 2 == 0x27fffffff0000) &&
    -- FCHKSM16, 35
    sat (exec (.FCHKSM16 2 0 1) (writeFD (writeFD s0 0 0xFFFFFFFF) 1 0x1FFFF))
      (fun t => readFD t 2 == 0x1ffff) &&
    -- FSLAS16, 36
    sat (exec (.FSLAS16 2 0 1) (writeFD (writeFD s0 0 0x4000C000BFFF) 1 0x000100010001))
      (fun t => readFD t 2 == 0x7fff80008000) &&
    -- FSLL16, 37
    sat (exec (.FSLL16 2 0 1) (writeFD (writeFD s0 0 0x4000) 1 2))
      (fun t => readFD t 2 == 0x0) &&
    -- FSRA32, 37b
    sat (exec (.FSRA32 2 0 1) (writeFD (writeFD s0 0 0x80000000) 1 31))
      (fun t => readFD t 2 == 0xffffffff) &&
    -- FPMAX8, 38
    sat (exec (.FPMAX8 2 0 1) (writeFD (writeFD s0 0 0x80) 1 0x7f))
      (fun t => readFD t 2 == 0x7f) &&
    -- FPMAXU8, 38b
    sat (exec (.FPMAXU8 2 0 1) (writeFD (writeFD s0 0 0x80) 1 0x7f))
      (fun t => readFD t 2 == 0x80) &&
    -- FONEd, 39
    sat (exec (.FONEd 2) (writeFD (writeFD s0 0 0) 1 0))
      (fun t => readFD t 2 == 0xffffffffffffffff) &&
    -- FANDNOT2d, 40
    sat (exec (.FANDNOT2d 2 0 1) (writeFD (writeFD s0 0 0xFF00FF00FF00FF00) 1 0x0F0F0F0F0F0F0F0F))
      (fun t => readFD t 2 == 0xf000f000f000f000) &&
    -- FNOT1d, 41
    sat (exec (.FNOT1d 2 0) (writeFD (writeFD s0 0 0x00000000FFFFFFFF) 1 0))
      (fun t => readFD t 2 == 0xffffffff00000000) &&
    -- FMUL8SUx16, r383
    sat (exec (.FMUL8SUx16 2 0 1) (writeFD (writeFD s0 0 0x0280) 1 0x0040))
      (fun t => readFD t 2 == 0x1)) = true := by
  decide +kernel

theorem test_vis_3 : (
    -- FMUL8ULx16, r384
    sat (exec (.FMUL8ULx16 2 0 1) (writeFD (writeFD s0 0 0x00FF) 1 0x0100))
      (fun t => readFD t 2 == 0x1) &&
    -- FPACK32, r388
    sat (exec (.FPACK32 2 0 1) (writeFD (writeFD s0 0 0x00112233) 1 0x00800000))
      (fun t => readFD t 2 == 0x11223301)) = true := by
  decide +kernel

/-! ## Implementation parameters

The expected values are computed by hand from R103, R105 and R351.
-/

/-- R105: the entry of VA 0x12346008 in a buffer of 512 entries at 0x10000 lies at 0x11A30; the page is at 0x40000. -/
theorem test_translate_tsb :
    let s := bytesAt 0x11A30 16 0x000500000000004880000000000404C0
      { s0 with par := { s0.par with tsbs := [⟨0x10000, 9, 13, [.load]⟩], identityMap := false } }
    translate s .load ⟨5, 5⟩ 0x12346008 = .ok ⟨0x40008, false, false, false, true, false, true, true⟩ ∧
      translate s .load ⟨4, 4⟩ 0x12346008 = .error (.trap .unnamed) ∧
      translate s .store ⟨5, 5⟩ 0x12346008 = .error (.trap .unnamed) := by
  decide +kernel

/-- R103: the tag names context 5 and VA{63:22}, the mapping VA{21:13}; TTE.p and TTE.e are set. -/
theorem test_translate_mapping :
    let s := { s0 with par := { s0.par with mappings := [⟨⟨0x0005000000000048, 0x8000000000040D00⟩, 0x1A3, [.load]⟩] } }
    translate s .load ⟨5, 5⟩ 0x12346008 = .ok ⟨0x40008, false, false, true, true, true, false, false⟩ := by
  decide +kernel

/-- R351: FADDs with a subnormal operand is unfinished_FPop, with FSR.ftt = 2, where the implementation says so. -/
theorem test_unfinished :
    sat (exec (.FADDs 2 0 1) { writeFS s0 0 1 with par := { s0.par with unfinishedCases := [⟨.add, 32, 32, .subnormalOperand⟩] } }) (fun t =>
      t.fsr.ftt == 2 && (trapEntry t).tt == 0x022) = true := by
  decide +kernel

/-- R328, R351: FNsMULd has sources of 32 bits and a destination of 64. -/
theorem test_unfinished_FNsMULd :
    sat (exec (.FNsMULd 2 0 1) { writeFS s0 0 1 with
      par := { s0.par with unfinishedCases := [⟨.negativeMultiply, 32, 64, .subnormalOperand⟩] } })
      (fun t => t.fsr.ftt == 2 && (trapEntry t).tt == 0x022) = true := by
  decide +kernel

/-- R4, R29, R295, R298, D8: a read and a write of an implementation-dependent ASR that exists go on; without it, in
nonprivileged mode where it is privileged, with a nonzero reserved field, or for a write of ASR 28, they trap. -/
theorem test_impl_asr :
    (let answer (asrs : List Config.ImplAsr) (s : State) (w : Nat) : Nat :=
       match step ({ s with par := { s.par with implAsrs := asrs } }.withFetchWord 32 w) with
       | .fault (.hyperprivilegedTrap (some tt) _ _) => tt.toNat
       | .next t => t.pc.toNat
       | _ => 0
     answer [⟨17, false⟩] s0 0x83444000 = 4 ∧ answer [⟨16, false⟩] s0 0x83444000 = 0x010 ∧
     answer [⟨17, true⟩] (user s0) 0x83444000 = 32 * 0x011 ∧ answer [⟨17, false⟩] s0 0x83444001 = 0x010 ∧
     answer [⟨17, false⟩] s0 0xA3802000 = 4 ∧ answer [⟨17, false⟩] s0 0xA3800020 = 0x010 ∧
     answer [⟨28, false⟩] s0 0xB9800020 = 0x010 ∧ answer [⟨28, true⟩] s0 0x83470000 = 4) := by
  decide +kernel

/-- R75, D9: an access with an ASI of the implementation that exists goes on, after the checks of alignment and
privilege; without it DAE_invalid_asi. -/
theorem test_impl_asi :
    (let s : State := { s0 with par := { s0.par with htrapPolicy := .reflect, implAsis := [0xC6, 0x24] } }
     let traps (o : Out) (tt : BitVec 9) : Bool := sat o fun t => (trapEntry t).tt == tt
     sat (exec (.LDUBA 1 0 (.immAsi 0xC6 0)) s) (fun t => t.pc == 4 && readR t 2 == 0 && t.freeCount == 1) = true ∧
     sat (exec (.STXA 1 0 (.immAsi 0xC6 0)) s) (fun t => t.pc == 4 && t.mem == []) = true ∧
     sat (exec (.CASXA 1 0 2 (.imm 0xC6)) s) (fun t => t.pc == 4 && t.mem == []) = true ∧
     traps (exec (.LDUHA 1 0 (.asiReg 1)) { s with asi := 0xC6 }) 0x034 = true ∧
     traps (exec (.LDUHA 1 0 (.immAsi 0x24 0)) (user s)) 0x037 = true ∧
     traps (exec (.LDUHA 1 0 (.immAsi 0xC7 0)) s) 0x014 = true) := by
  decide +kernel

/-- R453, R497: a pending interrupt whose delay has not run out lets the instruction run. -/
theorem test_trap_delay :
    (let s : State := { s0 with pstate := { s0.pstate with ie := true }, softint := 2, npc := 4 }
     let answer (n : Nat) : BitVec 9 × Option Nat :=
       match step (({ s with trapDelay := some n } : State).withFetchWord 32 0x01000000) with
       | .next t => (t.trap1.tt, t.trapDelay)
       | _ => (0, none)
     answer 0 = (0x041, none) ∧ answer 1 = (0, some 0)) := by
  decide +kernel

/-- R106: a page that serves loads alone or stores alone serves no atomic load-store. -/
theorem test_atomic_translation :
    (let on (accesses : List Config.Access) : State :=
       { s0 with par := { s0.par with identityMap := false, mappings := [⟨⟨0, 0x8000000000002440⟩, 1, accesses⟩] } }
     let answer (accesses : List Config.Access) : Bool :=
       decide (placeImplicit (on accesses) 0x2008 8 .atomic = .ok ⟨0x2008, false⟩)
     answer [.load, .store] = true ∧ answer [.load] = false ∧ answer [.store] = false) := by
  decide +kernel

/-- R99: a fetch takes a copy that is in use; FLUSH and RETRY give the copies up. -/
theorem test_code_copy :
    (let s : State := { s0 with code := [⟨0, 0x01000001, false⟩, ⟨0, 0x01000002, true⟩, ⟨0, 0x01000003, true⟩] }
     fetch s = .ok 0x01000002 ∧ fetch { s with code := [] } = .ok 0 ∧
     sat (exec (.FLUSH 0 (.imm 0)) s) (fun t => t.code == []) = true ∧
     sat (exec (.FLUSH 0 (.imm 8)) { s with par := { s.par with flushUsesMmu := true } })
       (fun t => t.code.length == 3) = true ∧
     sat (exec (.FLUSH 0 (.imm 7)) { s with par := { s.par with flushUsesMmu := true } })
       (fun t => t.code == []) = true ∧
     sat (exec .RETRY { s with tl := 1 }) (fun t => t.code == []) = true) := by
  decide +kernel

/-- The other answers to the questions that the spec answers twice: V-SR-11 for SOFTINT bit 0, R76 for PREFETCHA, R82
for a partial store at an address that is 4 modulo 8, R266 for LDDFA, R33 for WRPR %tick in nonprivileged mode. -/
theorem test_other_readings :
    (let s : State := { s0 with par := { s0.par with
       htrapPolicy := .reflect, softintBit0 := true, wrprTickIllegal := some false, partialStdf := false, commitLoadIllegal := true,
       prefetchaNop := false } }
     sat (exec (.WRSOFTINT 0 (.imm 3)) s) (fun t => t.softint == 3) = true ∧
     sat (exec (.PREFETCHA 0 0 (.immAsi 0xE2 0)) s) (fun t => (trapEntry t).tt == 0x014) = true ∧
     sat (exec (.PREFETCHA 0 0 (.immAsi 0x80 0)) s) (fun t => t.pc == 4) = true ∧
     sat (exec (.RDSOFTINT 1) { s with softint := 3 }) (fun t => readR t 1 == 3) = true ∧
     sat (exec (.STPARTIALF 0 1 0 0xC0) (writeR s 1 4)) (fun t => (trapEntry t).tt == 0x034) = true ∧
     sat (exec (.LDDFA 1 0 (.asiReg 8)) { s with asi := 0xE0 }) (fun t => (trapEntry t).tt == 0x010) = true ∧
     sat (step ({ s with pstate := { s.pstate with priv := false } }.withFetchWord 32 0x89902000))
       (fun t => (trapEntry t).tt == 0x011) = true) := by
  decide +kernel

/-- WRPR %tick: illegal_instruction in privileged mode (R33, R299), and in nonprivileged mode where the parameter holds the
order of R299. -/
theorem test_wrpr_tick :
    (let s : State := { s0 with par := { s0.par with htrapPolicy := .reflect } }
     let user : State := { s with
       pstate := { s.pstate with priv := false }
       par := { s.par with wrprTickIllegal := some true } }
     sat (step (s.withFetchWord 32 0x89902000)) (fun t => (trapEntry t).tt == 0x010) = true ∧
     sat (step (user.withFetchWord 32 0x89902000)) (fun t => (trapEntry t).tt == 0x010) = true) := by
  decide +kernel

/-- At reset nothing says which of the two WRPR %tick raises in nonprivileged mode: it is one of them, the same that the
statement names. -/
theorem test_wrpr_tick_open :
    let s : State := { s0 with pstate := { s0.pstate with priv := false } }
    undecodedTrap s 0x89902000 = (if Config.wrprTickOpen then .illegalInstruction else .privilegedOpcode) ∧
      undecodedExc s 0x89902000 = undecodedTrap s 0x89902000 := by
  have key : ∀ b : Bool,
      (if namesWrprTick 0x89902000 && !false && !b then Exc.privilegedOpcode else .illegalInstruction) =
        if b then .illegalInstruction else .privilegedOpcode := by decide
  refine ⟨key _, ?_⟩
  cases h : Config.wrprTickOpen <;>
    simp [undecodedExc, undecodedTrap, namesWrprTick, wrprTickIllegal, s0, State.reset, Config.Params.default, h] <;>
    decide

/-! ## Witnesses

For each statement with hypotheses, states and operands that meet them, one for each of its clauses, at the boundaries
where the clauses have a range.
-/

theorem next_of {o : Out} {p : State → Bool} (h : sat o p = true) : ∃ t, o = .next t ∧ p t = true := by
  cases o <;> simp_all [sat]

/-- PSTATE.tct on an implementation that has it. -/
def tct (s : State) : State :=
  { s with pstate := { s.pstate with tct := true }, par := { s.par with hasTct := true } }

/-- An implementation with quad FPops in hardware. -/
def quad (s : State) : State := { s with par := { s.par with hasQuad := true } }

/-- The policy `reflect`. -/
def reflect (s : State) : State := { s with par := { s.par with htrapPolicy := .reflect } }

/-- A trap level. -/
def level (n : Fin 3) (s : State) : State := { s with tl := n }

/-- PSTATE.am. -/
def masked (s : State) : State := { s with pstate := { s.pstate with am := true } }

/-- PSTATE.pef = 0. -/
def noFpu (s : State) : State := { s with pstate := { s.pstate with pef := false } }

/-- Interrupts enabled and a request of level 1. -/
def requested (s : State) : State := { s with softint := 2, pstate := { s.pstate with ie := true } }

/-- The explicit ASI. -/
def withAsi (asi : BitVec 8) (s : State) : State := { s with asi := asi }

/-- An implementation that leaves the instruction words with a value under a mask to software. -/
def emulating (mask value : Word32) (s : State) : State :=
  { s with par := { s.par with emulated := [⟨mask, value⟩] } }

/-- An implementation that is in nonstandard mode. -/
def nonstd (s : State) : State :=
  { s with fsr := { s.fsr with ns := true }, par := { s.par with hasNsMode := true } }

/-- An implementation that does not finish an operation on singles under a condition. -/
def unfinished (operation : Config.FpOperation) (condition : Config.UnfinishedWhen) (s : State) : State :=
  { s with par := { s.par with unfinishedCases := [⟨operation, 32, 32, condition⟩] } }

/-- An implementation that has an implementation-dependent ASR. -/
def withAsr (n : BitVec 5) (privileged : Bool) (s : State) : State :=
  { s with par := { s.par with implAsrs := [⟨n, privileged⟩] } }

/-- An implementation that has an implementation-dependent ASI. -/
def withImplAsi (asi : BitVec 8) (s : State) : State := { s with par := { s.par with implAsis := [asi] } }

/-- A pending trap whose delay has run out. -/
def due (s : State) : State := { s with trapDelay := some 0 }

/-- The other answer to each question that the spec answers twice (log entries 14, 17, 34, 40 and 41). -/
def otherReadings (s : State) : State :=
  { s with par := { s.par with
      softintBit0 := true, wrprTickIllegal := some false, partialStdf := false, commitLoadIllegal := true,
      prefetchaNop := false } }

/-- CFR. -/
def withCfr (cfr : BitVec 15) (s : State) : State := { s with par := { s.par with cfr := cfr } }

/-- The word at PC. -/
def placed (w : Nat) (s : State) : State := s.withFetchWord 32 w

/-- The two primary contexts map the page at 0x2000 to two places: the spec leaves an access there undefined. -/
def twoMaps : State :=
  let map (context : BitVec 16) (data : Word64) : Config.Mapping :=
    ⟨⟨context ++ (0 : BitVec 48), data⟩, 1, [.fetch, .load, .store]⟩
  { s0 with
    primary := ⟨1, 2⟩
    par := { s0.par with mappings := [map 1 0x80000000000104C0, map 2 0x80000000000204C0] } }

theorem witness_DecodeOfEncode : wellFormed (.ADD 3 1 (.imm 1)) = true ∧ wellFormed .NOP = true := by decide

theorem witness_EncodeOfDecode :
    decode 0x86006001 = some (.ADD 3 1 (.imm 1)) ∧ decode 0x01000000 = some .NOP := by
  decide +kernel

theorem witness_StepRunsDecoded :
    let s := placed 0x01000000 s0
    undefinedMode s = false ∧ pendingTrap s = none ∧ suspended s = false ∧ fetch s = .ok 0x01000000 ∧
      decode 0x01000000 = some .NOP ∧ emulated s.par 0x01000000 = false := by
  decide +kernel

/-- Words that read and write the ASR that is there, one with a nonzero reserved field, and one of no ASR. -/
theorem witness_BoundaryTraps_asr :
    (let par := (withAsr 17 true s0).par
     readsAsr par 0x83444000 ⟨17, true⟩ ∧ writesAsr par 0xA3802000 ⟨17, true⟩ ∧
       (∀ x, ¬readsAsr par 0x83444001 x ∧ ¬writesAsr par 0x83444001 x) ∧
       ∀ x, ¬readsAsr s0.par 0x83444000 x ∧ ¬writesAsr s0.par 0x83444000 x) ∧
    mayUseAsr s0 ⟨17, true⟩ ∧ mayUseAsr (user s0) ⟨17, false⟩ ∧ ¬mayUseAsr (user s0) ⟨17, true⟩ := by
  unfold readsAsr writesAsr
  refine ⟨⟨by decide, by decide, fun x => ⟨?_, ?_⟩, fun x => ⟨?_, ?_⟩⟩, by decide, by decide, by decide⟩
  · rintro ⟨_, _, h, _⟩; revert h; decide
  · rintro ⟨_, h, _⟩; revert h; decide
  · rintro ⟨_, _, _, _, h⟩; exact nomatch h
  · rintro ⟨_, h, _⟩; revert h; decide

/-- A fetch that raises an exception, an undefined word, those of an implementation-dependent ASR
in each mode, WRPR %tick, and instructions left to software: a twin-word load, a twin-word store and POPC. -/
theorem witness_BoundaryTraps_fetch :
    (let s := { s0 with par := { s0.par with watchInsn := [⟨0, 4, true, true⟩] } }
     undefinedMode s = false ∧ pendingTrap s = none ∧ suspended s = false ∧
       fetch s = .error (.trap .instructionVaWatchpoint)) ∧
    (let s := placed 0x00400001 s0
     undefinedMode s = false ∧ pendingTrap s = none ∧ suspended s = false ∧ fetch s = .ok 0x00400001) ∧
    (let s := placed 0x01C00000 s0
     undefinedMode s = false ∧ pendingTrap s = none ∧ suspended s = false ∧ fetch s = .ok 0x01C00000 ∧
       decode 0x01C00000 = none) ∧
    ([(false, s0), (true, s0), (true, user s0)].all fun x =>
      [(0x83444000 : Word32), 0xA3802000, 0x83444001].all fun w =>
        let s := placed w.toNat (withAsr 17 x.1 x.2)
        !undefinedMode s && decide (pendingTrap s = none) && !suspended s && decide (fetch s = .ok w) &&
          decide (decode w = none)) = true ∧
    (let s := { twoMaps with pc := 0x2000 }
     undefinedMode s = false ∧ pendingTrap s = none ∧ suspended s = false ∧
       fetch s = .error (.stuck .multipleTranslations)) ∧
    (let s := placed 0x89902000 (otherReadings (user s0))
     undefinedMode s = false ∧ pendingTrap s = none ∧ suspended s = false ∧ fetch s = .ok 0x89902000 ∧
       decode 0x89902000 = none ∧ undecodedExc s 0x89902000 = .privilegedOpcode ∧
       undecodedExc { s with par := { s.par with wrprTickIllegal := some true } } 0x89902000 = .illegalInstruction ∧
       undecodedExc s0 0x89902000 = .illegalInstruction) ∧
    ([(0xC1F80000, 0xC0180000, 0xC0182000, Instr.LDTW 0 0 (.imm 0)),
      (0xC1F80000, 0xC0980000, 0xC0982000, .LDTWA 0 0 (.asiReg 0)),
      (0xC1F80000, 0xC0380000, 0xC0382000, .STTW 0 0 (.imm 0)),
      (0xC1F80000, 0xC0B80000, 0xC0B82000, .STTWA 0 0 (.asiReg 0)),
      (0xC1F80000, 0x81700000, 0x81702000, .POPC 0 (.imm 0))].all fun x =>
        let s := placed x.2.2.1.toNat (emulating x.1 x.2.1 s0)
        !undefinedMode s && decide (pendingTrap s = none) && !suspended s && decide (fetch s = .ok x.2.2.1) &&
          decide (decode x.2.2.1 = some x.2.2.2) && emulated s.par x.2.2.1) = true := by
  decide +kernel

/-- With a pending interrupt: a trap instruction and WRPR %tl in nonprivileged mode, which go first; NOP and WRPR %tl
in privileged mode, before which the interrupt is taken; an undefined word and one of an implementation-dependent ASR;
and the delay that has not run out and that has not been drawn. With none, a suspended strand. -/
theorem witness_BoundaryTraps_pending :
    (let s := placed 0x91D02005 (due (requested s0))
     undefinedMode s = false ∧ pendingTrap s = some (.interruptLevel 1) ∧ s.trapDelay = some 0 ∧
       fetch s = .ok 0x91D02005 ∧
       decode 0x91D02005 = some (.TA .icc 0 (.imm 5)) ∧ emulated s.par 0x91D02005 = false ∧
       ∃ t, exec (.TA .icc 0 (.imm 5)) (wake s) = .next t ∧ decide (s.tl.val < t.tl.val) = true) ∧
    (let s := placed 0x8F902001 (due (requested (user s0)))
     undefinedMode s = false ∧ pendingTrap s = some (.interruptLevel 1) ∧ s.trapDelay = some 0 ∧
       fetch s = .ok 0x8F902001 ∧
       decode 0x8F902001 = some (.WRPR_TL 0 (.imm 1)) ∧ emulated s.par 0x8F902001 = false ∧
       ∃ t, exec (.WRPR_TL 0 (.imm 1)) (wake s) = .next t ∧
         decide (s.tl.val < t.tl.val ∧ s.pstate.priv = false) = true) ∧
    (let s := placed 0x01000000 (due (requested s0))
     undefinedMode s = false ∧ pendingTrap s = some (.interruptLevel 1) ∧ s.trapDelay = some 0 ∧
       fetch s = .ok 0x01000000 ∧
       decode 0x01000000 = some .NOP ∧ emulated s.par 0x01000000 = false ∧
       ∃ t, exec .NOP (wake s) = .next t ∧ decide (¬s.tl.val < t.tl.val) = true) ∧
    (let s := placed 0x8F902001 (due (requested s0))
     undefinedMode s = false ∧ pendingTrap s = some (.interruptLevel 1) ∧ s.trapDelay = some 0 ∧
       fetch s = .ok 0x8F902001 ∧
       decode 0x8F902001 = some (.WRPR_TL 0 (.imm 1)) ∧ emulated s.par 0x8F902001 = false ∧
       ∃ t, exec (.WRPR_TL 0 (.imm 1)) (wake s) = .next t ∧
         decide (s.tl.val < t.tl.val ∧ s.pstate.priv = true) = true) ∧
    (let s := placed 0x01C00000 (due (requested s0))
     undefinedMode s = false ∧ pendingTrap s = some (.interruptLevel 1) ∧ s.trapDelay = some 0 ∧
       fetch s = .ok 0x01C00000 ∧
       decode 0x01C00000 = none) ∧
    (let s := placed 0xA3802000 (withAsr 17 false (due (requested s0)))
     undefinedMode s = false ∧ pendingTrap s = some (.interruptLevel 1) ∧ s.trapDelay = some 0 ∧
       fetch s = .ok 0xA3802000 ∧
       decode 0xA3802000 = none ∧ writesImplAsr s.par 0xA3802000 = some ⟨17, false⟩) ∧
    (let s := placed 0x81702000 (emulating 0xC1F80000 0x81700000 (due (requested s0)))
     undefinedMode s = false ∧ pendingTrap s = some (.interruptLevel 1) ∧ s.trapDelay = some 0 ∧
       fetch s = .ok 0x81702000 ∧
       decode 0x81702000 = some (.POPC 0 (.imm 0)) ∧ emulated s.par 0x81702000 = true) ∧
    (let s := placed 0x83444000 (withAsr 17 true (due (requested (user s0))))
     undefinedMode s = false ∧ pendingTrap s = some (.interruptLevel 1) ∧ s.trapDelay = some 0 ∧
       fetch s = .ok 0x83444000 ∧ decode 0x83444000 = none ∧ readsImplAsr s.par 0x83444000 = some ⟨17, true⟩) ∧
    (requested s0).trapDelay = none ∧ { requested s0 with trapDelay := some 1 }.trapDelay = some (0 + 1) ∧
    (let s := { s0 with pause := 1 }
     undefinedMode s = false ∧ pendingTrap s = none ∧ suspended s = true) := by
  and_intros <;> first | decide +kernel | exact next_of (by decide +kernel)

/-- A due trap at an instruction that raises an exception itself, and at one that does not. -/
theorem witness_BoundaryTraps_due :
    raisesOwn (wake (placed 0x91D02005 (due (requested s0)))) ∧
      ¬raisesOwn (wake (placed 0x01000000 (due (requested s0)))) := by
  constructor
  · have hf : fetch (wake (placed 0x91D02005 (due (requested s0)))) = .ok 0x91D02005 := by decide +kernel
    have hd : decode 0x91D02005 = some (.TA .icc 0 (.imm 5)) := by decide +kernel
    obtain ⟨t, ht, hl⟩ : ∃ t, exec (.TA .icc 0 (.imm 5)) (wake (placed 0x91D02005 (due (requested s0)))) = .next t ∧
        decide (s0.tl.val < t.tl.val) = true := next_of (by decide +kernel)
    exact .inr (.inr (.inr ⟨_, _, hf, hd, .inr nofun, .inl ⟨t, ht, of_decide_eq_true hl⟩⟩))
  · have hf : fetch (wake (placed 0x01000000 (due (requested s0)))) = .ok 0x01000000 := by decide +kernel
    have hd : decode 0x01000000 = some .NOP := by decide +kernel
    have he : emulated (wake (placed 0x01000000 (due (requested s0)))).par 0x01000000 = false := by decide +kernel
    rintro (⟨e, h⟩ | ⟨w, h, hn, _⟩ | ⟨w, i, h, hi, hw⟩ | ⟨w, i, h, hi, _, ⟨t, ht, hl⟩ | ⟨a, b, c, ht⟩⟩) <;>
      rw [hf] at h <;> cases h
    · rw [hd] at hn; cases hn
    · rw [he] at hw; cases hw
    · rw [hd] at hi; cases hi; cases ht; exact absurd hl (Nat.lt_irrefl _)
    · rw [hd] at hi; cases hi; cases ht

/-- Each clause, with the levels at 1, at 14 from SOFTINT.sm, and at 15, and a level that PIL masks. -/
theorem witness_PendingPriority :
    let on : State := { s0 with pstate := { s0.pstate with ie := true } }
    let q1 : QueueRegs := { s0.queueTail with devMondo := 64, resumable := 64, nonresumable := 64 }
    let q2 : QueueRegs := { s0.queueTail with resumable := 64, nonresumable := 64 }
    let q3 : QueueRegs := { s0.queueTail with nonresumable := 64 }
    (requested s0).pstate.ie = true ∧ s0.pstate.ie = false ∧
      pendingTrap { on with queueTail := { q1 with cpuMondo := 64 } } = some .cpuMondo ∧
      pendingTrap { on with queueTail := q1 } = some .devMondo ∧
      pendingTrap { on with queueTail := q2, softint := 2 } = some (.interruptLevel 1) ∧
      pendingTrap { on with queueTail := q2, softint := 0x10000 } = some (.interruptLevel 14) ∧
      pendingTrap { on with queueTail := q2, softint := 0x1FFFF, pil := 14 } = some (.interruptLevel 15) ∧
      pendingTrap { on with queueTail := q2, softint := 0x1FFFF, pil := 15 } = some .resumableError ∧
      pendingTrap { on with queueTail := q3 } = some .nonresumableError ∧ pendingTrap on = none := by
  decide +kernel

/-- STICK_CMPR reached at once, after a wrap, and not reached; an MWAIT that ends and one that goes on; a queue that is
full and one that is not; stores of another strand to the monitored line, beside it, and at the end of memory; gaps with
events, without, and before a free tick; copies of a word taken, used, and one that is not there. -/
theorem witness_TickEvent :
    let s : State := { s0 with stickCmpr := { intDis := false, cmpr := 1 } }
    let late : State := { s with stick := 0x7FFFFFFFFFFFFFFF }
    let armed : State := { s with mwait := 5, monitor := some 0x2000 }
    let full : State := { s with queueTail := { s.queueTail with cpuMondo := 0xFFC0 } }
    s.par.stickM = 0 ∧ s.par.stickCmprN = 0 ∧ 0 < s.stickCmpr.cmpr.toNat ∧ s.stickCmpr.intDis = false ∧
      (s.stick.toNat + 1) % 2 ^ 63 = s.stickCmpr.cmpr.toNat ∧
      (late.stick.toNat + 2) % 2 ^ 63 = late.stickCmpr.cmpr.toNat ∧
      (applyEvent s (.tick 1 1)).softint = 0x10000 ∧ (applyEvent late (.tick 2 1)).softint = 0x10000 ∧
      (applyEvent late (.tick 1 1)).softint = 0 ∧ (applyEvent s (.tick 0 1)).stick = 1 ∧
      (applyEvent armed (.tick 5 1)).monitor = none ∧ (applyEvent armed (.tick 4 1)).monitor = some 0x2000 ∧
      (applyEvent s (.request 0x7FFF)).softint = 0xFFFE ∧ (applyEvent s (.request 1)).softint = 2 ∧
      (applyEvent full (.enqueue .cpuMondo)).queueTail.cpuMondo = 0xFFC0 ∧
      (applyEvent full (.enqueue .devMondo)).queueTail.devMondo = 64 ∧ s.mem.wf = true ∧
      (applyEvent armed (.remoteStore 0x2038 3 0x0102030405060708)).mwait = 0 ∧
      (applyEvent armed (.remoteStore 0x2040 3 0x0102030405060708)).mwait = 5 ∧
      (applyEvent s (.remoteStore 0x2002 1 0x0102030405060708)).mem = [(0x2002, 7), (0x2003, 8)] ∧
      0xFFFFFFFFFFFFFF % 2 ^ 0 = 0 ∧ 0xFFFFFFFFFFFFFF + 2 ^ 0 ≤ 2 ^ s.par.raBits ∧
      ({ s with env := [[.tick 1 1, .request 1], []] } : State).env = [.tick 1 1, .request 1] :: [[]] ∧
      s.env = [] ∧ s.gap = 0 ∧ 0 < ({ s with gap := 1 } : State).gap ∧
      (applyEvent (bytesAt 0x2000 4 5 s) (.copyCode 0x2000)).code = [⟨0x2000, 5, false⟩] ∧
      (applyEvent { s with code := [⟨0, 1, false⟩] } (.useCode 0 true)).code = [⟨0, 1, true⟩] ∧
      (applyEvent { s with code := [⟨0, 1, false⟩] } (.useCode 1 true)).code = [⟨0, 1, false⟩] := by
  decide +kernel

theorem witness_CanonicalMemoryKept :
    s0.mem.wf = true ∧ ∃ t, step (placed 0x01000000 s0) = .next t ∧ t.mem.wf = true := by
  and_intros <;> first | decide +kernel | exact next_of (by decide +kernel)

theorem witness_AlignedCountersKept :
    countersAligned (placed 0x40000002 s0) ∧ ∃ t, step (placed 0x40000002 s0) = .next t ∧ (t.npc == 8) = true := by
  and_intros <;> first | decide +kernel | rfl | exact next_of (by decide +kernel)

theorem witness_ParametersKept :
    (∃ t, step { placed 0x01000000 s0 with env := [[.tick 1 1, .request 1], []] } = .next t ∧
      decide (t.env = [[]]) = true) ∧
    ∃ t, step (placed 0x01000000 s0) = .next t ∧ decide (t.env = []) = true :=
  ⟨next_of (by decide +kernel), next_of (by decide +kernel)⟩

theorem witness_UserModeIsolation :
    (user s0).pstate.priv = false ∧ (user s0).tl = 0 ∧
      ∃ t, exec (.WRFPRS 0 (.imm 4)) (user s0) = .next t ∧ decide (t.tl = 0) = true := by
  and_intros <;> first | decide +kernel | exact next_of (by decide +kernel)

/-- Traps at TL = 0 and 1, one that the policy reflects, both floating-point exceptions, the window traps at the ends of
their ranges, and the full PC of control_transfer_instruction. -/
theorem witness_TrapEntered :
    (∀ e ∈ [Exc.divisionByZero, .fpIeee .none, .fpOther 6, .cleanWindow, .spill false 0, .spill true 7, .fill false 0,
        .fill true 7, .controlTransfer, .interruptLevel 15],
      e.tt ≠ none ∧ e.alwaysExits = false ∧ e.toHyper = false) ∧
    Exc.cleanWindow.tt = some 0x024 ∧ (Exc.spill false 0).tt = some 0x080 ∧ (Exc.spill true 7).tt = some 0x0BC ∧
    (Exc.fill false 0).tt = some 0x0C0 ∧ (Exc.fill true 7).tt = some 0x0FC ∧ Exc.controlTransfer.tt = some 0x074 ∧
    (level 0 s0).tl.val < 2 ∧ (level 1 s0).tl.val < 2 ∧ (masked s0).pstate.am = true ∧
    (Exc.illegalInstruction.tt = some 0x010 ∧ Exc.illegalInstruction.alwaysExits = false ∧
      Exc.illegalInstruction.toHyper = true ∧ (reflect s0).par.htrapPolicy = .reflect) ∧
    Exc.unnamed.tt = none ∧ (Exc.htrapInstruction 0).alwaysExits = true ∧ (level 2 s0).tl = 2 ∧
    (Exc.illegalInstruction.toHyper = true ∧ s0.par.htrapPolicy = .exit) := by
  decide +kernel

theorem witness_ReturnUndoesTrap :
    (Exc.divisionByZero.tt = some 0x028 ∧
      ∃ t, takeTrap .divisionByZero (at_ 0x100001000 (masked s0)) = .next t ∧ decide (t.tl = 1) = true) ∧
    (Exc.controlTransfer.tt = some 0x074 ∧
      ∃ t, takeTrap .controlTransfer (level 1 (masked s0)) = .next t ∧ decide (t.tl = 2) = true) := by
  and_intros <;> first | decide +kernel | exact next_of (by decide +kernel)

theorem witness_ReturnFromTrap :
    s0.pstate.priv = true ∧ s0.tl = 0 ∧
    (∀ n ∈ [(1 : Fin 3), 2], 0 < (level n s0).tl.val ∧ transfersTrap (tct (level n s0)) = true ∧
      transfersTrap (level n s0) = false ∧ (level n { s0 with npc := 8 }).npc ≠ (level n { s0 with npc := 8 }).pc + 4 ∧
      (level n s0).npc = (level n s0).pc + 4) := by
  decide +kernel

theorem witness_PrivilegedOpcode :
    (user s0).pstate.priv = false ∧ (user s0).tl.val < 2 ∧ (level 1 (user s0)).tl.val < 2 := by
  decide +kernel

theorem witness_FloatUnitChecks :
    (noFpu s0).tl.val < 2 ∧ (level 1 (noFpu s0)).tl.val < 2 ∧ (noFpu s0).pstate.pef = false ∧
    { s0 with par := { s0.par with hasFpu := false } }.par.hasFpu = false ∧
    { s0 with fprs := { s0.fprs with fef := false } }.fprs.fef = false ∧
    s0.par.hasQuad = false ∧ (quad s0).par.hasQuad = true ∧ fpuEnabled (quad s0) = true ∧
    (Prec.q, (1 : BitVec 5)) ∈ [(Prec.q, (2 : BitVec 5)), (.q, 1)] ∧ (1 : BitVec 5).toNat % 2 = 1 ∧
    (readR s0 0 + operand2 s0 (.imm 16 : RegImm 13)).toNat % 16 = 0 ∧ (altAddr s0 0 (.asiReg 32)).toNat % 16 = 0 ∧
    (quad (noFpu s0)).par.hasQuad = true ∧ 16 ≤ (16 : DReg).toNat ∧ (24 : DReg).toNat % 8 = 0 ∧
    (1 : DReg).toNat % 8 ≠ 0 ∧ altAsi s0 (.immAsi 0x80 0) ∉ asiBlock ++ asiCommit ∧
    altAsi (withAsi 0x80 s0) (.asiReg 0) ∉ asiPartial ∧ (3 : BitVec 5).toNat ≤ 3 ∧
    (∀ n : Fin 15, n.val = 2 ∨ bit s0.par.cfr n.val = true) := by
  decide +kernel

theorem witness_RegisterZero : transfersTrap s0 = false ∧ s0.pstate.am = false := by decide +kernel

/-- Register numbers at the ends of the globals, the outs and the locals, another window and another global set. -/
theorem witness_WindowOverlap :
    (8 : Reg).toNat = 8 ∧ (15 : Reg).toNat < 16 ∧ (7 : Reg).toNat < 8 ∧ (16 : Reg).toNat = 16 ∧
    (23 : Reg).toNat < 24 ∧ (31 : Reg) ≠ 16 ∧ (1 : BitVec 3) ≠ s0.cwp ∧ (1 : Fin 3) ≠ s0.gl ∧
    readR { writeR s0 8 5 with cwp := 1 } 24 = 5 ∧ readR { writeR s0 15 5 with cwp := 1 } 31 = 5 ∧
    readR { writeR s0 16 5 with cwp := 1 } 16 = 0 ∧ readR { writeR s0 7 5 with gl := 1 } 7 = 0 ∧
    (0 : BitVec 3) = 7 + 1 ∧ readR { writeR { s0 with cwp := 7 } 15 5 with cwp := 0 } 31 = 5 ∧
    readR { writeR { s0 with cwp := 0 } 24 5 with cwp := 7 } 8 = 5 ∧
    readR { writeR { s0 with cwp := 2 } 8 5 with cwp := 5 } 24 = 0 := by
  decide +kernel

/-- Doubles below and above F_D[32], quads, and singles in both halves of a double. -/
theorem witness_FRegisterViews :
    (15 : DReg).toNat < 16 ∧ (30 : FReg).toNat = 2 * (15 : DReg).toNat ∧ (16 : DReg).toNat % 2 = 0 ∧
    (0 : FReg).toNat / 2 = (0 : DReg).toNat ∧ (31 : FReg).toNat / 2 = (15 : DReg).toNat ∧
    readFD (writeFS (writeFS s0 30 1) 31 2) 15 = 0x0000000100000002 ∧
    readFQ (writeFD (writeFD s0 16 1) 17 2) 16 = 0x00000000000000010000000000000002 := by
  decide +kernel

theorem witness_RegisterImages :
    s0.par.hasFpu = true ∧ { s0.par with hasTct := true }.hasTct = true := by
  decide +kernel

/-- The tag traps: no tag bit and no overflow, a tag bit, an overflow without one. -/
theorem witness_IntegerCodes :
    tagsClear 4 8 = true ∧ (sumCodes 4 8 false).icc.v = false ∧ (diffCodes 4 8 false).icc.v = false ∧
    tagsClear 1 0 = false ∧ tagsClear 0 2 = false ∧ (sumCodes 0x7FFFFFFC 4 false).icc.v = true ∧
    (diffCodes 0x80000000 4 false).icc.v = true := by
  decide +kernel

/-- Divisors whose low word is and is not zero; quotients at the ends of their ranges and just outside. -/
theorem witness_DivideResults :
    lowNat 0x100000000 = 0 ∧ lowNat 1 ≠ 0 ∧
    saturatedQuotient false 0 0xFFFFFFFF 1 = exactQuotient false 0 0xFFFFFFFF 1 ∧
    saturatedQuotient false 1 0 1 ≠ exactQuotient false 1 0 1 ∧
    saturatedQuotient true 0 0x7FFFFFFF 1 = exactQuotient true 0 0x7FFFFFFF 1 ∧
    saturatedQuotient true 0 0x80000000 1 ≠ exactQuotient true 0 0x80000000 1 ∧
    operand2 s0 (.imm 0 : RegImm 13) = 0 ∧ operand2 s0 (.imm 1 : RegImm 13) ≠ 0 := by
  decide +kernel

theorem witness_ConditionalMoves :
    icondTest .a (selectCc s0 .icc) = true ∧ icondTest .n (selectCc s0 .xcc) = false ∧
    fcondTest .a (getFcc s0.fsr 0) = true ∧ fcondTest .n (getFcc s0.fsr 3) = false ∧
    fpuEnabled s0 = true ∧ fpuEnabled (noFpu s0) = false := by
  decide +kernel

/-- IntegerBranches, FloatBranches and CompareBranches: taken and untaken branches, with and without the trap on control
transfer, with and without the FPU. -/
theorem witness_Branches :
    transfersTrap s0 = false ∧ transfersTrap (tct s0) = true ∧ fpuEnabled (tct s0) = true ∧
    fpuEnabled (noFpu s0) = false ∧ s0.ccr.icc.z = false ∧ (withCcr 4 s0).ccr.icc.z = true ∧
    (diffCodes (readR s0 1) (operand2 s0 (.imm 0 : RegImm 5)) false).icc.z = true ∧
    (diffCodes (readR s0 1) (operand2 s0 (.imm 1 : RegImm 5)) false).icc.z = false ∧
    s0.fsr.fcc0 ∈ [(0 : BitVec 2)] ∧ s0.fsr.fcc0 ∉ [(1 : BitVec 2), 2, 3] := by
  decide +kernel

theorem witness_CallJumpReturn :
    transfersTrap s0 = false ∧ transfersTrap (tct s0) = true ∧
    wordAligned (readR s0 1 + operand2 s0 (.imm 8 : RegImm 13)) ∧ ¬wordAligned (readR s0 1 + operand2 s0 (.imm 1 : RegImm 13)) ∧
    ¬wordAligned (readR s0 1 + operand2 s0 (.imm 2 : RegImm 13)) ∧ s0.canrestore = 0 ∧
    (windows 0 5 1 0 7 s0).canrestore ≠ 0 := by
  unfold wordAligned
  decide +kernel

/-- A trap number below, at and above 128, in both modes, at both trap levels that take it. -/
theorem witness_TrapOnCondition :
    transfersTrap s0 = false ∧ transfersTrap (tct s0) = true ∧ s0.pstate.priv = true ∧
    (user s0).pstate.priv = false ∧ 128 ≤ ((readR s0 0).toNat + (128 : BitVec 8).toNat) % 256 ∧
    128 ≤ ((readR s0 0).toNat + (255 : BitVec 8).toNat) % 256 ∧
    ((readR s0 0).toNat + (127 : BitVec 8).toNat) % 256 < 128 ∧ s0.tl.val < 2 ∧ (level 1 s0).tl.val < 2 := by
  decide +kernel

theorem witness_IllegalTrap :
    fetch (placed 0 s0) = .ok 0 ∧ fetch (placed 0x3E000000 s0) = .ok 0x3E000000 ∧ s0.tl.val < 2 ∧
      (reflect s0).par.htrapPolicy = .reflect := by
  decide +kernel

/-- Addresses at the start and the end of the real address space, with and without PSTATE.am. -/
theorem witness_DefaultPlatform :
    plainPlatform s0 ∧ plainPlatform (masked s0) ∧ (0 : Word64).toNat < 2 ^ s0.par.raBits ∧
    2 ^ s0.par.raBits - 1 < 2 ^ 64 ∧ (0xFFFFFFFF00000004 : Word64).toNat % 2 ^ 32 < 2 ^ s0.par.raBits ∧
    (0x2000 : Word64).toNat % 16 = 0 ∧ (maskVa s0 s0.pc).toNat < 2 ^ s0.par.raBits ∧ s0.code = [] ∧
    fetch { s0 with code := [⟨0, 5, false⟩, ⟨4, 6, true⟩, ⟨0, 7, true⟩] } = .ok 7 := by
  unfold plainPlatform
  decide +kernel

theorem witness_MemoryBytes :
    s0.mem.wf = true ∧ (bytesAt 0x2000 8 0x0102030405060708 s0).mem.wf = true ∧
    loadValue (bytesAt 0x2000 8 0x0102030405060708 s0) ⟨0x2000, true⟩ 8 = 0x0807060504030201 := by
  decide +kernel

/-- IntegerLoads and IntegerStores: accesses with the implicit and an explicit ASI that find their place, an exception
of each, and a Load-Monitor ASI. -/
theorem witness_IntegerAccesses :
    s0.mem.wf = true ∧
    (∀ n ∈ [1, 2, 4, 8], ∀ kind ∈ [AccessKind.load, .store],
      placeImplicit s0 0x2000 n kind = .ok ⟨0x2000, false⟩) ∧
    placeImplicit s0 0x2001 2 .load = .error (.trap .memAddressNotAligned) ∧
    placeImplicit s0 0x2001 2 .store = .error (.trap .memAddressNotAligned) ∧
    placeAsi s0 0x88 (asiLoad ++ asiMonitor) 0x2000 8 .load = .ok ⟨0x2000, true⟩ ∧
    placeAsi s0 0x84 (asiLoad ++ asiMonitor) 0x2000 8 .load = .ok ⟨0x2000, false⟩ ∧
    (0x84 : BitVec 8) ∈ asiMonitor ∧ (0x88 : BitVec 8) ∉ asiMonitor ∧ (0x88 : BitVec 8) ∉ asiRegister ∧
    placeAsi (user s0) 0x10 (asiLoad ++ asiMonitor) 0x2000 4 .load = .error (.trap .privilegedAction) ∧
    placeAsi s0 0x80 (storeAsis 8) 0x2000 8 .store = .ok ⟨0x2000, false⟩ ∧
    placeAsi (user s0) 0x10 (storeAsis 1) 0x2000 1 .store = .error (.trap .privilegedAction) ∧
    (∀ asi ∈ [(0x24 : BitVec 8), 0xC6, 0xFF],
      opensAsi (withImplAsi asi s0) (altAsi (withImplAsi asi s0) (.immAsi asi 0))) ∧
    opensAsi (user (withImplAsi 0xC6 s0)) 0xC6 ∧ (altAddr s0 0 (.immAsi 0xC6 0)).toNat % 8 = 0 := by
  decide +kernel

/-- The pairs at both ends, the places of the accesses, an exception of each, and a case that stops the strand. -/
theorem witness_TwinAccesses :
    s0.mem.wf = true ∧ (1 : Reg).toNat % 2 = 1 ∧ (31 : Reg).toNat % 2 = 1 ∧ (0 : Reg).toNat % 2 = 0 ∧
    (30 : Reg).toNat % 2 = 0 ∧ placeImplicit s0 0x2000 8 .load = .ok ⟨0x2000, false⟩ ∧
    placeImplicit s0 0x2000 8 .store = .ok ⟨0x2000, false⟩ ∧
    placeAsi s0 0x88 asiLoad 0x2000 8 .load = .ok ⟨0x2000, true⟩ ∧
    placeAsi s0 0xE2 asiTwin 0x2000 16 .cachedLoad = .ok ⟨0x2000, false⟩ ∧
    placeAsi s0 0x80 (asiStore ++ asiStbi) 0x2000 8 .store = .ok ⟨0x2000, false⟩ ∧
    placeImplicit s0 0x2004 8 .load = .error (.trap .memAddressNotAligned) ∧
    placeAsi s0 0xE2 asiLoad 0x2004 8 .load = .error (.trap .daeInvalidAsi) ∧
    placeAsi (user s0) 0x22 asiTwin 0x2000 16 .cachedLoad = .error (.trap .privilegedAction) ∧
    placeAsi s0 0x82 (asiStore ++ asiStbi) 0x2000 8 .store = .error (.trap .daeInvalidAsi) ∧
    placeImplicit twoMaps 0x2000 8 .store = .error (.stuck .multipleTranslations) ∧
    opensAsi (withImplAsi 0xC6 s0) 0xC6 ∧ (altAddr s0 0 (.immAsi 0xC6 0)).toNat % 8 = 0 := by
  decide +kernel

/-- The places of the atomic accesses, an exception of each kind, and a case that stops the strand; a comparison that
matches and one that does not. -/
theorem witness_AtomicAccesses :
    s0.mem.wf = true ∧ placeImplicit s0 0x2001 1 .atomic = .ok ⟨0x2001, false⟩ ∧
    placeImplicit s0 0x2000 4 .atomic = .ok ⟨0x2000, false⟩ ∧
    placeAsi s0 0x80 asiAtomic 0x2001 1 .atomic = .ok ⟨0x2001, false⟩ ∧
    placeAsi s0 0x88 asiAtomic 0x2000 4 .atomic = .ok ⟨0x2000, true⟩ ∧
    placeAsi (withAsi 0x80 s0) (casAsi (withAsi 0x80 s0) .asiReg) asiAtomic 0x2000 8 .atomic
      = placeAsi s0 0x80 asiAtomic 0x2000 8 .atomic ∧
    placeAsi s0 (casAsi s0 (.imm 0x80)) asiAtomic 0x2000 8 .atomic = .ok ⟨0x2000, false⟩ ∧
    loadValue s0 ⟨0x2000, false⟩ 8 = (readR s0 2).toNat % 256 ^ 8 ∧
    loadValue (bytesAt 0x2000 4 1 s0) ⟨0x2000, false⟩ 4 ≠ (readR s0 2).toNat % 256 ^ 4 ∧
    placeImplicit s0 0x2002 4 .atomic = .error (.trap .memAddressNotAligned) ∧
    placeAsi s0 0x82 asiAtomic 0x2000 8 .atomic = .error (.trap .daeInvalidAsi) ∧
    placeImplicit twoMaps 0x2000 4 .atomic = .error (.stuck .multipleTranslations) ∧
    opensAsi (withImplAsi 0xC6 s0) (casAsi (withImplAsi 0xC6 s0) (.imm 0xC6)) ∧ (readR s0 0).toNat % 8 = 0 := by
  decide +kernel

/-- Every register of the four ASIs, both forms of the address, the first address after each, both modes, a queue offset
at its limit and above it, an ASI that is absent, and addresses that are not aligned. -/
theorem witness_RegisterAsis :
    ([0, 8, 0x10, 0x18, 0x20, 0x38, 0x40, 0x28, 0x30, 0x108, 0x110, 0x118, 0x3B8, 0x3C0, 0x3C8, 0x3D0, 0x3D8, 0x3E0,
      0x3E8, 0x3F0, 0x3F8, 0x400].all fun n =>
        let a := BitVec.ofNat 64 n
        let s := writeR s0 1 a
        s.pstate.priv && (readR s 1 + readR s 0).toNat == n && n % 8 == 0 &&
          (readR s 0 + BitVec.ofInt 64 (BitVec.ofNat 13 n).toInt).toNat == n) = true ∧
    (readR s0 0 + BitVec.ofInt 64 (0x1FF8 : BitVec 13).toInt).toNat % 8 = 0 ∧
    (readR s0 0 + BitVec.ofInt 64 (0x3C1 : BitVec 13).toInt).toNat % 8 ≠ 0 ∧
    s0.par.scratchpad47 = true ∧ { s0.par with scratchpad47 := false }.scratchpad47 = false ∧
    3 < s0.par.picCount ∧ s0.par.picBits = 32 ∧ 8 * { s0.par with picCount := 2 }.picCount ≤ 0x10 ∧
    (readR (writeR s0 3 0xFFC0) 3).toNat ≤ s0.par.queueMaxOffset ∧
    s0.par.queueMaxOffset < (readR (writeR s0 3 0xFFC1) 3).toNat ∧
    s0.par.queueTailWritable = false ∧ { s0.par with queueTailWritable := true }.queueTailWritable = true ∧
    (user s0).pstate.priv = false ∧ s0.par.absentAsis = [] ∧
    (0x25 : BitVec 8) ∈ { s0.par with absentAsis := [0x20, 0x21, 0x25] }.absentAsis := by
  decide +kernel

/-- FLUSH with and without the MMU; functions at the bounds; PREFETCHA with an ASI of each kind, under both readings. -/
theorem witness_BarriersAndPrefetch :
    s0.par.flushUsesMmu = false ∧ { s0.par with flushUsesMmu := true }.flushUsesMmu = true ∧
    locate s0 0x80 .primary 0x2008 ⟨false, false, false⟩ = .ok ⟨0x2008, false⟩ ∧
    locate twoMaps 0x80 .primary 0x2008 ⟨false, false, false⟩ = .error (.stuck .multipleTranslations) ∧
    s0.par.prefetchaNop = true ∧ (otherReadings s0).par.prefetchaNop = false ∧
    asiPrivileged s0 0x82 = false ∧ (0x82 : BitVec 8) ∈ asiPrefetch ∧ asiAbsent s0.par 0x82 false = false ∧
    opensAsi (withImplAsi 0xC6 (otherReadings s0)) 0xC6 ∧ asiPrivileged (user s0) 0x10 = true ∧
    asiPrivileged s0 0xE2 = false ∧ (0xE2 : BitVec 8) ∉ asiPrefetch ∧ ¬opensAsi (otherReadings s0) 0xE2 ∧
    (4 : BitVec 5).toNat < 5 ∧ 16 ≤ (16 : BitVec 5).toNat ∧
    5 ≤ (5 : BitVec 5).toNat ∧ (15 : BitVec 5).toNat < 16 := by
  decide +kernel

/-- Addresses that are off by each amount, ASIs of every group, registers a block and a quad can and cannot use. -/
theorem witness_MisalignedAccesses :
    (0x2007 : Word64).toNat % 8 ≠ 0 ∧ (0x2001 : Word64).toNat % 2 ≠ 0 ∧ (0x2002 : Word64).toNat % 4 ≠ 0 ∧
    (0x2004 : Word64).toNat % 8 = 4 ∧ (0x2004 : Word64).toNat % 4 = 0 ∧ (0x200C : Word64).toNat % 16 ≠ 0 ∧
    (0x2008 : Word64).toNat % 64 ≠ 0 ∧ readR s0 0 + operand2 s0 (.imm 12 : RegImm 13) = 12 ∧
    fpuEnabled s0 = true ∧ fpuEnabled (quad s0) = true ∧ (quad s0).par.hasQuad = true ∧ (2 : Reg).toNat % 2 = 0 ∧
    (3 : DReg).toNat % 2 = 1 ∧ (8 : DReg).toNat % 8 = 0 ∧ casAsi s0 (.imm 0x80) ∉ asiRestrictedUse ∧
    (readR (writeR s0 1 0x2002) 1).toNat % 4 ≠ 0 ∧ (readR (writeR s0 1 0x2004) 1).toNat % 8 = 4 ∧
    altAsi s0 (.immAsi 0x80 2) ∉ asiRestrictedUse ∧ (altAddr (writeR s0 1 0x2001) 1 (.immAsi 0x80 2)).toNat % 4 ≠ 0 ∧
    altAsi (withAsi 0xE0 s0) (.asiReg 4) ∈ asiCommit ∧ altAsi s0 (.immAsi 0xC0 2) ∈ asiPartial ∧
    (altAddr s0 1 (.asiReg 4)).toNat % 8 = 4 ∧ altAsi (withAsi 0xF0 s0) (.asiReg 4) ∈ asiBlock ∧
    altAsi (withAsi 0xD2 s0) (.asiReg 1) ∈ [(0xD2 : BitVec 8), 0xD3, 0xDA, 0xDB] ∧
    (0xE2 : BitVec 8) ∈ asiTwin ∧ (0x16 : BitVec 8) ∈ asiBlock ∧ (0xE1 : BitVec 8) ∈ asiCommit ∧
    (asiRestrictedUse.all fun a => !asiPrivileged s0 a) = true ∧ s0.par.watchData = [] ∧ s0.par.watchOther = false ∧
    s0.par.partialStdf = true ∧ (otherReadings s0).par.partialStdf = false ∧
    s0.par.commitLoadIllegal = false ∧ (otherReadings s0).par.commitLoadIllegal = true ∧
    (asiRestrictedUse.all fun a => asiPrivileged (user s0) a == !bit a 7) = true := by
  decide +kernel

/-- FloatLoads and FloatStores: accesses of each width that find their place, and some that raise an exception or stop
the strand. -/
theorem witness_FloatAccesses :
    fpuEnabled s0 = true ∧ fpuEnabled (quad s0) = true ∧ s0.mem.wf = true ∧ (quad s0).par.hasQuad = true ∧
    (2 : DReg).toNat % 2 = 0 ∧ aligned 0x2000 16 = true ∧ (0xE0 : BitVec 8) ∈ asiCommit ∧ (9 : DReg).toNat % 8 ≠ 0 ∧
    s0.par.commitLoadIllegal = false ∧ (otherReadings s0).par.commitLoadIllegal = true ∧
    (let s := quad (withImplAsi 0xC6 s0)
     opensAsi s (altAsi s (.immAsi 0xC6 0)) ∧ (altAddr s 0 (.immAsi 0xC6 0)).toNat % 16 = 0) ∧
    (∀ n ∈ [4, 8, 16], ∀ kind ∈ [AccessKind.load, .store],
      placeImplicit (quad s0) 0x2000 n kind = .ok ⟨0x2000, false⟩ ∧
      placeAsi (quad s0) 0x88 asiLoad 0x2000 n kind = .ok ⟨0x2000, true⟩ ∧
      placeAsi (quad s0) 0x88 asiStore 0x2000 n kind = .ok ⟨0x2000, true⟩ ∧
      placeAsi (quad s0) 0x88 (asiStore ++ asiStbi) 0x2000 n kind = .ok ⟨0x2000, true⟩) ∧
    (0x88 : BitVec 8) ∈ asiLoad ∧ (0x88 : BitVec 8) ∈ asiStore ∧
    placeImplicit s0 0x2002 4 .load = .error (.trap .memAddressNotAligned) ∧
    placeImplicit twoMaps 0x2000 8 .store = .error (.stuck .multipleTranslations) ∧
    accessImplicit twoMaps 0x2000 16 .load = .error (.stuck .multipleTranslations) ∧
    accessAsi s0 0xC0 asiLoad 0x2000 8 .load = .error (.trap .daeInvalidAsi) ∧
    accessAsi s0 0x82 asiStore 0x2000 8 .store = .error (.trap .daeInvalidAsi) ∧
    accessAsi (user s0) 0x14 (asiStore ++ asiStbi) 0x2000 16 .store = .error (.trap .privilegedAction) ∧
    (0xE0 : BitVec 8) ∈ asiCommit ∧ (0xE0 : BitVec 8) ∉ asiBlock ++ asiShort ∧ (1 : DReg).toNat % 8 ≠ 0 := by
  decide +kernel

/-- Block, short and partial accesses that find their place, and a register number that no block has. -/
theorem witness_SpecialFloatAccesses :
    fpuEnabled s0 = true ∧ s0.mem.wf = true ∧ (0 : DReg).toNat % 8 = 0 ∧ (24 : DReg).toNat % 8 = 0 ∧
    (7 : DReg).toNat % 8 ≠ 0 ∧ (1 : DReg).toNat % 8 ≠ 0 ∧
    placeAsi s0 0xF0 asiBlock 0x2000 64 .cachedLoad = .ok ⟨0x2000, false⟩ ∧
    (withAsi 0xF0 s0).asi ∈ asiBlock ∧
    placeAsi (withAsi 0xF0 s0) 0xF0 asiBlock 0x2000 64 .cachedLoad = .ok ⟨0x2000, false⟩ ∧
    placeAsi s0 0xE0 (asiBlock ++ asiCommit) 0x2000 64 .store = .ok ⟨0x2000, false⟩ ∧
    (withAsi 0xE0 s0).asi ∈ asiBlock ++ asiCommit ∧
    placeAsi (withAsi 0xE0 s0) 0xE0 (asiBlock ++ asiCommit) 0x2000 64 .store = .ok ⟨0x2000, false⟩ ∧
    (0xD0 : BitVec 8) ∈ asiShort ∧ (0xDB : BitVec 8) ∈ asiShort ∧
    placeAsi s0 0xD0 asiShort 0x2001 1 .load = .ok ⟨0x2001, false⟩ ∧
    placeAsi s0 0xDB asiShort 0x2002 2 .store = .ok ⟨0x2002, true⟩ ∧
    (0xC0 : BitVec 8) ∈ asiPartial ∧ (0xCD : BitVec 8) ∈ asiPartial ∧
    aligned (readR (writeR s0 1 0x2000) 1) 8 = true ∧
    accessAsi s0 0xC0 asiPartial 0x2000 8 .cachedStore = .ok ⟨0x2000, false⟩ ∧
    (withAsi 0xD0 s0).asi ∈ asiShort ∧ (withAsi 0xC5 s0).asi ∈ asiPartial ∧
    placeAsi s0 0xF0 asiBlock 0x2008 64 .cachedLoad = .error (.trap .memAddressNotAligned) ∧
    placeAsi (user s0) 0x16 (asiBlock ++ asiCommit) 0x2000 64 .store = .error (.trap .privilegedAction) ∧
    placeAsi s0 0xD2 asiShort 0x2001 2 .load = .error (.trap .memAddressNotAligned) ∧
    placeAsi twoMaps 0xD0 asiShort 0x2000 1 .store = .error (.stuck .multipleTranslations) ∧
    accessAsi twoMaps 0xC0 asiPartial 0x2000 8 .cachedStore = .error (.stuck .multipleTranslations) := by
  decide +kernel

/-- Window states of each clause; a state that keeps the relation and a SAVE that completes in it. -/
theorem witness_SaveRestore :
    (windows 0 0 6 0 7 s0).cansave = 0 ∧ (windows 0 4 2 0 2 s0).cansave ≠ 0 ∧
    (windows 0 4 2 0 2 s0).cleanwin = (windows 0 4 2 0 2 s0).canrestore ∧
    (windows 0 6 0 0 7 s0).cansave = 6 ∧ (windows 0 6 0 0 7 s0).canrestore = 0 ∧
    (windows 0 5 1 0 7 s0).canrestore ≠ 0 ∧ (windows 0 5 1 0 7 s0).cleanwin ≠ (windows 0 5 1 0 7 s0).canrestore ∧
    (windows 0 5 1 0 7 s0).cansave ≠ 6 ∧ windowsConsistent (windows 0 5 1 0 7 s0) ∧
    ∃ t, exec (.SAVE 1 2 (.imm 0)) (windows 0 5 1 0 7 s0) = .next t ∧ decide (t.cwp = 1) = true := by
  and_intros <;> first | decide +kernel | rfl | exact next_of (by decide +kernel)

theorem witness_WindowMarks :
    fetch (placed 0x85880000 s0) = .ok ((0b10 : BitVec 2) ++ (0b00010 : BitVec 5) ++ (0b110001 : BitVec 6) ++
      (0 : BitVec 19)) ∧
    fetch (placed 0x85880001 s0) = .ok ((0b10 : BitVec 2) ++ (0b00010 : BitVec 5) ++ (0b110001 : BitVec 6) ++
      (1 : BitVec 19)) ∧
    fetch (placed 0x8B880000 s0) = .ok ((0b10 : BitVec 2) ++ (0b00101 : BitVec 5) ++ (0b110001 : BitVec 6) ++
      (0 : BitVec 19)) ∧
    fetch (placed 0x8B8FFFFF s0) = .ok ((0b10 : BitVec 2) ++ (0b00101 : BitVec 5) ++ (0b110001 : BitVec 6) ++
      (0x7FFFF : BitVec 19)) ∧
    emulated (placed 0x85880000 s0).par 0x85880000 = false ∧ emulated (placed 0x8B8FFFFF s0).par 0x8B8FFFFF = false ∧
    (placed 0x85880000 s0).pstate.priv = true ∧ (placed 0x85880000 (user s0)).pstate.priv = false := by
  decide +kernel

/-- Window states at the limits of SAVED and RESTORED, defined and undefined. -/
theorem witness_WindowTransfers :
    s0.pstate.priv = true ∧
    (∀ s ∈ [windows 0 5 1 0 7 s0, windows 0 0 6 0 7 s0],
      s.cansave.toNat < 6 ∧ s.otherwin = 0 ∧ s.canrestore ≠ 0) ∧
    (∀ s ∈ [windows 0 5 0 1 7 s0, windows 0 0 0 6 7 s0], s.cansave.toNat < 6 ∧ s.otherwin ≠ 0) ∧
    6 ≤ (windows 0 6 0 0 7 s0).cansave.toNat ∧
    ((windows 0 0 0 0 7 s0).otherwin = 0 ∧ (windows 0 0 0 0 7 s0).canrestore = 0) ∧
    (∀ s ∈ [windows 0 1 5 0 7 s0, windows 0 6 0 0 6 s0],
      s.canrestore.toNat < 6 ∧ s.otherwin = 0 ∧ s.cansave ≠ 0) ∧
    (windows 0 0 5 1 7 s0).otherwin ≠ 0 ∧ 6 ≤ (windows 0 0 6 0 7 s0).canrestore.toNat ∧
    ((windows 0 0 5 0 7 s0).otherwin = 0 ∧ (windows 0 0 5 0 7 s0).cansave = 0) := by
  decide +kernel

/-- StateRegisterReads and StateRegisterWrites: both modes, the three trap levels, a counter that a mode may not read,
and MWAIT with and without a monitor and a count. -/
theorem witness_StateRegisters :
    s0.pstate.priv = true ∧ s0.tl = 0 ∧ (level 1 s0).tl = 1 ∧ (level 2 s0).tl = 2 ∧ fpuEnabled s0 = true ∧
    s0.par.softintBit0 = false ∧ (otherReadings s0).par.softintBit0 = true ∧
    { s0.par with tickNpt := true }.tickNpt = true ∧ s0.par.tickPrivDis = false ∧
    { s0.par with tickPrivDis := true }.tickPrivDis = true ∧ s0.par.stickPrivDis = false ∧
    s0.monitor = none ∧ { s0 with monitor := some 0 }.monitor ≠ none ∧
    min (1 : Word64).toNat (2 ^ s0.par.mwaitBits - 1) ≠ 0 ∧ min (0 : Word64).toNat (2 ^ s0.par.mwaitBits - 1) = 0 := by
  decide +kernel

/-- Conditions that hold and fail, and registers that quad FPops can and cannot use. -/
theorem witness_FloatMoves :
    fpuEnabled (quad s0) = true ∧ quadUsable (quad s0) [(.q, 2), (.q, 30)] = true ∧
    fcondTest .a (getFcc s0.fsr 0) = true ∧ fcondTest .n (getFcc s0.fsr 0) = false ∧
    icondTest .a (selectCc s0 .icc) = true ∧ icondTest .n (selectCc s0 .icc) = false := by
  decide +kernel

/-- Results with and without an exception that FSR.tem enables; a subnormal operand and a subnormal result that are not
finished, and cases that are; nonstandard mode with a subnormal source and in effect or not; an exact value below the
smallest normal number, (2 ^ 30 - 1) · 2 ^ -156, that rounds up to it. -/
theorem witness_FloatArithmetic :
    fpuEnabled (quad s0) = true ∧ quadUsable (quad s0) [(.q, 2), (.q, 30)] = true ∧
    quadUsable s0 [(.s, 1), (.d, 2)] = true ∧ (15 : DReg).toNat < 16 ∧
    (let r := quotientResult Prec.s.format 0 (Prec.s.value (writeFS s0 0 0x3F800000) 0) (Prec.s.value s0 1)
     trappedFlag (r.cexc s0.fsr.tem) s0.fsr.tem = none ∧
     trappedFlag (r.cexc (.ofBits 0x1F)) (.ofBits 0x1F) ≠ none) ∧
    Prec.s.value (writeFS s0 0 0x80000001) 0 = .fin true 1 (-149) ∧
    (productResult .single 0 false (.fin false 1 (-149)) (.fin false 1 0)).tiny = true ∧
    (let r := convertResult .single 0 (.fin false (2 ^ 30 - 1) (-156))
     r.tiny = true ∧ r.bits = 0x00800000) ∧
    s0.par.unfinishedCases = [] ∧ (unfinished .add .subnormalOperand s0).par.unfinishedCases ≠ [] ∧
    s0.par.hasNsMode = false ∧ nonstandard (nonstd s0) = true ∧
    ({ nonstd s0 with gsr := { s0.gsr with im := true } } : State).gsr.im = true := by
  decide +kernel

/-- The subnormal operand of `witness_FloatArithmetic`, in the terms of the statement. -/
theorem witness_FloatArithmetic_unfinished :
    subnormalValue .s (.fin true 1 (-149)) ∧
      isUnfinished (unfinished .add .subnormalOperand s0) (some .add) .s .s [1, 0] True False ∧
      isUnfinished (unfinished .multiply .subnormalResult s0) (some .multiply) .s .s [1, 0] False True ∧
      ¬isUnfinished s0 (some .add) .s .s [1, 0] True True ∧
      ¬isUnfinished (unfinished .add .subnormalOperand s0) none .s .s [1, 0] True True ∧
      ¬isUnfinished (unfinished .add .subnormalOperand s0) (some .add) .d .d [1, 0] True True := by
  refine ⟨⟨true, 1, -149, rfl, by decide, by decide⟩, ⟨⟨.add, 32, 32, .subnormalOperand⟩, ?_⟩,
    ⟨⟨.multiply, 32, 32, .subnormalResult⟩, ?_⟩, ?_, ?_, ?_⟩
  · simp [unfinished, Prec.width]
  · simp [unfinished, Prec.width]
  · simp [isUnfinished, State.reset, Config.Params.default]
  · simp [isUnfinished, unfinished]
  · simp [isUnfinished, unfinished, Prec.width]

/-- Operands that each rounding clause asks for: no exact result is 0, the divisor is not, and the square is positive.
-/
theorem witness_FloatArithmetic_rounding :
    let x := FpValue.fin false 1 0
    x.real = 1 ∧ (x.real + x.real) * (2 : ℝ) ^ (-1 : ℤ) ≠ 0 ∧ x.real * x.real + x.real ≠ 0 := by
  refine ⟨?_, ?_, ?_⟩ <;> norm_num [FpValue.real]

/-- Comparisons that are invalid and not, enabled and not. -/
theorem witness_FloatCompares :
    fpuEnabled s0 = true ∧ quadUsable s0 [(.d, 0), (.d, 1)] = true ∧ quadUsable (quad s0) [(.q, 0), (.q, 2)] = true ∧
    (Prec.s.value (writeFS s0 0 0x7FA00000) 0).isSignalling = true ∧
    (Prec.s.value (writeFS s0 0 0x3F800000) 0).isSignalling = false ∧ s0.fsr.tem.nv = false ∧
    (IeeeFlags.ofBits 0x10).nv = true ∧ s0.par.hasNsMode = false ∧ nonstandard (nonstd s0) = true ∧
    (IeeeFlags.ofBits 0x01).nx = true := by
  decide +kernel

/-- LaneInstructions and VisResults: the FPU is on, and the first and last lanes of the widths. -/
theorem witness_Vis : fpuEnabled s0 = true ∧ (0 < 64 / 8) ∧ (7 < 64 / 8) ∧ (31 < 32 / 1) := by decide +kernel

/-- Array operands at the limit, addresses of EDGE in one and in two doublewords. -/
theorem witness_EdgesAndArrays :
    (readR (writeR s0 2 5) 2).toNat ≤ 5 ∧ 5 < (readR (writeR s0 2 6) 2).toNat ∧
    (0x1003 / 8 = 0x1005 / 8) ∧ (0x1003 / 8 ≠ 0x2005 / 8) ∧ s0.pstate.am = false ∧ (masked s0).pstate.am = true := by
  decide +kernel

/-- CFR bits that are set and clear, those of the hash instructions among them, and DES_KEXPAND functions at the
limit. -/
theorem witness_CryptoResults :
    (∀ n ∈ [0, 1, 3, 4, 5, 6, 7, 11], bit s0.par.cfr n = true) ∧
    s0.par.crc32cFn = .iscsi ∧ { s0.par with crc32cFn := .other }.crc32cFn = .other ∧
    (∀ n ∈ [0, 4, 5, 6, 7], bit (withCfr 0 s0).par.cfr n = false) ∧ fpuEnabled s0 = true ∧ fpuEnabled (noFpu s0) = false ∧
    3 < (4 : BitVec 5).toNat ∧ 3 < (31 : BitVec 5).toNat := by
  decide +kernel

theorem witness_WideMultiply :
    fpuEnabled s0 = true ∧ bit s0.par.cfr 8 = true ∧ bit s0.par.cfr 12 = true ∧
    (windows 0 0 6 0 7 s0).canrestore = 6 ∧ (windows 0 1 5 0 7 s0).canrestore ≠ 6 ∧
    bit (withCfr 0 s0).par.cfr 8 = false ∧ fpuEnabled (noFpu s0) = false := by
  decide +kernel

theorem witness_MontgomeryProducts :
    fpuEnabled s0 = true ∧ (windows 0 0 6 0 7 s0).canrestore = 6 ∧
    (∀ n ∈ [9, 10, 13, 14], bit s0.par.cfr n = true ∧ bit (withCfr 0 s0).par.cfr n = false) ∧
    (windows 0 1 5 0 7 s0).canrestore ≠ 6 ∧ fpuEnabled (noFpu s0) = false := by
  decide +kernel


end Sys2Proof.Tests
end

section
/-!
PROOF. R[0] and the link register of CALL (R12).
-/

namespace Sys2Proof.Machine

open Sys2Proof

/-! ## Sums, differences and the rows of integer arithmetic -/

/-- A carry that the model widens from one bit is the number 0 or 1. -/
theorem setWidth_flag (b : Bool) : (flag b).setWidth 64 = one b := by cases b <;> rfl

theorem addSum_eq (a b : Word64) (cin : Bool) : addSum a b cin = a + b + one cin := by
  unfold addSum; rw [setWidth_flag]

theorem subDiff_eq (a b : Word64) (cin : Bool) : subDiff a b cin = a - b - one cin := by
  unfold subDiff; rw [setWidth_flag]

@[simp] theorem addSum_false (a b : Word64) : addSum a b false = a + b := by
  rw [addSum_eq]; exact BitVec.add_zero _

@[simp] theorem subDiff_false (a b : Word64) : subDiff a b false = a - b := by
  rw [subDiff_eq]; exact BitVec.sub_zero _

/-- Each arithmetic or logical instruction without condition codes writes the value of its row and advances. The model
computes the sums and differences with a carry in, which is 0 for ADD and SUB. -/
theorem exec_intRows (rd rs1 : Reg) (op2 : RegImm 13) (s : State) :
    ∀ r ∈ intRows, exec (r.1 rd rs1 op2) s = result s rd (r.2 s (readR s rs1) (operand2 s op2)) := by
  simp only [intRows, List.forall_mem_cons]
  refine ⟨?ADD, ?ADDC, ?SUB, ?SUBC, ?MULX, ?AND, ?OR, ?XOR, ?ANDN, ?ORN, ?XNOR, nofun⟩
  case ADD => exact congrArg (result s rd) (addSum_false ..)
  case ADDC => exact congrArg (result s rd) (addSum_eq ..)
  case SUB => exact congrArg (result s rd) (subDiff_false ..)
  case SUBC => exact congrArg (result s rd) (subDiff_eq ..)
  all_goals rfl

/-- A result whose destination is R[0] is dropped: the instruction advances and does nothing else. -/
theorem result_zero (s : State) (v : Word64) : result s 0 v = .next (advance s) := by
  have hdrop : writeR s 0 v = s := writeR_zero s v
  rw [result_eq, hdrop]

/-! ## CALL -/

/-- CALL transfers with a delay and links through R[15], or traps under PSTATE.tct (R203, R208). -/
theorem exec_CALL (disp : BitVec 30) (s : State) :
    exec (.CALL disp) s =
      if transfersTrap s then takeTrap .controlTransfer s
      else .next (jumpDelayed (writeR s 15 (linkValue s)) (branchTarget s disp)) := by
  change execCALL disp s = _
  unfold execCALL needNoTct transfersTrap
  rw [finish_require]
  cases s.par.hasTct && s.pstate.tct <;> rfl

/-- With PSTATE.am = 0 the link is the whole address of the instruction (R59, R208). -/
theorem linkValue_of_am_false {s : State} (h : s.pstate.am = false) : linkValue s = s.pc := by
  unfold linkValue; rw [h]; rfl

/-- A CALL that does not trap leaves the link in R[15]. -/
theorem exec_CALL_links {s : State} (h : transfersTrap s = false) (disp : BitVec 30) :
    ∃ t, exec (.CALL disp) s = .next t ∧ readR t 15 = linkValue s := by
  refine ⟨jumpDelayed (writeR s 15 (linkValue s)) (branchTarget s disp), ?_, ?_⟩
  · rw [exec_CALL, h]; rfl
  · rw [readR_jumpDelayed, readR_writeR_same s (by decide)]

/-! ## The obligation -/

/-- Settles O18: a write to R[0] is dropped, so an instruction whose destination is R[0] only advances; CALL links
through R[15]. -/
theorem registerZero : Obligations.RegisterZero := by
  unfold Obligations.RegisterZero
  refine ⟨fun s gl cwp => readR_zero _, writeR_zero, ?_, ?_⟩
  · intro s rs1 op2 r hr
    rw [exec_intRows 0 rs1 op2 s r hr, result_zero]
  · intro s disp htct ham
    obtain ⟨t, hexec, hlink⟩ := exec_CALL_links htct disp
    exact ⟨t, hexec, hlink.trans (linkValue_of_am_false ham)⟩

end Sys2Proof.Machine
end

section
/-!
PROOF. NOP, the SETHI with rd = 0 and imm22 = 0 (R158).
-/

namespace Sys2Proof.Machine

open Sys2Proof

/-! ## SETHI and NOP -/

/-- The words of op = 00 with op2 = 100 are NOP for the one word of R158 and SETHI for every other (R118, R166). -/
theorem decode_of_op2_four {w : Word32} (hop : field w 30 2 = 0) (hop2 : field w 22 3 = 4) :
    decode w = if w = 0x01000000 then some .NOP else some (.SETHI (rdF w) (field w 0 22)) := by
  unfold decode; rw [hop]
  change decodeBranch w = _
  unfold decodeBranch; rw [hop2]
  rfl

/-- NOP is in the format of SETHI, with both of its fields 0. -/
theorem encode_SETHI_zero : encode (.SETHI 0 0) = encode .NOP := rfl

/-- Every SETHI to R[0] only advances, whatever its constant (R166). -/
theorem exec_SETHI_zero (imm22 : BitVec 22) (s : State) : exec (.SETHI 0 imm22) s = .next (advance s) := by
  change execSETHI 0 imm22 s = _
  unfold execSETHI
  exact result_zero s _

/-- Settles O27: of the words in the format of SETHI the decoder singles out the one of NOP, and a SETHI to R[0] is a
dropped write, so both forms only advance. -/
theorem nopAdvances : Obligations.NopAdvances := by
  unfold Obligations.NopAdvances
  refine ⟨?word, ?decoded, encode_SETHI_zero, fun s => ⟨?nop, exec_SETHI_zero 0 s⟩⟩
  case word => decide
  case decoded => rw [decode_of_op2_four (by decide) (by decide), if_pos rfl]
  case nop => rfl

end Sys2Proof.Machine
end


section
/-!
PROOF. Entering a trap and returning from it: DONE and RETRY (R209, R215, R458, R459).
-/

namespace Sys2Proof.Machine

open Sys2Proof

/-! ## Values -/

/-- A 64-bit word with its upper half cleared is its value modulo 2^32 (R59). -/
theorem low32_eq (x : Word64) : low32 x = BitVec.ofNat 64 (x.toNat % 2 ^ 32) := by
  apply BitVec.eq_of_toNat_eq
  simp [low32, zext64, field]

/-- A word that is cleared to its lower half under a test of the model, with the test read as a proposition. -/
theorem ite_low32 {b : Bool} {p : Prop} [Decidable p] (h : b = true ↔ p) (v : Word64) :
    (if b then low32 v else v) = if p then BitVec.ofNat 64 (v.toNat % 2 ^ 32) else v := by
  simp only [h, low32_eq]

theorem saturate2_val (v : BitVec 3) : (saturate2 v).val = min 2 v.toNat := by revert v; decide

/-- A global level survives being saved in TSTATE.gl (R55, R62). -/
theorem saturate2_ofNat (n : Fin 3) : saturate2 (BitVec.ofNat 3 n.val) = n := by revert n; decide

/-- A window number survives being saved in TSTATE.cwp (R55). -/
theorem setWidth_cwp (x : BitVec 3) : (x.setWidth 5).setWidth 3 = x := by revert x; decide

/-! ## Taking a trap -/

/-- When a trap is delivered to the privileged trap table (R456, R458). -/
theorem takeTrap_delivered {e : Exc} {tt : BitVec 9} {s : State} (htt : e.tt = some tt)
    (hexit : e.alwaysExits = false) (htl : s.tl.val < 2) (hpolicy : e.toHyper = true → s.par.htrapPolicy = .reflect) :
    takeTrap e s = .next (enterTrap { s with fsr := e.recordFsr s.fsr } tt) := by
  have htop : s.tl.val ≠ Config.maxPtl := Nat.ne_of_lt htl
  rw [takeTrap_eq, htt]
  simp only [hexit, htop, decide_false, Bool.false_or]
  refine if_neg fun hstop => ?_
  obtain ⟨hhyper, hpol⟩ : e.toHyper = true ∧ s.par.htrapPolicy = .exit := by simpa using hstop
  rw [hpolicy hhyper] at hpol
  cases hpol

/-- The handler runs with what the trap saved on top of the trap stack (R458). -/
theorem trapEntry_enterTrap (s : State) (tt : BitVec 9) : trapEntry (enterTrap s tt) = savedEntry s tt := by
  by_cases h : s.tl.val = 0
  · simp [trapEntry, enterTrap, h]
  · simp [trapEntry, enterTrap, h]

/-- The handler runs at a trap level (R458). -/
theorem enterTrap_tl_pos (s : State) (tt : BitVec 9) : 0 < (enterTrap s tt).tl.val := by
  unfold enterTrap; dsimp only; split <;> decide

/-- Leaving the handler's trap level leads back to the one the trap was taken at. -/
theorem enterTrap_tl_back {s : State} (htl : s.tl.val < 2) (tt : BitVec 9) :
    (if (enterTrap s tt).tl.val = 2 then 1 else 0 : Fin 3) = s.tl := by
  apply Fin.ext
  by_cases h : s.tl.val = 0
  · simp [enterTrap, h]
  · have hone : s.tl.val = 1 := by omega
    simp [enterTrap, hone]

/-! ## DONE and RETRY -/

theorem exec_DONE (s : State) :
    exec .DONE s =
      finish s (do returnChecks s; .ok (returnTo s (trapEntry s).tnpc ((trapEntry s).tnpc + 4))) := rfl

theorem exec_RETRY (s : State) :
    exec .RETRY s = finish s (do returnChecks s; .ok (returnTo s (trapEntry s).tpc (trapEntry s).tnpc)) := rfl

section

variable {s : State} (t : State)

theorem finish_returnChecks_tlZero (hpriv : s.pstate.priv = true) (htl : s.tl = 0) :
    finish s (do returnChecks s; .ok t) = takeTrap .illegalInstruction s := by
  rw [finish_returnChecks, if_pos hpriv, if_neg (by simp [htl])]

theorem finish_returnChecks_transfersTrap (hpriv : s.pstate.priv = true) (htl : 0 < s.tl.val)
    (htct : transfersTrap s = true) : finish s (do returnChecks s; .ok t) = takeTrap .controlTransfer s := by
  rw [finish_returnChecks, if_pos hpriv, if_pos htl]
  exact if_pos htct

theorem finish_returnChecks_delaySlot (hpriv : s.pstate.priv = true) (htl : 0 < s.tl.val)
    (htct : transfersTrap s = false) (hnpc : s.npc ≠ s.pc + 4) :
    finish s (do returnChecks s; .ok t) = .fault .returnInDelaySlot := by
  unfold transfersTrap at htct
  rw [finish_returnChecks, if_pos hpriv, if_pos htl, if_neg (Bool.eq_false_iff.mp htct), if_neg hnpc]

theorem finish_returnChecks_completes (hpriv : s.pstate.priv = true) (htl : 0 < s.tl.val)
    (htct : transfersTrap s = false) (hnpc : s.npc = s.pc + 4) :
    finish s (do returnChecks s; .ok t) = .next t := by
  unfold transfersTrap at htct
  rw [finish_returnChecks, if_pos hpriv, if_pos htl, if_neg (Bool.eq_false_iff.mp htct), if_pos hnpc]

end

/-- At the start of the handler DONE and RETRY pass every check: it is privileged, at a trap level, without PSTATE.tct
and in no delay slot (R458). -/
theorem finish_returnChecks_enterTrap (s t : State) (tt : BitVec 9) :
    finish (enterTrap s tt) (do returnChecks (enterTrap s tt); .ok t) = .next t :=
  finish_returnChecks_completes t rfl (enterTrap_tl_pos s tt) (Bool.and_false _) rfl

section

variable (s : State) (pc npc : Word64)

theorem returnTo_gl_val : (returnTo s pc npc).gl.val = min 2 (trapEntry s).tstate.gl.toNat := saturate2_val _

theorem returnTo_cwp_toNat : (returnTo s pc npc).cwp.toNat = (trapEntry s).tstate.cwp.toNat % 8 :=
  BitVec.toNat_setWidth ..

theorem returnTo_tl_val (htl : 0 < s.tl.val) : (returnTo s pc npc).tl.val + 1 = s.tl.val := by
  have hle := s.tl.isLt
  by_cases h : s.tl.val = 2
  · simp [returnTo, h]
  · have hone : s.tl.val = 1 := by omega
    simp [returnTo, hone]

theorem returnTo_pc :
    (returnTo s pc npc).pc =
      if (trapEntry s).tstate.pstate.am = true ∧ s.par.doneRetryMasksPc = true then
        BitVec.ofNat 64 (pc.toNat % 2 ^ 32) else pc :=
  ite_low32 (Bool.and_eq_true_iff) pc

theorem returnTo_npc :
    (returnTo s pc npc).npc =
      if (trapEntry s).tstate.pstate.am = true ∧ s.par.doneRetryMasksPc = true then
        BitVec.ofNat 64 (npc.toNat % 2 ^ 32) else npc :=
  ite_low32 (Bool.and_eq_true_iff) npc

/-- The fields of the state that DONE and RETRY set; every other is kept (R209, R215, R99). -/
theorem returnTo_frame :
    let t := returnTo s pc npc
    t = { s with gl := t.gl, cwp := t.cwp, tl := t.tl, pc := t.pc, npc := t.npc, ccr := (trapEntry s).tstate.ccr,
                 asi := (trapEntry s).tstate.asi, pstate := (trapEntry s).tstate.pstate, code := [] } := rfl

end

/-- A return at the start of the handler gives back all that taking the trap changed, but for the trap stack and the
Load-Monitor, and drops the copies of code. -/
theorem returnTo_enterTrap {s : State} (htl : s.tl.val < 2) (tt : BitVec 9) (pc npc : Word64) :
    let resumed (v : Word64) : Word64 :=
      if s.pstate.am = true ∧ s.par.doneRetryMasksPc = true then BitVec.ofNat 64 (v.toNat % 2 ^ 32) else v
    returnTo (enterTrap s tt) pc npc =
      { s with pc := resumed pc, npc := resumed npc, trap1 := (enterTrap s tt).trap1,
               trap2 := (enterTrap s tt).trap2, monitor := none, code := [] } := by
  intro resumed
  have hentry := trapEntry_enterTrap s tt
  have hgl : (returnTo (enterTrap s tt) pc npc).gl = s.gl := by
    unfold returnTo; rw [hentry]; exact saturate2_ofNat s.gl
  have hcwp : (returnTo (enterTrap s tt) pc npc).cwp = s.cwp := by
    unfold returnTo; rw [hentry]; exact setWidth_cwp s.cwp
  have htlBack : (returnTo (enterTrap s tt) pc npc).tl = s.tl := enterTrap_tl_back htl tt
  rw [returnTo_frame, hgl, hcwp, htlBack, returnTo_pc, returnTo_npc, hentry]
  rfl

/-- The program counters that a trap saves (R203, R458). -/
theorem savedEntry_counters (s : State) (tt : BitVec 9) :
    let saved (v : Word64) : Word64 :=
      if s.pstate.am = true ∧ tt ≠ 0x074 then BitVec.ofNat 64 (v.toNat % 2 ^ 32) else v
    (savedEntry s tt).tpc = saved s.pc ∧ (savedEntry s tt).tnpc = saved s.npc := by
  have htest : (s.pstate.am && tt != 0x074) = true ↔ s.pstate.am = true ∧ tt ≠ 0x074 := by simp
  exact ⟨ite_low32 htest s.pc, ite_low32 htest s.npc⟩

/-! ## The obligations -/

/-- Settles O14: the handler starts in a state where DONE and RETRY pass every check, and what they restore from the
trap stack is what the trap saved there. -/
theorem returnUndoesTrap : Obligations.ReturnUndoesTrap := by
  unfold Obligations.ReturnUndoesTrap
  intro s t e tt htt htrap low saved resumed
  obtain ⟨tt', htt', -, htl, -, rfl⟩ := takeTrap_next htrap
  obtain rfl : tt = tt' := Option.some.inj (htt.symm.trans htt')
  let u : State := { s with fsr := e.recordFsr s.fsr }
  obtain ⟨htpc, htnpc⟩ : (savedEntry u tt).tpc = saved s.pc ∧ (savedEntry u tt).tnpc = saved s.npc :=
    savedEntry_counters u tt
  have hundone (pc npc : Word64) := returnTo_enterTrap (s := u) htl tt pc npc
  constructor
  case left =>
    rw [exec_RETRY, finish_returnChecks_enterTrap, trapEntry_enterTrap, htpc, htnpc]
    exact congrArg Host.Outcome.next (hundone (saved s.pc) (saved s.npc))
  case right =>
    rw [exec_DONE, finish_returnChecks_enterTrap, trapEntry_enterTrap, htnpc]
    exact congrArg Host.Outcome.next (hundone (saved s.npc) (saved s.npc + 4))

/-- Settles O15: DONE and RETRY share their checks and, but for where they resume, what they restore. -/
theorem returnFromTrap : Obligations.ReturnFromTrap := by
  unfold Obligations.ReturnFromTrap
  intro s hpriv
  refine ⟨?tlZero, ?tctTrap, ?delaySlot, ?completes⟩
  case tlZero =>
    intro htl
    have hillegal (t : State) := finish_returnChecks_tlZero t hpriv htl
    exact ⟨(exec_DONE s).trans (hillegal _), (exec_RETRY s).trans (hillegal _)⟩
  case tctTrap =>
    intro htl htct
    have htraps (t : State) := finish_returnChecks_transfersTrap t hpriv htl htct
    exact ⟨(exec_DONE s).trans (htraps _), (exec_RETRY s).trans (htraps _)⟩
  case delaySlot =>
    intro htl htct hnpc
    have hstuck (t : State) := finish_returnChecks_delaySlot t hpriv htl htct hnpc
    exact ⟨(exec_DONE s).trans (hstuck _), (exec_RETRY s).trans (hstuck _)⟩
  case completes =>
    intro htl htct hnpc x pc restored
    have hcompletes (t : State) := finish_returnChecks_completes t hpriv htl htct hnpc
    have hrestored (a b : Word64) : restored (returnTo s a b) :=
      ⟨returnTo_gl_val s a b, returnTo_cwp_toNat s a b, returnTo_tl_val s a b htl, returnTo_frame s a b⟩
    exact ⟨⟨_, (exec_DONE s).trans (hcompletes _), hrestored _ _, returnTo_pc .., returnTo_npc ..⟩,
      ⟨_, (exec_RETRY s).trans (hcompletes _), hrestored _ _, returnTo_pc .., returnTo_npc ..⟩⟩

end Sys2Proof.Machine
end

section
/-!
PROOF. ILLTRAP and the other words of op = 00 and op2 = 000 (R213).
-/

namespace Sys2Proof.Machine

open Sys2Proof

/-! ## ILLTRAP -/

theorem exec_ILLTRAP (const22 : BitVec 22) (s : State) :
    exec (.ILLTRAP const22) s = takeTrap .illegalInstruction s := rfl

/-- The words of op = 00 with op2 = 000 are ILLTRAP where bits 29:25 are zero, and no instruction elsewhere (R118,
R213). -/
theorem decode_of_op2_zero {w : Word32} (hop : field w 30 2 = 0) (hop2 : field w 22 3 = 0) :
    decode w = if rdF w = 0 then some (.ILLTRAP (field w 0 22)) else none := by
  unfold decode; rw [hop]
  change decodeBranch w = _
  unfold decodeBranch; rw [hop2]
  rfl

theorem decode_fmt2_zero (bits : BitVec 5) (const22 : BitVec 22) :
    decode (fmt2 bits 0 const22) = if bits = 0 then some (.ILLTRAP const22) else none := by
  rw [decode_of_op2_zero (field_op_fmt2 ..) (field_op2_fmt2 ..), rdF_fmt2, field_low_fmt2 _ _ _ (by decide), field_self]

/-- The implementation-dependent ASRs and WRPR %tick have op = 10, so a word of another op that decodes to no
instruction is illegal (R107). -/
theorem undecoded_of_op_ne_two {w : Word32} (hop : field w 30 2 ≠ 2) (s : State) :
    undecoded s w = takeTrap .illegalInstruction s := by
  have hread : readsImplAsr s.par w = none := if_neg fun h => hop h.1
  have hwrite : writesImplAsr s.par w = none := if_neg fun h => hop h.1
  have htick : namesWrprTick w = false := by
    unfold namesWrprTick
    rw [beq_eq_false_iff_ne.mpr hop]
    rfl
  unfold undecoded undecodedTrap
  rw [hread, hwrite, htick]
  rfl

/-- Settles O34: a word of op = 00 and op2 = 000 is ILLTRAP or no instruction, and both raise illegal_instruction,
also where ILLTRAP is left to software. -/
theorem illegalTrap : Obligations.IllegalTrap := by
  unfold Obligations.IllegalTrap
  intro s bits const22 w
  have hdecode : decode w = if bits = 0 then some (.ILLTRAP const22) else none := decode_fmt2_zero bits const22
  have hop : field w 30 2 = 0 := field_op_fmt2 bits 0 const22
  refine ⟨exec_ILLTRAP const22 s, ?decoded, ?attempted, ?entered⟩
  case decoded => exact fun hbits => hdecode.trans (if_pos hbits)
  case attempted =>
    intro hfetch
    rw [attempt_eq, hfetch]
    dsimp only
    rw [hdecode]
    by_cases hbits : bits = 0
    · rw [if_pos hbits]
      exact ite_self _
    · rw [if_neg hbits]
      exact undecoded_of_op_ne_two (by rw [hop]; decide) s
  case entered =>
    intro htl hpolicy
    exact (exec_ILLTRAP const22 s).trans (takeTrap_delivered rfl rfl htl fun _ => hpolicy)

end Sys2Proof.Machine
end

section
/-!
PROOF. The words of the window instructions and the marks of ALLCLEAN and INVALW (R284, R286).
-/

namespace Sys2Proof.Machine

open Sys2Proof

/-! ## The words of op = 10 and op3 = 110001 -/

/-- The encoding of the instructions that change the window state alone: the function in rd, bits 18:0 reserved
(R119). -/
def windowWord (fcn : BitVec 5) (low : BitVec 19) : Word32 :=
  (0b10 : BitVec 2) ++ fcn ++ (0b110001 : BitVec 6) ++ low

section

variable (fcn : BitVec 5) (low : BitVec 19)

theorem field_op_windowWord : field (windowWord fcn low) 30 2 = 2 := by
  unfold windowWord
  rw [field_append_high _ _ (by decide), field_append_high _ _ (by decide), field_append_high _ _ (by decide)]
  exact field_self _

theorem field_op3_windowWord : field (windowWord fcn low) 19 6 = 0x31 := by
  unfold windowWord
  rw [field_append_high _ _ (by decide), field_append_low _ _ (by decide)]
  exact field_self _

theorem rdF_windowWord : rdF (windowWord fcn low) = fcn := by
  unfold windowWord rdF
  rw [field_append_high _ _ (by decide), field_append_high _ _ (by decide), field_append_low _ _ (by decide)]
  exact field_self fcn

theorem field_low_windowWord : field (windowWord fcn low) 0 19 = low := by
  unfold windowWord
  rw [field_append_low _ _ (by decide)]
  exact field_self low

theorem decode_windowWord :
    decode (windowWord fcn low) = if low = 0 then List.lookup fcn.toNat windowFcnTable else none := by
  unfold decode; rw [field_op_windowWord]
  change decodeArith (windowWord fcn low) = _
  unfold decodeArith; rw [field_op3_windowWord]
  change (if field (windowWord fcn low) 0 19 = 0 then
    List.lookup (rdF (windowWord fcn low)).toNat windowFcnTable else none) = _
  rw [field_low_windowWord, rdF_windowWord]

end

/-- The implementation-dependent ASRs and WRPR %tick have op3 = 101000, 110000 and 110010, so a word of another op3
that decodes to no instruction is illegal (R107). -/
theorem undecoded_of_op3_ne {w : Word32} (hrdasr : field w 19 6 ≠ 0x28) (hwrasr : field w 19 6 ≠ 0x30)
    (hwrpr : field w 19 6 ≠ 0x32) (s : State) : undecoded s w = takeTrap .illegalInstruction s := by
  have hread : readsImplAsr s.par w = none := if_neg fun ⟨_, hop3, _⟩ => hrdasr hop3
  have hwrite : writesImplAsr s.par w = none := if_neg fun ⟨_, hop3, _⟩ => hwrasr hop3
  have htick : namesWrprTick w = false := by
    unfold namesWrprTick
    rw [beq_eq_false_iff_ne.mpr hwrpr, Bool.and_false, Bool.false_and]
  unfold undecoded undecodedTrap
  rw [hread, hwrite, htick]
  rfl

/-- A window instruction that is not left to software executes where its reserved bits are zero, and is illegal
elsewhere. -/
theorem attempt_windowWord {s : State} {fcn : BitVec 5} {low : BitVec 19} {i : Instr}
    (hentry : List.lookup fcn.toNat windowFcnTable = some i) (hemulated : emulated s.par (windowWord fcn low) = false)
    (hfetch : fetch s = .ok (windowWord fcn low)) :
    attempt s = if low = 0 then exec i s else takeTrap .illegalInstruction s := by
  rw [attempt_eq, hfetch]
  dsimp only
  rw [decode_windowWord]
  by_cases hlow : low = 0
  · rw [if_pos hlow, if_pos hlow, hentry]
    dsimp only
    rw [hemulated]
    rfl
  · rw [if_neg hlow, if_neg hlow]
    have hop3 := field_op3_windowWord fcn low
    exact undecoded_of_op3_ne (by rw [hop3]; decide) (by rw [hop3]; decide) (by rw [hop3]; decide) s

/-! ## ALLCLEAN and INVALW -/

/-- ALLCLEAN marks all N_REG_WINDOWS - 1 = 7 windows clean (R284). -/
theorem exec_ALLCLEAN (s : State) :
    exec .ALLCLEAN s =
      if s.pstate.priv then .next { advance s with cleanwin := 7 } else takeTrap .privilegedOpcode s :=
  windowOp_eq s _

/-- INVALW leaves N_REG_WINDOWS - 2 = 6 windows to save into and none to restore (R286). -/
theorem exec_INVALW (s : State) :
    exec .INVALW s =
      if s.pstate.priv then .next { advance s with cansave := 6, canrestore := 0, otherwin := 0 }
      else takeTrap .privilegedOpcode s :=
  windowOp_eq s _

/-- The three outcomes of a window instruction's word: reserved bits are checked before the privilege, and only
then does it change the state. -/
theorem attempt_windowWord_cases {s t : State} {fcn : BitVec 5} {low : BitVec 19} {i : Instr}
    (hentry : List.lookup fcn.toNat windowFcnTable = some i)
    (hexec : exec i s = if s.pstate.priv then .next t else takeTrap .privilegedOpcode s)
    (hemulated : emulated s.par (windowWord fcn low) = false) (hfetch : fetch s = .ok (windowWord fcn low)) :
    (low ≠ 0 → attempt s = takeTrap .illegalInstruction s) ∧
    (low = 0 → s.pstate.priv = false → attempt s = takeTrap .privilegedOpcode s) ∧
    (low = 0 → s.pstate.priv = true → attempt s = .next t) := by
  rw [attempt_windowWord hentry hemulated hfetch, hexec]
  refine ⟨?illegal, ?privileged, ?completes⟩
  case illegal => exact fun hlow => if_neg hlow
  case privileged =>
    intro hlow hpriv
    rw [if_pos hlow, hpriv]
    rfl
  case completes => exact fun hlow hpriv => (if_pos hlow).trans (if_pos hpriv)

/-- Settles O48: the decoder finds ALLCLEAN and INVALW in the table of the window instructions where bits 18:0 are
zero and no instruction elsewhere, and both execute as a privileged change of the window state alone. -/
theorem windowMarks : Obligations.WindowMarks := by
  unfold Obligations.WindowMarks
  intro s low word does
  refine ⟨?allclean, ?invalw, ?executed⟩
  case allclean => exact attempt_windowWord_cases rfl (exec_ALLCLEAN s)
  case invalw => exact attempt_windowWord_cases rfl (exec_INVALW s)
  case executed => exact fun hpriv => ⟨(exec_ALLCLEAN s).trans (if_pos hpriv), (exec_INVALW s).trans (if_pos hpriv)⟩

end Sys2Proof.Machine
end

section
/-!
PROOF. What every step keeps: the canonical form of memory (R64), the alignment of the program counters (R34, R53, R54),
the parameters (R4), and, in nonprivileged mode and without a trap, the privileged registers (R462). One relation holds
all four, one lemma for each shared form of the instructions shows that it completes with that relation, and one case
split over the instructions collects them.
-/

namespace Sys2Proof.Machine

open Sys2Proof

/-! ## Word-aligned addresses -/

theorem wordAligned_iff (v : Word64) : wordAligned v ↔ v.toNat % 4 = 0 := by
  unfold wordAligned
  rw [← BitVec.toNat_inj]
  simp [field]

theorem wordAligned_add {v w : Word64} (hv : wordAligned v) (hw : wordAligned w) : wordAligned (v + w) := by
  rw [wordAligned_iff] at *
  rw [BitVec.toNat_add]
  omega

theorem wordAligned_four : wordAligned 4 := rfl

theorem wordAligned_eight : wordAligned 8 := rfl

theorem wordAligned_low32 {v : Word64} (h : wordAligned v) : wordAligned (low32 v) := by
  rw [wordAligned_iff] at *
  rw [low32_eq, BitVec.toNat_ofNat]
  omega

theorem wordAligned_clearPcLow (v : Word64) : wordAligned (clearPcLow v) := by
  unfold wordAligned clearPcLow
  rw [field_append_low _ _ (by decide)]
  exact field_self _

theorem wordAligned_trapVector (s : State) (tt : BitVec 9) : wordAligned (trapVector s tt) := by
  unfold wordAligned trapVector
  rw [field_append_low _ _ (by decide)]
  rfl

theorem wordAligned_branchTarget {n : Nat} {s : State} (h : wordAligned s.pc) (disp : BitVec n) :
    wordAligned (branchTarget s disp) := by
  refine wordAligned_add h ?_
  rw [wordAligned_iff, BitVec.toNat_mul]
  change 4 * _ % _ % 4 = 0
  omega

/-! ## The relation -/

/-- The registers that nonprivileged software does not change without a trap (R462); CWP, CANSAVE and CANRESTORE are
not among them. -/
def privilegedRegs (s : State) :=
  (s.gl, s.pil, s.tba, s.trap1, s.trap2, s.pstate, s.cleanwin, s.wstate, s.otherwin, s.scratchpad, s.primary,
    s.secondary, s.queueHead, s.queueTail, s.softint, s.stickCmpr)

/-- What an instruction that completes at `s` without a trap keeps in `t`. -/
def Keeps (s t : State) : Prop :=
  (t.par = s.par ∧ t.env = s.env) ∧ (s.mem.wf = true → t.mem.wf = true) ∧ (countersAligned s → countersAligned t) ∧
    (s.pstate.priv = false → privilegedRegs t = privilegedRegs s)

namespace Keeps

theorem refl (s : State) : Keeps s s := ⟨⟨rfl, rfl⟩, id, id, fun _ => rfl⟩

variable {s t : State} (h : Keeps s t)
include h

/-- A change of the program counters to aligned ones. -/
theorem withCounters {pc npc : Word64} (hpc : countersAligned s → countersAligned t → wordAligned pc)
    (hnpc : countersAligned s → countersAligned t → wordAligned npc) :
    Keeps s { t with pc := pc, npc := npc } := by
  obtain ⟨hpar, hmem, hcounters, hpriv⟩ := h
  refine ⟨hpar, hmem, fun hs => ?_, hpriv⟩
  have ht := hcounters hs
  exact ⟨hpc hs ht, hnpc hs ht, ht.2.2⟩

theorem advance : Keeps s (advance t) :=
  h.withCounters (fun _ ⟨_, hnpc, _⟩ => hnpc) fun _ ⟨_, hnpc, _⟩ => wordAligned_add hnpc wordAligned_four

theorem annul : Keeps s (annul t) :=
  h.withCounters (fun _ ⟨_, hnpc, _⟩ => wordAligned_add hnpc wordAligned_four) fun _ ⟨_, hnpc, _⟩ =>
    wordAligned_add hnpc wordAligned_eight

theorem jumpDelayed {ea : Word64} (hea : countersAligned s → wordAligned ea) : Keeps s (jumpDelayed t ea) :=
  h.withCounters (fun _ ⟨_, hnpc, _⟩ => hnpc) fun hs _ => hea hs

theorem jumpNow {ea : Word64} (hea : countersAligned s → wordAligned ea) : Keeps s (jumpNow t ea) :=
  h.withCounters (fun hs _ => hea hs) fun hs _ => wordAligned_add (hea hs) wordAligned_four

/-- A change of the memory to a canonical one. -/
theorem withMem {m : Memory} (hm : t.mem.wf = true → m.wf = true) : Keeps s { t with mem := m } := by
  obtain ⟨hpar, hmem, hcounters, hpriv⟩ := h
  exact ⟨hpar, fun hs => hm (hmem hs), hcounters, hpriv⟩

theorem writeR (n : Reg) (v : Word64) : Keeps s (writeR t n v) := by
  rw [writeR_shape]; exact h

theorem drawn : Keeps s (drawn t) := h

theorem writeFS (n : FReg) (v : Word32) : Keeps s (writeFS t n v) := h

theorem writeFD (k : DReg) (v : Word64) : Keeps s (writeFD t k v) := h

theorem writeFQ (k : DReg) (v : Word128) : Keeps s (writeFQ t k v) := h

theorem storeValue (x : Place) (n v : Nat) : Keeps s (storeValue t x n v) :=
  h.withMem fun hm => wf_storeValue hm x n v

theorem storeTwin (x : Place) (rd : Reg) : Keeps s (storeTwin t x rd) := (h.storeValue ..).storeValue ..

theorem loadTwin (x : Place) (n : Nat) (rd : Reg) : Keeps s (loadTwin t x n rd) := (h.writeR ..).writeR ..

theorem openR (n : Nat) (extend : Nat → Nat → Word64) (rd : Reg) : Keeps s (openR t n extend rd) := h.drawn.writeR ..

theorem armMonitor (u : State) (asi : BitVec 8) (x : Place) : Keeps s (armMonitor u asi x t) := by
  unfold Machine.armMonitor
  split
  · exact h
  · exact h

theorem scramble (first lo hi count : Nat) : Keeps s (scramble t first lo hi count) := by
  induction count with
  | zero => exact h
  | succ count ih =>
    unfold Machine.scramble
    dsimp only
    split
    · exact ih
    · exact ih.drawn.withMem fun hm => Memory.wf_write hm _ _

theorem stbiEffect (u : State) (asi : BitVec 8) (x : Place) (n : Nat) : Keeps s (stbiEffect u asi x n t) := by
  unfold Machine.stbiEffect
  split
  · exact h.scramble ..
  · exact h

theorem loadBlock (x : Place) (rd : DReg) (j : Nat) : Keeps s (loadBlock t x rd j) := by
  induction j with
  | zero => exact h
  | succ j ih => exact ih.writeFD ..

theorem storeBlock (x : Place) (rd : DReg) (j : Nat) : Keeps s (storeBlock t x rd j) := by
  induction j with
  | zero => exact h
  | succ j ih => exact ih.storeValue ..

theorem writeRun (n : Nat) (vs : List Word64) : Keeps s (writeRun n vs t) := by
  induction vs generalizing n t with
  | nil => exact h
  | cons v vs ih => exact ih (h.writeFD ..) _

theorem writePlaces (ps : List MpPlace) (v : Nat) : Keeps s (writePlaces ps v t) := by
  induction ps generalizing v t with
  | nil => exact h
  | cons p ps ih =>
    refine ih ?_ _
    cases p with
    | reg back n =>
      have hmoved : Keeps s { t with cwp := t.cwp - back } := h
      exact hmoved.writeR n (BitVec.ofNat 64 v)
    | freg k => exact h.writeFD ..

theorem writePrec (p : Prec) (r : BitVec 5) (bits : Nat) : Keeps s (p.write t r bits) := by
  cases p <;> exact h

theorem writePause (v : Word64) : Keeps s (writePause t v) := h

theorem writeMwait (v : Word64) : Keeps s (writeMwait t v) := by
  unfold Machine.writeMwait
  split
  · exact h
  · split <;> exact h

end Keeps

/-- In privileged mode every register may change, if the program counters on the trap stack stay aligned. -/
theorem keeps_of_priv {s t : State} (hpriv : s.pstate.priv = true) (hpar : t.par = s.par ∧ t.env = s.env)
    (hmem : t.mem = s.mem) (hcounters : countersAligned s → countersAligned t) : Keeps s t :=
  ⟨hpar, fun h => hmem ▸ h, hcounters, fun h => absurd (hpriv.symm.trans h) (by decide)⟩

/-! ## Computations and outcomes -/

/-- Where the computation ends in a state, that state keeps what it must. -/
structure Yields (s : State) (r : Eff State) : Prop where
  keeps : ∀ t, r = .ok t → Keeps s t

/-- The instruction takes a trap, or the next state keeps what it must. -/
structure Completes (s : State) (o : Out) : Prop where
  trap_or_keeps : ∀ t, o = .next t → (∃ e, takeTrap e s = .next t) ∨ Keeps s t

section

variable {s : State}

theorem yields_ok {t : State} (h : Keeps s t) : Yields s (.ok t) := ⟨by rintro _ ⟨⟩; exact h⟩

theorem yields_error (e : Stop) : Yields s (.error e) := ⟨by intro t h; cases h⟩

theorem yields_ite {c : Prop} [Decidable c] {a b : Eff State} (ha : Yields s a) (hb : Yields s b) :
    Yields s (if c then a else b) := by
  split
  · exact ha
  · exact hb

/-- What a computation goes on with may depend on the value it had. -/
theorem yields_bind {α : Type} {r : Eff α} {k : α → Eff State} (h : ∀ x, r = .ok x → Yields s (k x)) :
    Yields s (r >>= k) := by
  cases r with
  | error e => exact yields_error e
  | ok x => exact h x rfl

/-- As `yields_bind`, where the value does not matter. -/
theorem yields_then {α : Type} {r : Eff α} {k : α → Eff State} (h : ∀ x, Yields s (k x)) : Yields s (r >>= k) :=
  yields_bind fun x _ => h x

theorem ok_of_require {ok : Bool} {e : Exc} {u : Unit} (h : require ok e = .ok u) : ok = true := by
  cases ok
  · cases h
  · rfl

/-- After a check, what it requires holds. -/
theorem yields_require {ok : Bool} {e : Exc} {k : Unit → Eff State} (h : ok = true → Yields s (k ())) :
    Yields s (require ok e >>= k) := yields_bind fun _ hok => h (ok_of_require hok)

theorem completes_takeTrap (e : Exc) : Completes s (takeTrap e s) := ⟨fun _ h => .inl ⟨e, h⟩⟩

theorem completes_next {t : State} (h : Keeps s t) : Completes s (.next t) := ⟨by rintro _ ⟨⟩; exact .inr h⟩

theorem completes_ite {c : Prop} [Decidable c] {a b : Out} (ha : Completes s a) (hb : Completes s b) :
    Completes s (if c then a else b) := by
  split
  · exact ha
  · exact hb

theorem completes_finishOpen {u : State} {r : Eff State} (hu : Keeps s u) (hr : Yields s r) :
    Completes s (finishOpen u s r) := by
  constructor
  intro t h
  rcases finishOpen_next h with h | ⟨e, _, h⟩ | ⟨_, rfl⟩
  · exact .inr (hr.keeps t h)
  · exact .inl ⟨e, h⟩
  · exact .inr hu.advance

theorem completes_finish {r : Eff State} (hr : Yields s r) : Completes s (finish s r) :=
  completes_finishOpen (.refl s) hr

end

/-! ## The shared forms of the instructions -/

section

variable (s : State)

theorem completes_result (rd : Reg) (v : Word64) : Completes s (result s rd v) :=
  completes_next ((Keeps.refl s).writeR rd v).advance

theorem completes_resultCc (rd : Reg) (v : Word64) (ccr : Ccr) : Completes s (resultCc s rd v ccr) :=
  have hwritten : Keeps s { writeR s rd v with ccr := ccr } := (Keeps.refl s).writeR rd v
  completes_next hwritten.advance

theorem completes_multiply32 (product : Word64 → Word64 → Word64) (cc : Bool) (rd rs1 : Reg) (op2 : RegImm 13) :
    Completes s (multiply32 product cc rd rs1 op2 s) := by
  refine completes_next (Keeps.advance ?_)
  exact (Keeps.refl s).writeR rd _

theorem completes_divide32 (quotient : BitVec 32 → Word64 → Word64 → Word64 × Bool) (cc : Bool) (rd rs1 : Reg)
    (op2 : RegImm 13) : Completes s (divide32 quotient cc rd rs1 op2 s) := by
  refine completes_finish (yields_require fun _ => yields_ok (Keeps.advance ?_))
  exact (Keeps.refl s).drawn.writeR rd _

theorem completes_moveIcc (x : Cc) (rd : Reg) (cond : ICond) (op2 : RegImm 11) :
    Completes s (moveIcc x rd cond op2 s) := by
  refine completes_next (Keeps.advance ?_)
  split
  · exact (Keeps.refl s).writeR ..
  · exact .refl s

theorem completes_moveReg (c : RCond) (rd rs1 : Reg) (op2 : RegImm 10) : Completes s (moveReg c rd rs1 op2 s) := by
  refine completes_next (Keeps.advance ?_)
  split
  · exact (Keeps.refl s).writeR ..
  · exact .refl s

theorem completes_moveFcc (n : BitVec 2) (rd : Reg) (cond : FCond) (op2 : RegImm 11) :
    Completes s (moveFcc n rd cond op2 s) := by
  refine completes_finish (yields_require fun _ => yields_ok (Keeps.advance ?_))
  split
  · exact (Keeps.refl s).writeR ..
  · exact .refl s

theorem yields_branchTo (always taken a : Bool) {ea : Word64} (hea : countersAligned s → wordAligned ea) :
    Yields s (branchTo s always taken a ea) := by
  unfold branchTo
  split
  · refine yields_require fun _ => yields_ok ?_
    split
    · exact (Keeps.refl s).jumpNow hea
    · exact (Keeps.refl s).jumpDelayed hea
  · refine yields_ok ?_
    split
    · exact (Keeps.refl s).annul
    · exact (Keeps.refl s).advance

/-- A branch goes to an aligned address when its own is aligned. -/
theorem branchTarget_aligned {s : State} {n : Nat} (disp : BitVec n) (h : countersAligned s) :
    wordAligned (branchTarget s disp) := wordAligned_branchTarget h.1 disp

theorem completes_branchIcc {n : Nat} (cond : ICond) (x : Cc) (a : Bool) (disp : BitVec n) :
    Completes s (branchIcc cond x a disp s) := completes_finish (yields_branchTo s _ _ _ (branchTarget_aligned disp))

theorem completes_branchReg (c : RCond) (a : Bool) (rs1 : Reg) (d16 : BitVec 16) :
    Completes s (branchReg c a rs1 d16 s) := completes_finish (yields_branchTo s _ _ _ (branchTarget_aligned d16))

theorem completes_branchFcc {n : Nat} (cond : FCond) (cc : BitVec 2) (a : Bool) (disp : BitVec n) :
    Completes s (branchFcc cond cc a disp s) :=
  completes_finish (yields_require fun _ => yields_branchTo s _ _ _ (branchTarget_aligned disp))

theorem completes_compareBranch (cond : ICond) (wide : Bool) (rs1 : Reg) (op2 : RegImm 5) (d10 : BitVec 10) :
    Completes s (compareBranch cond wide rs1 op2 d10 s) :=
  completes_finish (yields_ite
    (yields_require fun _ => yields_ok ((Keeps.refl s).jumpNow (branchTarget_aligned d10)))
    (yields_ok (Keeps.refl s).advance))

theorem completes_trapIcc (cond : ICond) (cc : IccSel) (rs1 : Reg) (op2 : RegImm 8) :
    Completes s (trapIcc cond cc rs1 op2 s) :=
  completes_finish (yields_ite (yields_require fun _ => yields_error _) (yields_ok (Keeps.refl s).advance))

/-- The computed target of JMPL and RETURN passes their check of its alignment (R214, R216). -/
theorem wordAligned_of_check {v : Word64} (h : (field v 0 2 == 0) = true) : wordAligned v := by
  simpa [wordAligned] using h

theorem completes_CALL (disp : BitVec 30) : Completes s (exec (.CALL disp) s) :=
  completes_finish (yields_require fun _ => yields_ok
    (((Keeps.refl s).writeR ..).jumpDelayed (branchTarget_aligned disp)))

theorem completes_JMPL (rd rs1 : Reg) (op2 : RegImm 13) : Completes s (exec (.JMPL rd rs1 op2) s) :=
  completes_finish (yields_require fun htarget => yields_require fun _ => yields_ok
    (((Keeps.refl s).writeR ..).jumpDelayed fun _ => wordAligned_of_check htarget))

theorem keeps_restoreWindow : Keeps s (restoreWindow s) := .refl s

theorem completes_RETURN (rs1 : Reg) (op2 : RegImm 13) : Completes s (exec (.RETURN rs1 op2) s) :=
  completes_finish (yields_require fun _ => yields_require fun htarget => yields_require fun _ => yields_ok
    ((keeps_restoreWindow s).jumpDelayed fun _ => wordAligned_of_check htarget))

/-- The checks of DONE and RETRY let only privileged software pass. -/
theorem priv_of_returnChecks {s : State} {u : Unit} (h : returnChecks s = .ok u) : s.pstate.priv = true := by
  unfold returnChecks needPriv at h
  cases hpriv : s.pstate.priv
  · rw [hpriv] at h; cases h
  · rfl

/-- What DONE and RETRY take from the trap stack is aligned, and so is its lower word. -/
theorem keeps_returnTo {s : State} (hpriv : s.pstate.priv = true) {pc npc : Word64}
    (hpc : countersAligned s → wordAligned pc) (hnpc : countersAligned s → wordAligned npc) :
    Keeps s (returnTo s pc npc) := by
  have masked {b : Bool} {v : Word64} (h : wordAligned v) : wordAligned (if b then low32 v else v) := by
    split
    · exact wordAligned_low32 h
    · exact h
  exact keeps_of_priv hpriv ⟨rfl, rfl⟩ rfl fun h => ⟨masked (hpc h), masked (hnpc h), h.2.2⟩

theorem trapEntry_aligned {s : State} (h : countersAligned s) :
    wordAligned (trapEntry s).tpc ∧ wordAligned (trapEntry s).tnpc := by
  obtain ⟨-, -, htpc1, htnpc1, htpc2, htnpc2⟩ := h
  unfold trapEntry
  split
  · exact ⟨htpc2, htnpc2⟩
  · exact ⟨htpc1, htnpc1⟩

theorem completes_DONE : Completes s (exec .DONE s) :=
  completes_finish (yields_bind fun _ hchecks => yields_ok (keeps_returnTo (priv_of_returnChecks hchecks)
    (fun h => (trapEntry_aligned h).2) fun h => wordAligned_add (trapEntry_aligned h).2 wordAligned_four))

theorem completes_RETRY : Completes s (exec .RETRY s) :=
  completes_finish (yields_bind fun _ hchecks => yields_ok (keeps_returnTo (priv_of_returnChecks hchecks)
    (fun h => (trapEntry_aligned h).1) fun h => (trapEntry_aligned h).2))

theorem completes_SAVE (rd rs1 : Reg) (op2 : RegImm 13) : Completes s (exec (.SAVE rd rs1 op2) s) :=
  have hwindow : Keeps s { s with cwp := s.cwp + 1, cansave := s.cansave - 1, canrestore := s.canrestore + 1 } :=
    .refl s
  completes_finish (yields_require fun _ => yields_require fun _ => yields_ok (hwindow.writeR ..).advance)

theorem completes_RESTORE (rd rs1 : Reg) (op2 : RegImm 13) : Completes s (exec (.RESTORE rd rs1 op2) s) :=
  completes_finish (yields_require fun _ => yields_ok ((keeps_restoreWindow s).writeR ..).advance)

/-- A change in privileged mode that leaves the program counters on the trap stack alone. -/
theorem keeps_advance_of_priv {s t : State} (hpriv : s.pstate.priv = true) (hpar : t.par = s.par ∧ t.env = s.env)
    (hmem : t.mem = s.mem) (hcounters : countersAligned s → countersAligned t) : Keeps s (advance t) :=
  (keeps_of_priv hpriv hpar hmem hcounters).advance

theorem completes_windowOp {t : State} (hpar : t.par = s.par ∧ t.env = s.env) (hmem : t.mem = s.mem)
    (hcounters : countersAligned s → countersAligned t) : Completes s (windowOp s t) :=
  completes_finish (yields_require fun hpriv => yields_ok (keeps_advance_of_priv hpriv hpar hmem hcounters))

theorem completes_writePriv {t : State} (hpar : t.par = s.par ∧ t.env = s.env) (hmem : t.mem = s.mem)
    (hcounters : countersAligned s → countersAligned t) : Completes s (writePriv s t) :=
  completes_windowOp s hpar hmem hcounters

theorem completes_SAVED : Completes s (exec .SAVED s) :=
  completes_finish (yields_require fun hpriv => yields_ite (yields_error _) (yields_ite
    (yields_ok (keeps_advance_of_priv hpriv ⟨rfl, rfl⟩ rfl id))
    (yields_ok (keeps_advance_of_priv hpriv ⟨rfl, rfl⟩ rfl id))))

theorem completes_RESTORED : Completes s (exec .RESTORED s) :=
  completes_finish (yields_require fun hpriv => yields_ite (yields_error _) (yields_ite
    (yields_ok (keeps_advance_of_priv hpriv ⟨rfl, rfl⟩ rfl id))
    (yields_ok (keeps_advance_of_priv hpriv ⟨rfl, rfl⟩ rfl id))))

theorem completes_readPriv (rd : Reg) (v : Word64) : Completes s (readPriv s rd v) :=
  completes_finish (yields_require fun _ => yields_ok ((Keeps.refl s).writeR ..).advance)

theorem completes_readTrapStack (rd : Reg) (v : Word64) : Completes s (readTrapStack s rd v) :=
  completes_finish (yields_require fun _ => yields_require fun _ => yields_ok ((Keeps.refl s).writeR ..).advance)

theorem countersAligned_setTrapEntry {s : State} {e : TrapEntry} (h : countersAligned s) (htpc : wordAligned e.tpc)
    (htnpc : wordAligned e.tnpc) : countersAligned (setTrapEntry s e) := by
  obtain ⟨hpc, hnpc, htpc1, htnpc1, htpc2, htnpc2⟩ := h
  unfold setTrapEntry
  split
  · exact ⟨hpc, hnpc, htpc1, htnpc1, htpc, htnpc⟩
  · exact ⟨hpc, hnpc, htpc, htnpc, htpc2, htnpc2⟩

theorem completes_writeTrapStack {e : TrapEntry} (htpc : countersAligned s → wordAligned e.tpc)
    (htnpc : countersAligned s → wordAligned e.tnpc) : Completes s (writeTrapStack s e) :=
  completes_finish (yields_require fun hpriv => yields_require fun _ => yields_ok
    (keeps_advance_of_priv hpriv ⟨setTrapEntry_par .., setTrapEntry_env ..⟩ (setTrapEntry_mem ..)
      fun h => countersAligned_setTrapEntry h (htpc h) (htnpc h)))

/-! ## Loads and stores -/

theorem completes_loadImplicit (n : Nat) (extend : Nat → Nat → Word64) (rd rs1 : Reg) (op2 : RegImm 13) :
    Completes s (loadImplicit n extend rd rs1 op2 s) :=
  completes_finish (yields_then fun _ => yields_ok ((Keeps.refl s).writeR ..).advance)

theorem completes_loadAlternate (n : Nat) (extend : Nat → Nat → Word64) (rd rs1 : Reg) (addr : AltOperand) :
    Completes s (loadAlternate n extend rd rs1 addr s) :=
  completes_finishOpen ((Keeps.refl s).openR ..)
    (yields_then fun _ => yields_ok (((Keeps.refl s).writeR ..).armMonitor ..).advance)

theorem completes_storeImplicit (n : Nat) (rd rs1 : Reg) (op2 : RegImm 13) :
    Completes s (storeImplicit n rd rs1 op2 s) :=
  completes_finish (yields_then fun _ => yields_ok ((Keeps.refl s).storeValue ..).advance)

theorem completes_storeAlternate (n : Nat) (rd rs1 : Reg) (addr : AltOperand) :
    Completes s (storeAlternate n rd rs1 addr s) :=
  completes_finish (yields_then fun _ => yields_ok (((Keeps.refl s).storeValue ..).stbiEffect ..).advance)

theorem completes_compareSwap (n : Nat) (rd rs1 rs2 : Reg) (asi : AsiSource) :
    Completes s (compareSwap n rd rs1 rs2 asi s) := by
  refine completes_finishOpen ((Keeps.refl s).openR ..) (yields_then fun x => yields_ok ?_)
  refine (Keeps.writeR ?_ ..).advance
  split
  · exact (Keeps.refl s).storeValue ..
  · exact .refl s

theorem keeps_exchange (x : Place) (n v : Nat) (rd : Reg) : Keeps s (exchange s x n v rd) :=
  (((Keeps.refl s).storeValue ..).writeR ..).advance

/-- An ASI below 0x80 is for privileged software alone (R73): a register ASI other than the performance counters. -/
theorem pic_or_priv_of_check {s : State} {asi : BitVec 8} {ea : Word64} {u : Unit} (hasi : asi ∈ asiRegister)
    (h : checkRegisterAsi s asi ea = .ok u) : asi = asiPic ∨ s.pstate.priv = true := by
  refine or_iff_not_imp_left.mpr fun hpic => ?_
  by_contra hpriv
  have hnot : asiPrivileged s asi = true := by
    have hlow : bit asi 7 = false := by
      simp only [asiRegister, List.mem_cons, List.not_mem_nil, or_false] at hasi
      rcases hasi with rfl | rfl | rfl | rfl
      · rfl
      · rfl
      · rfl
      · exact absurd rfl hpic
    unfold asiPrivileged
    rw [if_neg hpriv, hlow]
    rfl
  unfold checkRegisterAsi at h
  rw [hnot] at h
  cases haligned : aligned ea 8
  · rw [haligned] at h; cases h
  · rw [haligned] at h; cases h

theorem keeps_readInternal {s : State} {asi : BitVec 8} {va : Nat} {r : Word64 × State}
    (h : readInternal s asi va = .ok r) : Keeps s r.2 := by
  unfold readInternal badVa at h
  repeat' split at h
  all_goals cases h
  all_goals exact .refl s

/-- What STXA writes to a register ASI: a performance counter, or a register that only privileged software reaches. -/
theorem keeps_writeInternal {s t : State} {asi : BitVec 8} {va : Nat} {v : Word64}
    (hpriv : asi = asiPic ∨ s.pstate.priv = true) (h : writeInternal s asi va v = .ok t) : Keeps s t := by
  rcases hpriv with rfl | hpriv
  · change (match picAt s.par va with | some i => _ | none => _) = _ at h
    split at h
    · cases h; exact .refl s
    · cases h
  · unfold writeInternal badVa at h
    dsimp only at h
    repeat' split at h
    all_goals cases h
    all_goals exact keeps_of_priv hpriv ⟨rfl, rfl⟩ rfl id

theorem completes_LDXA (rd rs1 : Reg) (addr : AltOperand) : Completes s (exec (.LDXA rd rs1 addr) s) :=
  completes_ite
    (completes_finish (yields_then fun _ => yields_bind fun _ hr =>
      yields_ok ((keeps_readInternal hr).writeR ..).advance))
    (completes_loadAlternate ..)

theorem completes_STXA (rd rs1 : Reg) (addr : AltOperand) : Completes s (exec (.STXA rd rs1 addr) s) := by
  change Completes s (if _ then _ else _)
  split
  · rename_i hasi
    exact completes_finish (yields_bind fun _ hcheck => yields_bind fun _ ht =>
      yields_ok (keeps_writeInternal (pic_or_priv_of_check hasi hcheck) ht).advance)
  · exact completes_finish (yields_then fun _ => yields_ok (((Keeps.refl s).storeValue ..).stbiEffect ..).advance)

theorem completes_FLUSH (rs1 : Reg) (op2 : RegImm 13) : Completes s (exec (.FLUSH rs1 op2) s) :=
  completes_finish (yields_ite (yields_then fun _ => yields_ok (Keeps.refl s).advance)
    (yields_ok (Keeps.refl s).advance))

theorem completes_loadFsr (n : Nat) (update : Config.Params → Fsr → Word64 → Fsr) (rs1 : Reg) (op2 : RegImm 13) :
    Completes s (loadFsr n update rs1 op2 s) :=
  completes_finish (yields_then fun _ => yields_then fun _ => yields_ok (Keeps.refl s).advance)

theorem completes_storeFsr (n : Nat) (rs1 : Reg) (op2 : RegImm 13) : Completes s (storeFsr n rs1 op2 s) :=
  completes_finish (yields_then fun _ => yields_then fun _ => yields_ok ((Keeps.refl s).storeValue ..).advance)

theorem yields_blockLoad (rd : DReg) (asi : BitVec 8) (ea : Word64) : Yields s (blockLoad s rd asi ea) :=
  yields_then fun _ => yields_then fun _ => yields_then fun _ => yields_ok ((Keeps.refl s).loadBlock ..).advance

theorem yields_blockStore (rd : DReg) (asi : BitVec 8) (ea : Word64) : Yields s (blockStore s rd asi ea) :=
  yields_then fun _ => yields_then fun _ => yields_then fun _ => yields_ok ((Keeps.refl s).storeBlock ..).advance

theorem yields_shortLoad (rd : DReg) (asi : BitVec 8) (ea : Word64) : Yields s (shortLoad s rd asi ea) :=
  yields_then fun _ => yields_then fun _ => yields_ok ((Keeps.refl s).writeFD ..).advance

theorem yields_shortStore (rd : DReg) (asi : BitVec 8) (ea : Word64) : Yields s (shortStore s rd asi ea) :=
  yields_then fun _ => yields_then fun _ => yields_ok ((Keeps.refl s).storeValue ..).advance

theorem completes_LDDFA (rd : DReg) (rs1 : Reg) (addr : AltOperand) : Completes s (exec (.LDDFA rd rs1 addr) s) := by
  refine completes_finishOpen ((Keeps.refl s).drawn.writeFD ..)
    (yields_ite (yields_blockLoad ..) (yields_ite (yields_shortLoad ..) ?double))
  have haccess : Yields s (do
      needFpu s
      checkAlignDouble (decide (altAsi s addr ∈ asiTwin)) (altAddr s rs1 addr) .lddfNotAligned
      let x ← accessAsi s (altAsi s addr) asiLoad (altAddr s rs1 addr) 8 .load
      .ok (advance (writeFD s rd (BitVec.ofNat 64 (loadValue s x 8))))) :=
    yields_then fun _ => yields_then fun _ => yields_then fun _ => yields_ok ((Keeps.refl s).writeFD ..).advance
  exact yields_ite (yields_then fun _ => haccess) haccess

theorem completes_STDFA (rd : DReg) (rs1 : Reg) (addr : AltOperand) : Completes s (exec (.STDFA rd rs1 addr) s) :=
  completes_finish (yields_ite (yields_blockStore ..) (yields_ite (yields_shortStore ..)
    (yields_then fun _ => yields_then fun _ => yields_then fun _ => yields_then fun _ =>
      yields_ok ((Keeps.refl s).storeValue ..).advance)))

/-! ## Floating point, VIS and cryptography -/

theorem yields_completeFp {s t : State} (r : FpResult) (h : Keeps s t) : Yields s (completeFp s r t) := by
  unfold completeFp
  dsimp only
  split
  · exact yields_error _
  · exact yields_ok (Keeps.advance (t := { t with fsr := _ }) h)

theorem completes_fpBinary (op : Option Config.FpOperation) (src dst : Prec)
    (f : BitVec 2 → FpValue → FpValue → FpResult) (rd rs1 rs2 : BitVec 5) :
    Completes s (fpBinary op src dst f rd rs1 rs2 s) :=
  completes_finish (yields_then fun _ => yields_then fun _ => yields_completeFp _ ((Keeps.refl s).writePrec ..))

theorem completes_fpSum (op : Option Config.FpOperation) (p : Prec) (flip1 flip2 : Bool) (scale : Int)
    (rd rs1 rs2 : BitVec 5) : Completes s (fpSum op p flip1 flip2 scale rd rs1 rs2 s) := completes_fpBinary ..

theorem completes_fpProduct (op : Option Config.FpOperation) (src dst : Prec) (flip : Bool) (rd rs1 rs2 : BitVec 5) :
    Completes s (fpProduct op src dst flip rd rs1 rs2 s) := completes_fpBinary ..

theorem completes_fpQuotient (p : Prec) (rd rs1 rs2 : BitVec 5) : Completes s (fpQuotient p rd rs1 rs2 s) :=
  completes_fpBinary ..

theorem completes_fpSqrt (p : Prec) (rd rs2 : BitVec 5) : Completes s (fpSqrt p rd rs2 s) :=
  completes_finish (yields_then fun _ => yields_then fun _ => yields_completeFp _ ((Keeps.refl s).writePrec ..))

theorem completes_fpConversion (op : Option Config.FpOperation) (src dst : Prec) (toFormat : Bool)
    (f : BitVec 2 → FpValue → FpResult) (rd rs2 : BitVec 5) :
    Completes s (fpConversion op src dst toFormat f rd rs2 s) :=
  completes_finish (yields_then fun _ => yields_then fun _ => yields_completeFp _ ((Keeps.refl s).writePrec ..))

theorem completes_fpConvert (op : Option Config.FpOperation) (src dst : Prec) (rd rs2 : BitVec 5) :
    Completes s (fpConvert op src dst rd rs2 s) := completes_fpConversion ..

theorem completes_fpToInt (op : Option Config.FpOperation) (src dst : Prec) (n : Nat) (rd rs2 : BitVec 5) :
    Completes s (fpToInt op src dst n rd rs2 s) := completes_fpConversion ..

theorem completes_fpFromInt32 (dst : Prec) (rd rs2 : BitVec 5) : Completes s (fpFromInt32 dst rd rs2 s) :=
  completes_finish (yields_then fun _ => yields_completeFp _ ((Keeps.refl s).writePrec ..))

theorem completes_fpFromInt64 (dst : Prec) (rd rs2 : BitVec 5) : Completes s (fpFromInt64 dst rd rs2 s) :=
  completes_finish (yields_then fun _ => yields_completeFp _ ((Keeps.refl s).writePrec ..))

theorem completes_fpFused (op : Config.FpOperation) (p : Prec) (flipProduct flipAddend : Bool)
    (rd rs1 rs2 rs3 : BitVec 5) : Completes s (fpFused op p flipProduct flipAddend rd rs1 rs2 rs3 s) :=
  completes_finish (yields_then fun _ => yields_then fun _ => yields_completeFp _ ((Keeps.refl s).writePrec ..))

theorem completes_fpMove (p : Prec) (f : Nat → Nat) (cond : Bool) (rd rs2 : BitVec 5) :
    Completes s (fpMove p f cond rd rs2 s) := by
  refine completes_finish (yields_then fun _ => yields_completeFp _ ?_)
  split
  · exact (Keeps.refl s).writePrec ..
  · exact .refl s

theorem completes_fpCompare (p : Prec) (quietToo : Bool) (cc : BitVec 2) (rs1 rs2 : BitVec 5) :
    Completes s (fpCompare p quietToo cc rs1 rs2 s) :=
  completes_finish (yields_then fun _ => yields_completeFp _ (.refl s))

theorem completes_fpLexicographic (p : Prec) (cc : BitVec 2) (rs1 rs2 : BitVec 5) :
    Completes s (fpLexicographic p cc rs1 rs2 s) :=
  completes_finish (yields_then fun _ => yields_ok (Keeps.refl s).advance)

theorem completes_FADDq (rd rs1 rs2 : DReg) : Completes s (exec (.FADDq rd rs1 rs2) s) :=
  completes_ite (completes_takeTrap _) (completes_fpSum ..)

theorem completes_toFD (rd : DReg) (v : Word64) : Completes s (toFD rd v s) :=
  completes_finish (yields_then fun _ => yields_ok ((Keeps.refl s).writeFD ..).advance)

theorem completes_toFS (rd : FReg) (v : Word32) : Completes s (toFS rd v s) :=
  completes_finish (yields_then fun _ => yields_ok ((Keeps.refl s).writeFS ..).advance)

theorem completes_toR (rd : Reg) (v : Word64) : Completes s (toR rd v s) :=
  completes_finish (yields_then fun _ => yields_ok ((Keeps.refl s).writeR ..).advance)

theorem completes_toRGsr (rd : Reg) (v : Word64) (gsr : Gsr) : Completes s (toRGsr rd v gsr s) :=
  have hwritten : Keeps s { writeR s rd v with gsr := gsr } := (Keeps.refl s).writeR rd v
  completes_finish (yields_then fun _ => yields_ok hwritten.advance)

theorem completes_toMask (mask : BitVec 32) : Completes s (toMask mask s) :=
  completes_finish (yields_then fun _ => yields_ok (Keeps.refl s).advance)

theorem completes_arrayAddress (shift : Nat) (rd rs1 rs2 : Reg) : Completes s (arrayAddress shift rd rs1 rs2 s) := by
  unfold arrayAddress
  dsimp only
  split
  · exact completes_result ..
  · exact completes_next ((Keeps.refl s).drawn.writeR ..).advance

theorem completes_cryptoResult (cfrBit : Nat) (rd : DReg) (v : Word64) : Completes s (cryptoResult cfrBit rd v s) :=
  completes_finish (yields_then fun _ => yields_ok ((Keeps.refl s).writeFD ..).advance)

theorem completes_hashResult (cfrBit : Nat) (vs : List Word64) : Completes s (hashResult cfrBit vs s) :=
  completes_finish (yields_then fun _ => yields_ok ((Keeps.refl s).writeRun ..).advance)

theorem completes_multiMultiply (carry : Bool) (cfrBit : Nat) (imm5 : BitVec 5) :
    Completes s (multiMultiply carry cfrBit imm5 s) :=
  completes_finish (yields_then fun _ => yields_ok ((Keeps.refl s).writePlaces ..).advance)

theorem completes_montgomery (carry square : Bool) (cfrBit : Nat) (imm5 : BitVec 5) :
    Completes s (montgomery carry square cfrBit imm5 s) := by
  refine completes_finish (yields_then fun _ => yields_ok (Keeps.advance ?_))
  exact ((Keeps.refl s).writePlaces ..).writePlaces _ _

end

/-! ## Every instruction, every step -/

/-- Every instruction takes a trap or keeps what it must. -/
theorem exec_completes (i : Instr) (s : State) : Completes s (exec i s) := by
  cases i
  case BE | BLE | BL | BLEU | BCS | BNEG | BVS | BA | BNE | BG | BGE | BGU | BCC | BPOS | BVC | BPE | BPLE | BPL
      | BPLEU | BPCS | BPNEG | BPVS | BPA | BPNE | BPG | BPGE | BPGU | BPCC | BPPOS | BPVC =>
    exact completes_branchIcc ..
  case FBN | FBNE | FBLG | FBUL | FBL | FBUG | FBG | FBU | FBA | FBE | FBUE | FBGE | FBUGE | FBLE | FBULE | FBO
      | FBPN | FBPNE | FBPLG | FBPUL | FBPL | FBPUG | FBPG | FBPU | FBPA | FBPE | FBPUE | FBPGE | FBPUGE | FBPLE
      | FBPULE | FBPO =>
    exact completes_branchFcc ..
  case BRZ | BRLEZ | BRLZ | BRNZ | BRGZ | BRGEZ =>
    exact completes_branchReg ..
  case CWBE | CWBLE | CWBL | CWBLEU | CWBCS | CWBNEG | CWBVS | CWBNE | CWBG | CWBGE | CWBGU | CWBCC | CWBPOS
      | CWBVC | CXBE | CXBLE | CXBL | CXBLEU | CXBCS | CXBNEG | CXBVS | CXBNE | CXBG | CXBGE | CXBGU | CXBCC
      | CXBPOS | CXBVC =>
    exact completes_compareBranch ..
  case TE | TLE | TL | TLEU | TCS | TNEG | TVS | TA | TNE | TG | TGE | TGU | TCC | TPOS | TVC =>
    exact completes_trapIcc ..
  case ADD | ADDC | ADDXC | SUB | SUBC | SUBXC | AND | ANDN | OR | ORN | XOR | XNOR | SLL | SRL | SRA | SLLX
      | SRLX | SRAX | MULX | UMULXHI | XMULX | XMULXHI | POPC | LZCNT | SETHI | EDGE8N | EDGE8LN | EDGE16N
      | EDGE16LN | EDGE32N | EDGE32LN =>
    exact completes_result ..
  case ADDcc | ADDCcc | ADDXCcc | SUBcc | SUBCcc | SUBXCcc | TADDcc | TSUBcc | ANDcc | ANDNcc | ORcc | ORNcc
      | XORcc | XNORcc | EDGE8cc | EDGE8Lcc | EDGE16cc | EDGE16Lcc | EDGE32cc | EDGE32Lcc =>
    exact completes_resultCc ..
  case SMUL | SMULcc | UMUL | UMULcc =>
    exact completes_multiply32 ..
  case SDIV | SDIVcc | UDIV | UDIVcc =>
    exact completes_divide32 ..
  case MOVicc | MOVxcc =>
    exact completes_moveIcc ..
  case MOVfcc0 | MOVfcc1 | MOVfcc2 | MOVfcc3 =>
    exact completes_moveFcc ..
  case MOVRZ | MOVRLEZ | MOVRLZ | MOVRNZ | MOVRGZ | MOVRGEZ =>
    exact completes_moveReg ..
  case ARRAY8 | ARRAY16 | ARRAY32 =>
    exact completes_arrayAddress ..
  case BSHUFFLE | FALIGNDATAg | FALIGNDATAi | FCHKSM16 | FMEAN16 | FMUL8SUx16 | FMUL8ULx16 | FPACK32 | FPADD8
      | FPADD16 | FPADD32 | FPADD64 | FPSUB8 | FPSUB16 | FPSUB32 | FPSUB64 | FPADDS8 | FPADDS16 | FPADDS32
      | FPSUBS8 | FPSUBS16 | FPSUBS32 | FPADDUS8 | FPADDUS16 | FPSUBUS8 | FPSUBUS16 | FPMAX8 | FPMAX16 | FPMAX32
      | FPMAXU8 | FPMAXU16 | FPMAXU32 | FPMIN8 | FPMIN16 | FPMIN32 | FPMINU8 | FPMINU16 | FPMINU32 | FORd
      | FNORd | FANDd | FNANDd | FXORd | FXNORd | FORNOT1d | FORNOT2d | FANDNOT1d | FANDNOT2d | FSLL16 | FSRL16
      | FSLAS16 | FSRA16 | FSLL32 | FSRL32 | FSLAS32 | FSRA32 | FEXPAND | FMUL8x16 | FMUL8x16AU | FMUL8x16AL
      | FMULD8SUx16 | FMULD8ULx16 | FPMERGE | PDIST | FPMADDX | FPMADDXHI | FZEROd | FONEd | FSRC1d | FSRC2d
      | FNOT1d | FNOT2d | MOVxTOd =>
    exact completes_toFD ..
  case CMASK8 | CMASK16 | CMASK32 =>
    exact completes_toMask ..
  case FPACK16 | FPACKFIX | FZEROs | FONEs | FSRC1s | FSRC2s | FNOT1s | FNOT2s | MOVwTOs | FPADD16s | FPADD32s
      | FPSUB16s | FPSUB32s | FPADDS16s | FPADDS32s | FPSUBS16s | FPSUBS32s | FORs | FNORs | FANDs | FNANDs
      | FXORs | FXNORs | FORNOT1s | FORNOT2s | FANDNOT1s | FANDNOT2s =>
    exact completes_toFS ..
  case PDISTN | FPCMPLE8 | FPCMPGT8 | FPCMPEQ8 | FPCMPNE8 | FPCMPULE8 | FPCMPUGT8 | FPCMPLE16 | FPCMPGT16
      | FPCMPEQ16 | FPCMPNE16 | FPCMPULE16 | FPCMPUGT16 | FPCMPLE32 | FPCMPGT32 | FPCMPEQ32 | FPCMPNE32
      | FPCMPULE32 | FPCMPUGT32 | MOVsTOsw | MOVsTOuw | MOVdTOx =>
    exact completes_toR ..
  case AES_EROUND01 | AES_EROUND23 | AES_DROUND01 | AES_DROUND23 | AES_EROUND01_LAST | AES_EROUND23_LAST
      | AES_DROUND01_LAST | AES_DROUND23_LAST | AES_KEXPAND1 | AES_KEXPAND0 | AES_KEXPAND2 | CAMELLIA_F
      | CAMELLIA_FL | CAMELLIA_FLI | DES_ROUND | DES_IP | DES_IIP | CRC32C =>
    exact completes_cryptoResult ..
  case SHA512 | MD5 | SHA256 =>
    exact completes_hashResult ..
  case MPMUL | XMPMUL =>
    exact completes_multiMultiply ..
  case MONTMUL | MONTSQR | XMONTMUL | XMONTSQR =>
    exact completes_montgomery ..
  case LDSB | LDSH | LDSW | LDUB | LDUH | LDUW | LDX =>
    exact completes_loadImplicit ..
  case LDSBA | LDSHA | LDSWA | LDUBA | LDUHA | LDUWA =>
    exact completes_loadAlternate ..
  case STB | STH | STW | STX =>
    exact completes_storeImplicit ..
  case STBA | STHA | STWA =>
    exact completes_storeAlternate ..
  case CASA | CASXA =>
    exact completes_compareSwap ..
  case LDFSR | LDXFSR =>
    exact completes_loadFsr ..
  case STFSR | STXFSR =>
    exact completes_storeFsr ..
  case FMOVs | FMOVd | FMOVq | FABSs | FABSd | FABSq | FNEGs | FNEGd | FNEGq | FMOVSfcc0 | FMOVDfcc0 | FMOVQfcc0
      | FMOVSfcc1 | FMOVDfcc1 | FMOVQfcc1 | FMOVSfcc2 | FMOVDfcc2 | FMOVQfcc2 | FMOVSfcc3 | FMOVDfcc3
      | FMOVQfcc3 | FMOVSicc | FMOVDicc | FMOVQicc | FMOVSxcc | FMOVDxcc | FMOVQxcc | FMOVRsZ | FMOVRdZ
      | FMOVRqZ | FMOVRsLEZ | FMOVRdLEZ | FMOVRqLEZ | FMOVRsLZ | FMOVRdLZ | FMOVRqLZ | FMOVRsNZ | FMOVRdNZ
      | FMOVRqNZ | FMOVRsGZ | FMOVRdGZ | FMOVRqGZ | FMOVRsGEZ | FMOVRdGEZ | FMOVRqGEZ =>
    exact completes_fpMove ..
  case FADDs | FADDd | FSUBs | FSUBd | FSUBq | FHADDs | FHADDd | FHSUBs | FHSUBd | FNADDs | FNADDd | FNHADDs
      | FNHADDd =>
    exact completes_fpSum ..
  case FMULs | FMULd | FMULq | FNMULs | FNMULd | FsMULd | FNsMULd | FdMULq =>
    exact completes_fpProduct ..
  case FDIVs | FDIVd | FDIVq =>
    exact completes_fpQuotient ..
  case FSQRTs | FSQRTd | FSQRTq =>
    exact completes_fpSqrt ..
  case FMADDs | FMADDd | FMSUBs | FMSUBd | FNMSUBs | FNMSUBd | FNMADDs | FNMADDd =>
    exact completes_fpFused ..
  case FsTOd | FdTOs | FsTOq | FdTOq | FqTOs | FqTOd =>
    exact completes_fpConvert ..
  case FsTOx | FdTOx | FqTOx | FsTOi | FdTOi | FqTOi =>
    exact completes_fpToInt ..
  case FiTOs | FiTOd | FiTOq =>
    exact completes_fpFromInt32 ..
  case FxTOs | FxTOd | FxTOq =>
    exact completes_fpFromInt64 ..
  case FCMPs | FCMPd | FCMPq | FCMPEs | FCMPEd | FCMPEq =>
    exact completes_fpCompare ..
  case FLCMPs | FLCMPd =>
    exact completes_fpLexicographic ..
  case RDSOFTINT | RDSTICK_CMPR | RDPR_TBA | RDPR_PSTATE | RDPR_TL | RDPR_PIL | RDPR_CWP | RDPR_CANSAVE
      | RDPR_CANRESTORE | RDPR_CLEANWIN | RDPR_OTHERWIN | RDPR_WSTATE | RDPR_GL =>
    exact completes_readPriv ..
  case RDPR_TPC | RDPR_TNPC | RDPR_TSTATE | RDPR_TT =>
    exact completes_readTrapStack ..
  case ALLCLEAN | INVALW | NORMALW | OTHERW =>
    exact completes_windowOp s ⟨rfl, rfl⟩ rfl id
  case WRSOFTINT_SET | WRSOFTINT_CLR | WRSOFTINT | WRPR_TBA | WRPR_PSTATE | WRPR_TL | WRPR_PIL | WRPR_CWP
      | WRPR_CANSAVE | WRPR_CANRESTORE | WRPR_CLEANWIN | WRPR_OTHERWIN | WRPR_GL | WRSTICK_CMPR | WRPR_WSTATE =>
    exact completes_writePriv s ⟨rfl, rfl⟩ rfl id
  case NOP | MEMBAR | STBAR | WRY | WRCCR | WRASI | WRFPRS | WRPAUSE | PAUSE =>
    exact completes_next (Keeps.refl s).advance
  case WRMWAIT | MWAIT =>
    exact completes_next ((Keeps.refl s).writeMwait ..).advance
  case RDY | RDCCR | RDASI | RDPC | RDFPRS | RDCFR =>
    exact completes_next ((Keeps.refl s).writeR ..).advance
  case FLUSHW | PREFETCH | WRGSR | SIAM =>
    exact completes_finish (yields_then fun _ => yields_ok (Keeps.refl s).advance)
  case PREFETCHA =>
    exact completes_finish (yields_then fun _ => yields_then fun _ => yields_ok (Keeps.refl s).advance)
  case SDIVX | UDIVX | RDTICK | RDGSR | RDSTICK =>
    exact completes_finish (yields_then fun _ => yields_ok ((Keeps.refl s).writeR ..).advance)
  case RDPR_TICK =>
    exact completes_finish (yields_then fun _ => yields_then fun _ => yields_ok ((Keeps.refl s).writeR ..).advance)
  case ALIGNADDRESS | ALIGNADDRESS_LITTLE | BMASK =>
    exact completes_toRGsr ..
  case DES_KEXPAND =>
    exact completes_finish (yields_then fun _ => yields_then fun _ => yields_ok ((Keeps.refl s).writeFD ..).advance)
  case SHA1 =>
    exact completes_finish (yields_then fun _ => yields_ok ((Keeps.refl s).drawn.writeRun ..).advance)
  case LDTW | LDTXA =>
    exact completes_finish (yields_then fun _ => yields_then fun _ => yields_ok ((Keeps.refl s).loadTwin ..).advance)
  case LDTWA =>
    exact completes_finishOpen (((Keeps.refl s).openR ..).openR ..)
      (yields_then fun _ => yields_then fun _ => yields_ok ((Keeps.refl s).loadTwin ..).advance)
  case STTW =>
    exact completes_finish (yields_then fun _ => yields_then fun _ => yields_ok ((Keeps.refl s).storeTwin ..).advance)
  case STTWA =>
    exact completes_finish (yields_then fun _ => yields_then fun _ =>
      yields_ok (((Keeps.refl s).storeTwin ..).stbiEffect ..).advance)
  case LDSTUB | SWAP =>
    exact completes_finish (yields_then fun _ => yields_ok (keeps_exchange ..))
  case LDSTUBA | SWAPA =>
    exact completes_finishOpen ((Keeps.refl s).openR ..) (yields_then fun _ => yields_ok (keeps_exchange ..))
  case LDF =>
    exact completes_finish (yields_then fun _ => yields_then fun _ => yields_ok ((Keeps.refl s).writeFS ..).advance)
  case STF =>
    exact completes_finish (yields_then fun _ => yields_then fun _ => yields_ok ((Keeps.refl s).storeValue ..).advance)
  case LDDF =>
    exact completes_finish (yields_then fun _ => yields_then fun _ => yields_then fun _ =>
      yields_ok ((Keeps.refl s).writeFD ..).advance)
  case STDF | STPARTIALF =>
    exact completes_finish (yields_then fun _ => yields_then fun _ => yields_then fun _ =>
      yields_ok ((Keeps.refl s).storeValue ..).advance)
  case LDQF =>
    exact completes_finish (yields_then fun _ => yields_then fun _ => yields_then fun _ => yields_then fun _ =>
      yields_then fun _ => yields_ok ((Keeps.refl s).writeFQ ..).advance)
  case STQF =>
    exact completes_finish (yields_then fun _ => yields_then fun _ => yields_then fun _ => yields_then fun _ =>
      yields_then fun _ => yields_ok ((Keeps.refl s).storeValue ..).advance)
  case LDFA =>
    exact completes_finishOpen ((Keeps.refl s).drawn.writeFS ..)
      (yields_then fun _ => yields_then fun _ => yields_ok ((Keeps.refl s).writeFS ..).advance)
  case LDQFA =>
    exact completes_finishOpen ((Keeps.refl s).drawn.drawn.writeFQ ..)
      (yields_then fun _ => yields_then fun _ => yields_then fun _ => yields_then fun _ => yields_then fun _ =>
        yields_ok ((Keeps.refl s).writeFQ ..).advance)
  case STFA =>
    exact completes_finish (yields_then fun _ => yields_then fun _ =>
      yields_ok (((Keeps.refl s).storeValue ..).stbiEffect ..).advance)
  case STQFA =>
    exact completes_finish (yields_then fun _ => yields_then fun _ => yields_then fun _ => yields_then fun _ =>
      yields_then fun _ => yields_ok (((Keeps.refl s).storeValue ..).stbiEffect ..).advance)
  case LDBLOCKF =>
    exact completes_finish (yields_blockLoad ..)
  case LDSHORTF =>
    exact completes_finish (yields_shortLoad ..)
  case STBLOCKF =>
    exact completes_finish (yields_blockStore ..)
  case STSHORTF =>
    exact completes_finish (yields_shortStore ..)
  case MULScc =>
    exact completes_next (Keeps.advance (t := { writeR s _ _ with y := _, ccr := _ }) ((Keeps.refl s).writeR ..))
  case TADDccTV | TSUBccTV =>
    exact completes_finish (yields_then fun _ => yields_ok
      (Keeps.advance (t := { writeR s _ _ with ccr := _ }) ((Keeps.refl s).writeR ..)))
  case CALL =>
    exact completes_CALL ..
  case JMPL =>
    exact completes_JMPL ..
  case RETURN =>
    exact completes_RETURN ..
  case DONE =>
    exact completes_DONE ..
  case RETRY =>
    exact completes_RETRY ..
  case SAVE =>
    exact completes_SAVE ..
  case RESTORE =>
    exact completes_RESTORE ..
  case SAVED =>
    exact completes_SAVED ..
  case RESTORED =>
    exact completes_RESTORED ..
  case LDXA =>
    exact completes_LDXA ..
  case STXA =>
    exact completes_STXA ..
  case FLUSH =>
    exact completes_FLUSH ..
  case LDDFA =>
    exact completes_LDDFA ..
  case STDFA =>
    exact completes_STDFA ..
  case FADDq =>
    exact completes_FADDq ..
  case WRPR_TPC =>
    exact completes_writeTrapStack s (fun _ => wordAligned_clearPcLow _) fun h => (trapEntry_aligned h).2
  case WRPR_TNPC =>
    exact completes_writeTrapStack s (fun h => (trapEntry_aligned h).1) fun _ => wordAligned_clearPcLow _
  case WRPR_TSTATE | WRPR_TT =>
    exact completes_writeTrapStack s (fun h => (trapEntry_aligned h).1) fun h => (trapEntry_aligned h).2
  case ILLTRAP const22 =>
    exact completes_takeTrap (s := s) .illegalInstruction
  case BN a disp22 =>
    exact completes_branchIcc s .n s.ccr.icc a disp22
  case BPN a cc p disp19 =>
    exact completes_branchIcc s .n (selectCc s cc) a disp19
  case TN cc rs1 op2 =>
    exact completes_trapIcc s .n cc rs1 op2
  case LDXEFSR rs1 op2 =>
    exact completes_loadFsr s 8 (fun par x w => { x.loadWide par w with ftt := field w 14 3 }) rs1 op2

theorem takeTrap_keeps {e : Exc} {s t : State} (h : takeTrap e s = .next t) :
    (t.par = s.par ∧ t.env = s.env) ∧ t.mem = s.mem ∧ (countersAligned s → countersAligned t) ∧ t.tl ≠ 0 := by
  obtain ⟨tt, -, -, -, -, rfl⟩ := takeTrap_next h
  refine ⟨⟨rfl, rfl⟩, rfl, fun ⟨hpc, hnpc, htpc1, htnpc1, htpc2, htnpc2⟩ => ?_, ?_⟩
  · have hentry (v : Word64) (hv : wordAligned v) : wordAligned (if s.pstate.am && tt != 0x074 then low32 v else v) := by
      split
      · exact wordAligned_low32 hv
      · exact hv
    have hvector := wordAligned_trapVector { s with fsr := e.recordFsr s.fsr } tt
    refine ⟨hvector, wordAligned_add hvector wordAligned_four, ?_⟩
    unfold enterTrap
    dsimp only
    split
    · exact ⟨hentry _ hpc, hentry _ hnpc, htpc2, htnpc2⟩
    · exact ⟨htpc1, htnpc1, hentry _ hpc, hentry _ hnpc⟩
  · unfold enterTrap
    dsimp only
    split
    · decide
    · decide

/-- Whether it traps or not, an instruction keeps the parameters, canonical memory and aligned program counters. -/
theorem exec_keeps {i : Instr} {s t : State} (h : exec i s = .next t) :
    (t.par = s.par ∧ t.env = s.env) ∧ (s.mem.wf = true → t.mem.wf = true) ∧ (countersAligned s → countersAligned t) := by
  rcases (exec_completes i s).trap_or_keeps t h with ⟨e, htrap⟩ | ⟨hpar, hmem, hcounters, -⟩
  · obtain ⟨hpar, hmem, hcounters, -⟩ := takeTrap_keeps htrap
    exact ⟨hpar, fun hs => hmem ▸ hs, hcounters⟩
  · exact ⟨hpar, hmem, hcounters⟩

/-- Settles O9: memory changes by writes of bytes alone, in instructions and in the environment, and each keeps the
canonical form. -/
theorem canonicalMemoryKept : Obligations.CanonicalMemoryKept := by
  unfold Obligations.CanonicalMemoryKept
  intro s t hs h
  refine step_keeps (fun s => s.mem.wf = true) ?wake ?trap ?asr ?instruction ?environment hs h
  case wake => exact fun _ _ _ hs => hs
  case trap =>
    intro s e u hs hu
    obtain ⟨-, hmem, -⟩ := takeTrap_keeps hu
    exact hmem ▸ hs
  case asr =>
    intro s hs
    obtain ⟨-, hmem, -⟩ := (Keeps.refl s).advance
    refine ⟨hmem hs, fun rd => ?_⟩
    obtain ⟨-, hmem, -⟩ := ((Keeps.refl s).openR 8 unsignedBytes rd).advance
    exact hmem hs
  case instruction =>
    intro s i u hs hu
    obtain ⟨-, hmem, -⟩ := exec_keeps hu
    exact hmem hs
  case environment => exact fun _ hs => wf_elapse hs

/-- Settles O10: every new program counter is an aligned one plus a multiple of 4, a checked target, a handler's
address, or a saved one. -/
theorem alignedCountersKept : Obligations.AlignedCountersKept := by
  unfold Obligations.AlignedCountersKept
  intro s t hs h
  refine step_keeps countersAligned ?wake ?trap ?asr ?instruction ?environment hs h
  case wake => exact fun _ _ _ hs => hs
  case trap =>
    intro s e u hs hu
    obtain ⟨-, -, hcounters, -⟩ := takeTrap_keeps hu
    exact hcounters hs
  case asr =>
    intro s hs
    obtain ⟨-, -, hcounters, -⟩ := (Keeps.refl s).advance
    refine ⟨hcounters hs, fun rd => ?_⟩
    obtain ⟨-, -, hcounters, -⟩ := ((Keeps.refl s).openR 8 unsignedBytes rd).advance
    exact hcounters hs
  case instruction =>
    intro s i u hs hu
    obtain ⟨-, -, hcounters⟩ := exec_keeps hu
    exact hcounters hs
  case environment =>
    intro s hs
    rw [elapse_shape]
    exact hs

/-- Settles O12: without a trap, only an instruction that checks for privileged mode changes a privileged register. -/
theorem userModeIsolation : Obligations.UserModeIsolation := by
  unfold Obligations.UserModeIsolation
  intro s t i h huser _ htl
  rcases (exec_completes i s).trap_or_keeps t h with ⟨e, htrap⟩ | ⟨-, -, -, hpriv⟩
  · obtain ⟨-, -, -, hraised⟩ := takeTrap_keeps htrap
    exact absurd htl hraised
  · simpa only [privilegedRegs, Prod.mk.injEq] using hpriv huser

/-- Settles O11: instructions and traps keep both fields, and the environment keeps the parameters and goes on to the
next list. -/
theorem parametersKept : Obligations.ParametersKept := by
  unfold Obligations.ParametersKept
  intro s t h
  obtain ⟨-, u, hboundary, rfl⟩ := step_next h
  suffices hu : u.par = s.par ∧ u.env = s.env by
    obtain ⟨hpar, henv⟩ := hu
    refine ⟨?_, (elapse_env u).trans (by rw [henv])⟩
    rw [elapse_shape]
    exact hpar
  rcases boundary_next hboundary with ⟨-, rfl⟩ | ⟨r, hr, hu⟩
  · exact ⟨rfl, rfl⟩
  · have hwoken : r.par = s.par ∧ r.env = s.env := by
      rcases hr with rfl | ⟨delay, count, rfl⟩
      · exact ⟨rfl, rfl⟩
      · exact ⟨rfl, rfl⟩
    have hrun : u.par = r.par ∧ u.env = r.env := by
      rcases hu with ⟨e, htrap⟩ | (rfl | ⟨rd, rfl⟩) | ⟨w, i, -, -, -, hexec⟩
      · exact (takeTrap_keeps htrap).1
      · exact (Keeps.refl r).advance.1
      · exact ((Keeps.refl r).openR 8 unsignedBytes rd).advance.1
      · exact (exec_keeps hexec).1
    exact ⟨hrun.1.trans hwoken.1, hrun.2.trans hwoken.2⟩

end Sys2Proof.Machine
end

section
/-!
PROOF. Integer instructions: what each of the shared forms answers, the condition codes of exact sums and differences,
and the obligations on the integer instructions.
-/

namespace Sys2Proof.Machine

open Sys2Proof

/-! ## The shape of an answer with one R register written -/

/-- A write to R[n] depends on the register files, GL and CWP alone, and changes nothing but the files. -/
theorem writeR_congr {s u : State} (hg : u.g = s.g) (hw : u.w = s.w) (hgl : u.gl = s.gl) (hc : u.cwp = s.cwp)
    (n : Reg) (v : Word64) : writeR u n v = { u with g := (writeR s n v).g, w := (writeR s n v).w } := by
  have hgs : (writeR u n v).g = (writeR s n v).g := by
    unfold writeR
    simp only [hg, hgl]
    split
    · exact hg
    · split
      · rfl
      · rfl
  have hws : (writeR u n v).w = (writeR s n v).w := by
    unfold writeR
    simp only [hw, hc]
    split
    · exact hw
    · split
      · rfl
      · rfl
  rw [writeR_shape u n v, hgs, hws]

/-- An answer that is `u` with the files of a state of the same windows after a write of R[rd]. -/
theorem nextWithR_files {s t u : State} {rd : Reg} {v : Word64} (hg : u.g = s.g) (hw : u.w = s.w) (hgl : u.gl = s.gl)
    (hc : u.cwp = s.cwp) (ht : t = { u with g := (writeR s rd v).g, w := (writeR s rd v).w }) :
    nextWithR (.next t) u rd v :=
  nextWithR_of (ht.trans (writeR_congr hg hw hgl hc rd v).symm)

theorem nextWithR_result (s : State) (rd : Reg) (v : Word64) : nextWithR (result s rd v) (advance s) rd v :=
  nextWithR_advance s rd v

theorem nextWithR_resultCc (s : State) (rd : Reg) (v : Word64) (x : Ccr) :
    nextWithR (resultCc s rd v x) { advance s with ccr := x } rd v := by
  refine nextWithR_files (s := s) rfl rfl rfl rfl ?_
  rw [writeR_shape]
  rfl

/-! ## Products without carries -/

theorem bit_xmulBits (a : Word128) (b : Word64) (n i : Nat) :
    bit (xmulBits a b n) i =
      (List.range n).foldl (fun acc j => acc ^^ (bit b j && (decide (j ≤ i ∧ i < 128) && bit a (i - j)))) false := by
  induction n with
  | zero => simp [xmulBits, bit]
  | succ n ih =>
    have hterm : bit (if bit b n then a <<< n else 0) i = (bit b n && (decide (n ≤ i ∧ i < 128) && bit a (i - n))) := by
      cases bit b n
      · simp [bit]
      · have hrange : (decide (i < 128) && !decide (i < n)) = decide (n ≤ i ∧ i < 128) := by
          rw [Bool.eq_iff_iff]
          simp [and_comm]
        simp only [bit, if_true, Bool.true_and, ← hrange]
        exact BitVec.getLsbD_shiftLeft ..
    rw [List.range_succ, List.foldl_append, ← ih]
    simp only [xmulBits, List.foldl_cons, List.foldl_nil]
    rw [← hterm]
    exact BitVec.getLsbD_xor

/-- An exclusive or over a range is the parity of the number of its terms that are true. -/
theorem foldl_xor_range (f : Nat → Bool) (n : Nat) :
    (List.range n).foldl (fun acc j => acc ^^ f j) false =
      decide ((∑ j ∈ Finset.range n, (f j).toNat) % 2 = 1) := by
  induction n with
  | zero => rfl
  | succ n ih =>
    rw [List.range_succ, List.foldl_append, Finset.sum_range_succ, ih]
    simp only [List.foldl_cons, List.foldl_nil]
    cases f n
    · simp
    · by_cases h : (∑ j ∈ Finset.range n, (f j).toNat) % 2 = 1
      · simp [h, Nat.add_mod]
      · have h0 : (∑ j ∈ Finset.range n, (f j).toNat) % 2 = 0 := by omega
        simp [h0, Nat.add_mod]

/-- Bit `i` of the exclusive-or product is that of the product without carries (R446). -/
theorem bit_xmul (a b : Word64) {i : Nat} (hi : i < 128) : bit (xmul a b) i = carrylessBit a b i := by
  unfold xmul carrylessBit
  rw [bit_xmulBits, foldl_xor_range, foldl_xor_range (fun j => a.getLsbD j && b.getLsbD (i - j))]
  suffices hsum : ∑ j ∈ Finset.range 64, (bit b j && (decide (j ≤ i ∧ i < 128) && bit (a.setWidth 128) (i - j))).toNat =
      ∑ j ∈ Finset.range (i + 1), (a.getLsbD j && b.getLsbD (i - j)).toNat by rw [hsum]
  have hterm : ∀ j, j ≤ i →
      (bit b j && (decide (j ≤ i ∧ i < 128) && bit (a.setWidth 128) (i - j))) = (a.getLsbD (i - j) && b.getLsbD j) := by
    intro j hj
    simp only [hj, hi, bit, BitVec.getLsbD_setWidth, and_self, decide_true, Bool.true_and]
    rw [Bool.and_comm, decide_eq_true (show i - j < 128 by omega), Bool.true_and]
  have hflip : ∑ j ∈ Finset.range (i + 1), (a.getLsbD j && b.getLsbD (i - j)).toNat =
      ∑ j ∈ Finset.range (i + 1), (bit b j && (decide (j ≤ i ∧ i < 128) && bit (a.setWidth 128) (i - j))).toNat := by
    rw [← Finset.sum_flip]
    refine Finset.sum_congr rfl fun j hj => ?_
    have hle : j ≤ i := Nat.lt_succ_iff.mp (Finset.mem_range.mp hj)
    rw [hterm j hle, Nat.sub_sub_self hle]
  rw [hflip]
  refine Finset.sum_congr_of_eq_on_inter ?_ ?_ fun j _ _ => rfl
  · intro j _ hj
    have hgt : ¬ j ≤ i := fun h => hj (Finset.mem_range.mpr (Nat.lt_succ_of_le h))
    simp [hgt]
  · intro j _ hj
    have hge : 64 ≤ j := Nat.not_lt.mp fun h => hj (Finset.mem_range.mpr h)
    simp [bit, BitVec.getLsbD_of_ge b j hge]

/-- The bits of a word that is built bit by bit. -/
theorem bit_buildLanes_one (n : Nat) (f : Nat → Bool) {i : Nat} (hi : i < n) :
    bit (buildLanes n 1 n fun j => BitVec.ofBool (f j)) i = f i := by
  have hlane := congrArg (fun x => bit x 0) (lane_buildLanes (n := n) (w := 1) (count := n) (by omega)
    (fun j => BitVec.ofBool (f j)) hi)
  simpa [lane, field, bit] using hlane

/-- Sixty-four bits of the exclusive-or product from bit `lo` on. -/
theorem field_xmul (a b : Word64) {lo : Nat} (hlo : lo ≤ 64) :
    field (xmul a b) lo 64 = buildLanes 64 1 64 fun i => BitVec.ofBool (carrylessBit a b (lo + i)) := by
  apply BitVec.eq_of_getLsbD_eq
  intro i hi
  have hbuilt := bit_buildLanes_one 64 (fun i => carrylessBit a b (lo + i)) hi
  have hxor := bit_xmul a b (show lo + i < 128 by omega)
  unfold bit at hbuilt hxor
  rw [hbuilt, ← hxor]
  simp [field, hi]

/-! ## Results without condition codes -/

/-- Each instruction of `intRegRows` writes the value of its row to R[rd]. -/
theorem exec_intRegRows (rd rs1 rs2 : Reg) (s : State) :
    ∀ r ∈ intRegRows, exec (r.1 rd rs1 rs2) s = result s rd (r.2 s (readR s rs1) (readR s rs2)) := by
  simp only [intRegRows, List.forall_mem_cons]
  refine ⟨?ADDXC, ?SUBXC, ?UMULXHI, ?XMULX, ?XMULXHI, nofun⟩
  case ADDXC => exact congrArg (result s rd) (addSum_eq ..)
  case SUBXC => exact congrArg (result s rd) (subDiff_eq ..)
  case UMULXHI => rfl
  case XMULX =>
    have hlow := field_xmul (readR s rs1) (readR s rs2) (Nat.zero_le 64)
    simp only [Nat.zero_add] at hlow
    exact congrArg (result s rd) hlow
  case XMULXHI => exact congrArg (result s rd) (field_xmul _ _ (le_refl 64))

/-- Settles O22: every row answers `result` of its value. -/
theorem integerResults : Obligations.IntegerResults := by
  intro s rd rs1 rs2 op2
  refine ⟨fun r hr => ?_, fun r hr => ?_⟩
  · rw [exec_intRows rd rs1 op2 s r hr]
    exact nextWithR_result ..
  · rw [exec_intRegRows rd rs1 rs2 s r hr]
    exact nextWithR_result ..

end Sys2Proof.Machine
end

section
/-!
PROOF. Condition codes (R139 to R141): those of the model are those of the exact sums and differences.
-/

namespace Sys2Proof.Machine

open Sys2Proof

/-! ## Exact sums and differences -/

theorem fits_iff {n : Nat} (x : Int) : fits n x = true ↔ -(2 ^ (n - 1)) ≤ x ∧ x < 2 ^ (n - 1) := decide_eq_true_iff

/-- The signed value of a word that is a number modulo 2ⁿ, where that number is at most one bit too wide. -/
theorem toInt_wrapped {n : Nat} (hn : 0 < n) {z : BitVec n} {x : Int} (hz : z = BitVec.ofInt n x)
    (hlow : -(2 ^ n) ≤ x) (hhigh : x < 2 ^ n) :
    z.toInt = if x < -(2 ^ (n - 1)) then x + 2 ^ n else if x < 2 ^ (n - 1) then x else x - 2 ^ n := by
  have hpow : (2 : Int) ^ n = 2 * 2 ^ (n - 1) := by
    rw [← pow_succ', Nat.sub_add_cancel hn]
  have hbmod : ∀ y : Int, -(2 ^ (n - 1)) ≤ y → y < 2 ^ (n - 1) → y.bmod (2 ^ n) = y := fun y hle hlt =>
    Int.bmod_eq_of_le_mul_two (by push_cast; omega) (by push_cast; omega)
  have hup : (x + 2 ^ n).bmod (2 ^ n) = x.bmod (2 ^ n) := by simpa using Int.add_bmod_right x (2 ^ n)
  have hdown : (x - 2 ^ n).bmod (2 ^ n) = x.bmod (2 ^ n) := by simpa using Int.sub_bmod_right x (2 ^ n)
  rw [hz, BitVec.toInt_ofInt]
  split
  · rw [← hup]
    exact hbmod _ (by omega) (by omega)
  · split
    · exact hbmod _ (by omega) (by omega)
    · rw [← hdown]
      exact hbmod _ (by omega) (by omega)

/-- A signed value lies in the range of its width. -/
theorem toInt_range {n : Nat} (hn : 0 < n) (a : BitVec n) : -(2 ^ (n - 1)) ≤ a.toInt ∧ a.toInt < 2 ^ (n - 1) := by
  have hpow : (2 : Int) ^ n = 2 * 2 ^ (n - 1) := by
    rw [← pow_succ', Nat.sub_add_cancel hn]
  have hlow := BitVec.le_two_mul_toInt (x := a)
  have hhigh := BitVec.two_mul_toInt_lt (x := a)
  constructor <;> omega

/-- Signed overflow of a sum shows in the sign bits (R139). -/
theorem overflow_add {n : Nat} (hn : 0 < n) (a b z : BitVec n) (c : Bool)
    (hz : z = BitVec.ofInt n (a.toInt + b.toInt + oneInt c)) :
    ((a.msb == b.msb) && (z.msb != a.msb)) = !fits n (a.toInt + b.toInt + oneInt c) := by
  have hpow : (2 : Int) ^ n = 2 * 2 ^ (n - 1) := by
    rw [← pow_succ', Nat.sub_add_cancel hn]
  have hpos : (0 : Int) < 2 ^ (n - 1) := by positivity
  have ha := toInt_range hn a
  have hb := toInt_range hn b
  have hc : oneInt c = 0 ∨ oneInt c = 1 := by cases c <;> simp [oneInt]
  have hzi := toInt_wrapped hn hz (by omega) (by omega)
  rw [Bool.eq_iff_iff]
  simp only [BitVec.msb_eq_toInt, Bool.and_eq_true, beq_iff_eq, bne_iff_ne, ne_eq, decide_eq_decide, Bool.not_eq_true',
    ← Bool.not_eq_true, fits_iff]
  split at hzi
  · omega
  · split at hzi <;> omega

/-- Signed overflow of a difference shows in the sign bits (R140). -/
theorem overflow_sub {n : Nat} (hn : 0 < n) (a b z : BitVec n) (c : Bool)
    (hz : z = BitVec.ofInt n (a.toInt - b.toInt - oneInt c)) :
    ((a.msb != b.msb) && (z.msb != a.msb)) = !fits n (a.toInt - b.toInt - oneInt c) := by
  have hpow : (2 : Int) ^ n = 2 * 2 ^ (n - 1) := by
    rw [← pow_succ', Nat.sub_add_cancel hn]
  have hpos : (0 : Int) < 2 ^ (n - 1) := by positivity
  have ha := toInt_range hn a
  have hb := toInt_range hn b
  have hc : oneInt c = 0 ∨ oneInt c = 1 := by cases c <;> simp [oneInt]
  have hzi := toInt_wrapped hn hz (by omega) (by omega)
  rw [Bool.eq_iff_iff]
  simp only [BitVec.msb_eq_toInt, Bool.and_eq_true, bne_iff_ne, ne_eq, decide_eq_decide, Bool.not_eq_true',
    ← Bool.not_eq_true, fits_iff]
  split at hzi
  · omega
  · split at hzi <;> omega

/-! ## The words of sums and differences -/

/-- A difference of integers modulo 2ⁿ. -/
theorem ofInt_sub_eq {n : Nat} (x y : Int) : BitVec.ofInt n (x - y) = BitVec.ofInt n x - BitVec.ofInt n y := by
  rw [eq_sub_iff_add_eq, ← BitVec.ofInt_add, Int.sub_add_cancel]

theorem one_eq_ofInt (c : Bool) : one c = BitVec.ofInt 64 (oneInt c) := by cases c <;> rfl

/-- A sum with carry is the exact sum modulo 2⁶⁴. -/
theorem add_one_eq_ofInt (a b : Word64) (c : Bool) : a + b + one c = BitVec.ofInt 64 (a.toInt + b.toInt + oneInt c) := by
  rw [BitVec.ofInt_add, BitVec.ofInt_add, BitVec.ofInt_toInt, BitVec.ofInt_toInt, one_eq_ofInt]

theorem sub_one_eq_ofInt (a b : Word64) (c : Bool) : a - b - one c = BitVec.ofInt 64 (a.toInt - b.toInt - oneInt c) := by
  rw [ofInt_sub_eq, ofInt_sub_eq, BitVec.ofInt_toInt, BitVec.ofInt_toInt, one_eq_ofInt]

theorem field_low_eq_setWidth {n len : Nat} (x : BitVec n) : field x 0 len = x.setWidth len := by
  apply BitVec.eq_of_toNat_eq
  simp [field]

/-- The lower half of a sum with carry is that of the halves. -/
theorem field_add_one (a b : Word64) (c : Bool) :
    field (a + b + one c) 0 32 = BitVec.ofInt 32 ((field a 0 32).toInt + (field b 0 32).toInt + oneInt c) := by
  have hone : (one c).setWidth 32 = BitVec.ofInt 32 (oneInt c) := by cases c <;> rfl
  simp only [field_low_eq_setWidth]
  rw [BitVec.ofInt_add, BitVec.ofInt_add, BitVec.ofInt_toInt, BitVec.ofInt_toInt, ← hone, BitVec.setWidth_add _ _ (by omega),
    BitVec.setWidth_add _ _ (by omega)]

theorem field_sub_one (a b : Word64) (c : Bool) :
    field (a - b - one c) 0 32 = BitVec.ofInt 32 ((field a 0 32).toInt - (field b 0 32).toInt - oneInt c) := by
  have hone : (one c).setWidth 32 = BitVec.ofInt 32 (oneInt c) := by cases c <;> rfl
  simp only [field_low_eq_setWidth]
  rw [ofInt_sub_eq, ofInt_sub_eq, BitVec.ofInt_toInt, BitVec.ofInt_toInt, ← hone]
  apply BitVec.eq_of_toNat_eq
  simp only [BitVec.toNat_setWidth, BitVec.toNat_sub]
  omega

/-! ## The codes -/

theorem bit_top_64 (x : Word64) : bit x 63 = x.msb := by
  rw [BitVec.msb_eq_getLsbD_last]
  rfl

theorem bit_top_32 (x : Word64) : bit x 31 = (field x 0 32).msb := by
  rw [BitVec.msb_eq_getLsbD_last]
  simp [bit, field]

theorem beq_zero_eq_decide {n : Nat} (x : BitVec n) : (x == 0) = decide (x = 0) := by
  rw [Bool.eq_iff_iff, beq_iff_eq, decide_eq_true_iff]

/-- The codes of a sum (R139). -/
theorem addFlags_eq (a b : Word64) (c : Bool) : addFlags a b c = sumCodes a b c := by
  have hwide := overflow_add (n := 64) (by omega) a b (a + b + one c) c (add_one_eq_ofInt a b c)
  have hlow := overflow_add (n := 32) (by omega) (field a 0 32) (field b 0 32) _ c (field_add_one a b c)
  simp only [addFlags, sumCodes, codes, addSum_eq, bit_top_64, bit_top_32, beq_zero_eq_decide, hwide, hlow]

/-- The codes of a difference (R140). -/
theorem subFlags_eq (a b : Word64) (c : Bool) : subFlags a b c = diffCodes a b c := by
  have hwide := overflow_sub (n := 64) (by omega) a b (a - b - one c) c (sub_one_eq_ofInt a b c)
  have hlow := overflow_sub (n := 32) (by omega) (field a 0 32) (field b 0 32) _ c (field_sub_one a b c)
  simp only [subFlags, diffCodes, codes, subDiff_eq, bit_top_64, bit_top_32, beq_zero_eq_decide, hwide, hlow]

/-- The codes of a logical result (R141). -/
theorem logicFlags_eq (x : Word64) : logicFlags x = logicCodes x := by
  simp only [logicFlags, logicCodes, codes, bit_top_64, bit_top_32, beq_zero_eq_decide]

theorem divFlags_eq (x : Word64) (v : Bool) : divFlags x v = codes x false false v false := by
  simp only [divFlags, logicFlags_eq, logicCodes, codes]

/-- A tag bit of an operand is 1 (R182). -/
theorem tags_eq (a b : Word64) : ((field a 0 2 != 0) || (field b 0 2 != 0)) = !tagsClear a b := by
  have hlow : ∀ x : Word64, (field x 0 2 = 0) ↔ x.toNat % 4 = 0 := by
    intro x
    rw [field_low_eq_setWidth, ← BitVec.toNat_inj]
    simp
  rw [Bool.eq_iff_iff]
  rw [Bool.or_eq_true, bne_iff_ne, bne_iff_ne, Bool.not_eq_true', tagsClear, decide_eq_false_iff_not, not_and_or, Ne, Ne,
    hlow, hlow]

theorem tagAddOverflow_eq (a b : Word64) : tagAddOverflow a b = (!tagsClear a b || (sumCodes a b false).icc.v) := by
  rw [tagAddOverflow, tags_eq, addFlags_eq]

theorem tagSubOverflow_eq (a b : Word64) : tagSubOverflow a b = (!tagsClear a b || (diffCodes a b false).icc.v) := by
  rw [tagSubOverflow, tags_eq, subFlags_eq]

theorem withIccV_tagged (x : Ccr) (a b : Word64) : x.withIccV (!tagsClear a b || x.icc.v) = tagged x a b := by
  rw [tagged, Ccr.withIccV, Bool.or_comm]

/-! ## Integer instructions with condition codes -/

/-- Each instruction of `intCcRows` writes the value of its row to R[rd], and its codes. -/
theorem exec_intCcRows (rd rs1 : Reg) (op2 : RegImm 13) (s : State) :
    ∀ r ∈ intCcRows, exec (r.1 rd rs1 op2) s =
      resultCc s rd (r.2.1 s (readR s rs1) (operand2 s op2)) (r.2.2 s (readR s rs1) (operand2 s op2)) := by
  simp only [intCcRows, List.forall_mem_cons]
  refine ⟨?ADDcc, ?ADDCcc, ?SUBcc, ?SUBCcc, ?TADDcc, ?TSUBcc, ?ANDcc, ?ORcc, ?XORcc, ?ANDNcc, ?ORNcc, ?XNORcc, nofun⟩
  case ADDcc => exact congrArg₂ (resultCc s rd) (addSum_false ..) (addFlags_eq ..)
  case ADDCcc => exact congrArg₂ (resultCc s rd) (addSum_eq ..) (addFlags_eq ..)
  case SUBcc => exact congrArg₂ (resultCc s rd) (subDiff_false ..) (subFlags_eq ..)
  case SUBCcc => exact congrArg₂ (resultCc s rd) (subDiff_eq ..) (subFlags_eq ..)
  case TADDcc =>
    refine congrArg₂ (resultCc s rd) (addSum_false ..) ?_
    rw [tagAddOverflow_eq, addFlags_eq, withIccV_tagged]
  case TSUBcc =>
    refine congrArg₂ (resultCc s rd) (subDiff_false ..) ?_
    rw [tagSubOverflow_eq, subFlags_eq, withIccV_tagged]
  all_goals exact congrArg (resultCc s rd _) (logicFlags_eq _)

theorem exec_intRegCcRows (rd rs1 rs2 : Reg) (s : State) :
    ∀ r ∈ intRegCcRows, exec (r.1 rd rs1 rs2) s =
      resultCc s rd (r.2.1 s (readR s rs1) (readR s rs2)) (r.2.2 s (readR s rs1) (readR s rs2)) := by
  simp only [intRegCcRows, List.forall_mem_cons]
  refine ⟨?ADDXCcc, ?SUBXCcc, nofun⟩
  case ADDXCcc => exact congrArg₂ (resultCc s rd) (addSum_eq ..) (addFlags_eq ..)
  case SUBXCcc => exact congrArg₂ (resultCc s rd) (subDiff_eq ..) (subFlags_eq ..)

/-- The trapping tagged operations: tag_overflow, or the result with its codes (R184, R186). -/
theorem exec_tagTrapRows (rd rs1 : Reg) (op2 : RegImm 13) (s : State) :
    ∀ r ∈ tagTrapRows, exec (r.1 rd rs1 op2) s =
      if tagsClear (readR s rs1) (operand2 s op2) && !(r.2.2 (readR s rs1) (operand2 s op2)).icc.v then
        resultCc s rd (r.2.1 (readR s rs1) (operand2 s op2)) (r.2.2 (readR s rs1) (operand2 s op2))
      else takeTrap .tagOverflow s := by
  have hclear : ∀ (x : Ccr), x.icc.v = false → x.withIccV false = x := by
    rintro ⟨x, i⟩ h
    simp only [Ccr.withIccV, ← h]
  simp only [tagTrapRows, List.forall_mem_cons]
  refine ⟨?TADDccTV, ?TSUBccTV, nofun⟩
  case TADDccTV =>
    refine (finish_require ..).trans ?_
    rw [tagAddOverflow_eq, addFlags_eq, addSum_false]
    cases tagsClear (readR s rs1) (operand2 s op2)
    · rfl
    · cases hv : (sumCodes (readR s rs1) (operand2 s op2) false).icc.v
      · rw [hclear _ hv]; rfl
      · rfl
  case TSUBccTV =>
    refine (finish_require ..).trans ?_
    rw [tagSubOverflow_eq, subFlags_eq, subDiff_false]
    cases tagsClear (readR s rs1) (operand2 s op2)
    · rfl
    · cases hv : (diffCodes (readR s rs1) (operand2 s op2) false).icc.v
      · rw [hclear _ hv]; rfl
      · rfl

/-- Settles O23: every row answers `resultCc` of its value and its exact codes, or tag_overflow. -/
theorem integerCodes : Obligations.IntegerCodes := by
  refine ⟨fun s rd rs1 rs2 op2 => ⟨fun r hr => ?cc, fun r hr => ?regs⟩, fun s rd rs1 op2 r hr => ?tags⟩
  case cc =>
    rw [exec_intCcRows rd rs1 op2 s r hr]
    exact nextWithR_resultCc ..
  case regs =>
    rw [exec_intRegCcRows rd rs1 rs2 s r hr]
    exact nextWithR_resultCc ..
  case tags =>
    dsimp only
    rw [exec_tagTrapRows rd rs1 op2 s r hr]
    refine ⟨fun hclear hv => ?_, fun hbad => ?_⟩
    · rw [hclear, hv]
      exact nextWithR_resultCc ..
    · obtain hclear | hv := hbad
      · rw [hclear]; rfl
      · rw [hv, Bool.not_true, Bool.and_false]; rfl

end Sys2Proof.Machine
end

section
/-!
PROOF. Multiplies, divides, shifts, counts and conditional moves.
-/

namespace Sys2Proof.Machine

open Sys2Proof

/-! ## Multiplication -/

theorem toNat_append_eq {m n : Nat} (x : BitVec m) (y : BitVec n) : (x ++ y).toNat = 2 ^ n * x.toNat + y.toNat := by
  rw [BitVec.toNat_append, Nat.shiftLeft_eq, Nat.mul_comm, ← Nat.two_pow_add_eq_or_of_lt y.isLt]

theorem toNat_field {n : Nat} (x : BitVec n) (lo len : Nat) : (field x lo len).toNat = x.toNat / 2 ^ lo % 2 ^ len := by
  rw [field, BitVec.extractLsb'_toNat, Nat.shiftRight_eq_div_pow]

theorem toNat_low32 (x : Word64) : (low32 x).toNat = lowNat x := by
  rw [low32_eq, lowNat, toNat_field, BitVec.toNat_ofNat]
  omega

theorem umulProduct_eq (a b : Word64) : umulProduct a b = BitVec.ofNat 64 (lowNat a * lowNat b) := by
  apply BitVec.eq_of_toNat_eq
  rw [umulProduct, BitVec.toNat_mul, BitVec.toNat_ofNat, toNat_low32, toNat_low32]

theorem nextWithR_multiply32 (product : Word64 → Word64 → Word64) (cc : Bool) (rd rs1 : Reg) (op2 : RegImm 13)
    (s : State) {p : Word64} (hp : product (readR s rs1) (operand2 s op2) = p) :
    nextWithR (multiply32 product cc rd rs1 op2 s)
      { advance s with y := field p 32 32, ccr := if cc then logicCodes p else s.ccr } rd p := by
  rw [multiply32_eq, hp, logicFlags_eq]
  refine nextWithR_files (s := s) rfl rfl rfl rfl ?_
  rw [writeR_shape]
  rfl

/-- The shifted word of a multiply step (R198). -/
theorem mulStep_fst (s : State) (a b : Word64) :
    (mulStep s a b).1 = BitVec.ofNat 64 ((if s.ccr.icc.n = s.ccr.icc.v then 0 else 2 ^ 31) + lowNat a / 2) := by
  apply BitVec.eq_of_toNat_eq
  have hlow : lowNat a / 2 = a.toNat / 2 % 2 ^ 31 := by
    rw [lowNat, toNat_field]
    omega
  simp only [mulStep, BitVec.toNat_setWidth, toNat_append_eq, toNat_field, BitVec.toNat_ofNat, hlow]
  cases s.ccr.icc.n <;> cases s.ccr.icc.v <;> simp [flag]

/-- The operand that a multiply step adds (R198). -/
theorem mulStep_snd (s : State) (a b : Word64) :
    (mulStep s a b).2 = if s.y.toNat % 2 = 1 then BitVec.ofNat 64 (lowNat b) else 0 := by
  have hbit : bit s.y 0 = decide (s.y.toNat % 2 = 1) := by
    simp [bit, BitVec.getLsbD, Nat.testBit_zero]
  have hlow : low32 b = BitVec.ofNat 64 (lowNat b) := by
    apply BitVec.eq_of_toNat_eq
    rw [toNat_low32, BitVec.toNat_ofNat, lowNat, toNat_field]
    omega
  simp only [mulStep, hbit, hlow, decide_eq_true_eq]

/-- Y after a multiply step (R198). -/
theorem shifted_y (y : BitVec 32) (a : Word64) :
    flag (bit a 0) ++ field y 1 31 = BitVec.ofNat 32 (2 ^ 31 * (a.toNat % 2) + y.toNat / 2) := by
  apply BitVec.eq_of_toNat_eq
  have hbit : (flag (bit a 0)).toNat = a.toNat % 2 := by
    rw [bit, BitVec.getLsbD, Nat.testBit_zero, flag, BitVec.toNat_ofBool]
    have := Nat.mod_two_eq_zero_or_one a.toNat
    obtain h | h := this <;> rw [h] <;> rfl
  rw [toNat_append_eq, toNat_field, hbit, BitVec.toNat_ofNat]
  omega

/-- Settles O24: each multiply writes its product, and MULScc adds the words of `mulStep`. -/
theorem multiply32Results : Obligations.Multiply32 := by
  intro s rd rs1 op2
  refine ⟨?_, ?_⟩
  · simp only [multiplyRows, List.forall_mem_cons]
    refine ⟨?UMUL, ?UMULcc, ?SMUL, ?SMULcc, nofun⟩
    case UMUL => exact nextWithR_multiply32 umulProduct false rd rs1 op2 s (umulProduct_eq ..)
    case UMULcc => exact nextWithR_multiply32 umulProduct true rd rs1 op2 s (umulProduct_eq ..)
    case SMUL => exact nextWithR_multiply32 smulProduct false rd rs1 op2 s rfl
    case SMULcc => exact nextWithR_multiply32 smulProduct true rd rs1 op2 s rfl
  · dsimp only
    rw [← mulStep_fst s _ (operand2 s op2), ← mulStep_snd s (readR s rs1), ← shifted_y, ← addFlags_eq]
    refine nextWithR_files (s := s) rfl rfl rfl rfl ?_
    rw [writeR_shape]
    rfl

/-! ## Division -/

theorem toNat_ne_zero_iff {n : Nat} (x : BitVec n) : (x != 0) = true ↔ x.toNat ≠ 0 := by
  rw [bne_iff_ne, ne_eq, ← BitVec.toNat_inj]
  rfl

/-- The signed quotient of the model is the exact one, saturated, with its overflow (R164). -/
theorem sdivQuotient_eq (y : BitVec 32) (a b : Word64) :
    sdivQuotient y a b = (BitVec.ofInt 64 (saturatedQuotient true y a b),
      decide (saturatedQuotient true y a b ≠ exactQuotient true y a b)) := by
  have hexact : exactQuotient true y a b = (y ++ field a 0 32).toInt.tdiv (signed32 b) := rfl
  simp only [sdivQuotient, saturatedQuotient, clampSigned, ↓reduceIte, ← hexact]
  generalize exactQuotient true y a b = q
  norm_num only [Nat.add_one_sub_one]
  split
  case isTrue hover =>
    have hclamp : max (-2147483648) (min 2147483647 q) = 2147483647 := by omega
    rw [hclamp, decide_eq_true (by omega)]
    rfl
  case isFalse hover =>
    split
    case isTrue hunder =>
      have hclamp : max (-2147483648) (min 2147483647 q) = -2147483648 := by omega
      rw [hclamp, decide_eq_true (by omega)]
      rfl
    case isFalse hunder =>
      have hclamp : max (-2147483648) (min 2147483647 q) = q := by omega
      rw [hclamp, decide_eq_false (by omega)]

/-- The unsigned quotient of the model is the exact one, saturated, with its overflow (R187). -/
theorem udivQuotient_eq (y : BitVec 32) (a b : Word64) :
    udivQuotient y a b = (BitVec.ofInt 64 (saturatedQuotient false y a b),
      decide (saturatedQuotient false y a b ≠ exactQuotient false y a b)) := by
  have hexact : exactQuotient false y a b = (((y ++ field a 0 32).toNat / lowNat b : Nat) : Int) := rfl
  have hlow : (field b 0 32).toNat = lowNat b := rfl
  simp only [udivQuotient, saturatedQuotient, clampUnsigned, Bool.false_eq_true, if_false, hexact, hlow]
  generalize (y ++ field a 0 32).toNat / lowNat b = q
  norm_num only
  split
  case isTrue hover =>
    have hclamp : max 0 (min 4294967295 (q : Int)) = 4294967295 := by omega
    rw [hclamp, decide_eq_true (by omega)]
    rfl
  case isFalse hover =>
    have hclamp : max 0 (min 4294967295 (q : Int)) = q := by omega
    rw [hclamp, decide_eq_false (by omega), BitVec.ofInt_natCast]

/-- A 32-bit divide whose quotient is the saturated exact one (R164, R187). -/
theorem divide32_outcome (signed cc : Bool) (quotient : BitVec 32 → Word64 → Word64 → Word64 × Bool)
    (hq : ∀ y a b, quotient y a b = (BitVec.ofInt 64 (saturatedQuotient signed y a b),
      decide (saturatedQuotient signed y a b ≠ exactQuotient signed y a b)))
    (rd rs1 : Reg) (op2 : RegImm 13) (s : State) :
    let a := readR s rs1
    let b := operand2 s op2
    let q := BitVec.ofInt 64 (saturatedQuotient signed s.y a b)
    let overflow := decide (saturatedQuotient signed s.y a b ≠ exactQuotient signed s.y a b)
    (lowNat b = 0 → divide32 quotient cc rd rs1 op2 s = takeTrap .divisionByZero s) ∧
    (lowNat b ≠ 0 → ∃ y,
      nextWithR (divide32 quotient cc rd rs1 op2 s)
        { advance s with
          y := y
          freeCount := s.freeCount + 1
          ccr := if cc then codes q false false overflow false else s.ccr }
        rd q) := by
  dsimp only
  rw [divide32_eq, hq]
  refine ⟨fun hzero => ?_, fun hne => ⟨field (freeValue s) 0 32, ?_⟩⟩
  · rw [if_neg fun h => (toNat_ne_zero_iff _).mp h hzero]
  · rw [if_pos ((toNat_ne_zero_iff _).mpr hne), divFlags_eq]
    refine nextWithR_files (s := drawn s) rfl rfl rfl rfl ?_
    rw [writeR_shape]
    rfl

/-- Settles O25: each divide is `divide32` of its quotient, or the 64-bit quotient. -/
theorem divideResults : Obligations.DivideResults := by
  refine ⟨fun s rd rs1 op2 => ?narrow, fun s rd rs1 op2 => ?wide⟩
  case narrow =>
    simp only [divideRows, List.forall_mem_cons]
    refine ⟨?UDIV, ?UDIVcc, ?SDIV, ?SDIVcc, nofun⟩
    case UDIV => exact divide32_outcome false false udivQuotient udivQuotient_eq rd rs1 op2 s
    case UDIVcc => exact divide32_outcome false true udivQuotient udivQuotient_eq rd rs1 op2 s
    case SDIV => exact divide32_outcome true false sdivQuotient sdivQuotient_eq rd rs1 op2 s
    case SDIVcc => exact divide32_outcome true true sdivQuotient sdivQuotient_eq rd rs1 op2 s
  case wide =>
    have divides : ∀ v : Word64,
        let o := finish s do
          require (operand2 s op2 != 0) .divisionByZero
          .ok (advance (writeR s rd v))
        (operand2 s op2 = 0 → o = takeTrap .divisionByZero s) ∧ (operand2 s op2 ≠ 0 → nextWithR o (advance s) rd v) := by
      intro v
      dsimp only
      rw [finish_require]
      refine ⟨fun hzero => ?_, fun hne => ?_⟩
      · rw [hzero]; rfl
      · rw [if_pos (bne_iff_ne.mpr hne)]
        exact nextWithR_advance s rd v
    simp only [divideXRows, List.forall_mem_cons]
    exact ⟨divides _, divides _, nofun⟩

/-! ## Shifts and counts -/

theorem shiftCount32_eq (s : State) (count : RegImm 5) : shiftCount32 s count = countOf s count := by
  cases count with
  | reg rs2 => rw [shiftCount32, toNat_field, pow_zero, Nat.div_one, countOf]
  | imm v => rfl

theorem shiftCount64_eq (s : State) (count : RegImm 6) : shiftCount64 s count = countOf s count := by
  cases count with
  | reg rs2 => rw [shiftCount64, toNat_field, pow_zero, Nat.div_one, countOf]
  | imm v => rfl

theorem shiftLeft_eq_ofNat (a : Word64) (n : Nat) : a <<< n = BitVec.ofNat 64 (a.toNat * 2 ^ n) := by
  apply BitVec.eq_of_toNat_eq
  rw [BitVec.toNat_shiftLeft, BitVec.toNat_ofNat, Nat.shiftLeft_eq]

theorem shiftRight_eq_ofNat (a : Word64) (n : Nat) : a >>> n = BitVec.ofNat 64 (a.toNat / 2 ^ n) := by
  apply BitVec.eq_of_toNat_eq
  rw [BitVec.toNat_ushiftRight, BitVec.toNat_ofNat, Nat.shiftRight_eq_div_pow,
    Nat.mod_eq_of_lt (lt_of_le_of_lt (Nat.div_le_self ..) a.isLt)]

theorem lowShiftRight_eq_ofNat (a : Word64) (n : Nat) :
    zext64 (field a 0 32 >>> n) = BitVec.ofNat 64 (lowNat a / 2 ^ n) := by
  apply BitVec.eq_of_toNat_eq
  rw [zext64, BitVec.toNat_setWidth, BitVec.toNat_ushiftRight, BitVec.toNat_ofNat, Nat.shiftRight_eq_div_pow]
  rfl

theorem sshiftRight_eq_ofInt {n : Nat} (a : BitVec n) (k : Nat) : a.sshiftRight k = BitVec.ofInt n (a.toInt / 2 ^ k) := by
  rw [BitVec.sshiftRight, Int.shiftRight_eq_div_pow]
  norm_cast

theorem lowSshiftRight_eq_ofInt (a : Word64) (k : Nat) :
    sext64 ((field a 0 32).sshiftRight k) = BitVec.ofInt 64 (lowInt a / 2 ^ k) := by
  apply BitVec.eq_of_toInt_eq
  have hrange := toInt_range (n := 32) (by omega) (field a 0 32)
  have hpos : (0 : Int) < 2 ^ k := by positivity
  rw [sext64, BitVec.toInt_signExtend_of_le (by omega), BitVec.toInt_sshiftRight, BitVec.toInt_ofInt,
    Int.shiftRight_eq_div_pow]
  have hone : (1 : Int) ≤ 2 ^ k := hpos
  have hlow : -(2 ^ 31) ≤ (field a 0 32).toInt / 2 ^ k := by
    rw [Int.le_ediv_iff_mul_le hpos]
    omega
  have hhigh : (field a 0 32).toInt / 2 ^ k < 2 ^ 31 := by
    rw [Int.ediv_lt_iff_lt_mul hpos]
    omega
  have hbmod : ((field a 0 32).toInt / 2 ^ k).bmod (2 ^ 64) = (field a 0 32).toInt / 2 ^ k :=
    Int.bmod_eq_of_le_mul_two (by push_cast; omega) (by push_cast; omega)
  exact_mod_cast hbmod.symm

/-- The number of 1 bits, as a count (R163). -/
theorem onesBelow_eq (x : Word64) (n : Nat) : onesBelow x n = ((List.range n).filter (bit x)).length := by
  induction n with
  | zero => rfl
  | succ n ih =>
    rw [List.range_succ, List.filter_append, List.length_append, ← ih, onesBelow]
    cases h : bit x n <;> simp [h]

/-- The number of leading zeros below bit `n` of a number below `2 ^ n` (R152). -/
theorem zerosFrom_spec (x : Word64) : ∀ n, x.toNat < 2 ^ n →
    zerosFrom x n ≤ n ∧ x.toNat < 2 ^ (n - zerosFrom x n) ∧
      (zerosFrom x n < n → 2 ^ (n - 1 - zerosFrom x n) ≤ x.toNat) := by
  intro n
  induction n with
  | zero => intro h; simpa [zerosFrom] using h
  | succ n ih =>
    intro h
    have hbit : bit x n = decide (2 ^ n ≤ x.toNat) := by
      rw [bit, BitVec.getLsbD]
      by_cases hle : 2 ^ n ≤ x.toNat
      · rw [decide_eq_true hle]
        exact Nat.testBit_of_two_pow_le_and_two_pow_add_one_gt hle h
      · rw [decide_eq_false hle]
        exact Nat.testBit_lt_two_pow (not_le.mp hle)
    rw [zerosFrom, hbit]
    by_cases hle : 2 ^ n ≤ x.toNat
    · rw [decide_eq_true hle, if_pos rfl]
      exact ⟨Nat.zero_le _, h, fun _ => by simpa using hle⟩
    · rw [decide_eq_false hle, if_neg Bool.false_ne_true]
      obtain ⟨hbound, hlt, hge⟩ := ih (not_le.mp hle)
      refine ⟨by omega, by simpa using hlt, fun hz => ?_⟩
      have heq : n + 1 - 1 - (zerosFrom x n + 1) = n - 1 - zerosFrom x n := by omega
      rw [heq]
      exact hge (by omega)

/-- Settles O26: every shift and count answers `result` of its value. -/
theorem shiftsAndCounts : Obligations.ShiftsAndCounts := by
  intro s rd rs1 rs2
  have writes : ∀ {v w : Word64}, v = w → nextWithR (result s rd v) (advance s) rd w := by
    rintro v w rfl
    exact nextWithR_result s rd v
  refine ⟨?shift32, ?shift64, fun imm22 => ?sethi, fun op2 => ?popc, zerosFrom (readR s rs2) 64, ?lzcnt⟩
  case shift32 =>
    simp only [shift32Rows, List.forall_mem_cons]
    refine ⟨fun count => writes ?SLL, fun count => writes ?SRL, fun count => writes ?SRA, nofun⟩
    all_goals rw [shiftCount32_eq]
    case SLL => exact shiftLeft_eq_ofNat ..
    case SRL => exact lowShiftRight_eq_ofNat ..
    case SRA => exact lowSshiftRight_eq_ofInt ..
  case shift64 =>
    simp only [shift64Rows, List.forall_mem_cons]
    refine ⟨fun count => writes ?SLLX, fun count => writes ?SRLX, fun count => writes ?SRAX, nofun⟩
    all_goals rw [shiftCount64_eq]
    case SLLX => exact shiftLeft_eq_ofNat ..
    case SRLX => exact shiftRight_eq_ofNat ..
    case SRAX => exact sshiftRight_eq_ofInt ..
  case sethi =>
    refine writes ?_
    apply BitVec.eq_of_toNat_eq
    rw [zext64, BitVec.toNat_setWidth, toNat_append_eq, BitVec.toNat_ofNat]
    rfl
  case popc => exact writes (congrArg (BitVec.ofNat 64) (onesBelow_eq ..))
  case lzcnt =>
    obtain ⟨hbound, hlt, hge⟩ := zerosFrom_spec (readR s rs2) 64 (readR s rs2).isLt
    exact ⟨writes rfl, hbound, hlt, hge⟩

/-! ## Conditional moves -/

/-- The test of a register condition on the signed value (R129, R154). -/
theorem rcondTest_rows (v : Word64) :
    (rcondTest .z v = decide (v.toInt = 0)) ∧ (rcondTest .lez v = decide (v.toInt ≤ 0)) ∧
    (rcondTest .lz v = decide (v.toInt < 0)) ∧ (rcondTest .nz v = decide (v.toInt ≠ 0)) ∧
    (rcondTest .gz v = decide (0 < v.toInt)) ∧ (rcondTest .gez v = decide (0 ≤ v.toInt)) := by
  have hzero : (v == 0) = decide (v.toInt = 0) := by
    rw [beq_zero_eq_decide, decide_eq_decide, ← BitVec.toInt_inj]
    rfl
  have hneg : bit v 63 = decide (v.toInt < 0) := by rw [bit_top_64, BitVec.msb_eq_toInt]
  have hlez : (bit v 63 || v == 0) = decide (v.toInt ≤ 0) := by
    rw [hneg, hzero, ← Bool.decide_or, decide_eq_decide]
    omega
  have hnot : ∀ {p q : Prop} [Decidable p] [Decidable q], (¬p ↔ q) → (!decide p) = decide q := fun h => by
    rw [← decide_not, decide_eq_decide]
    exact h
  refine ⟨hzero, hlez, hneg, ?nz, ?gz, ?gez⟩
  case nz =>
    rw [rcondTest, bne, hzero]
    exact hnot Iff.rfl
  case gz =>
    rw [rcondTest, hlez]
    exact hnot not_le
  case gez =>
    rw [rcondTest, hneg]
    exact hnot not_lt

theorem readFcc_eq (s : State) (n : BitVec 2) : readFcc s n = getFcc s.fsr n := rfl

/-- R[rd] takes the operand of a conditional move, or nothing but the program counters changes. -/
theorem nextWithR_moved (s : State) (rd : Reg) (c : Bool) (v : Word64) :
    (c = true → nextWithR (.next (advance (if c then writeR s rd v else s))) (advance s) rd v) ∧
      (c = false → (Host.Outcome.next (advance (if c then writeR s rd v else s)) : Out) = .next (advance s)) := by
  refine ⟨fun h => ?_, fun h => ?_⟩
  · rw [if_pos h]
    exact nextWithR_advance s rd v
  · rw [if_neg (Bool.eq_false_iff.mp h)]

/-- A move on integer condition codes (R153). -/
theorem moveIcc_moved (s : State) (x : Cc) (rd : Reg) (cond : ICond) (op2 : RegImm 11) :
    (icondTest cond x = true → nextWithR (moveIcc x rd cond op2 s) (advance s) rd (operand2 s op2)) ∧
      (icondTest cond x = false → moveIcc x rd cond op2 s = .next (advance s)) :=
  nextWithR_moved s rd (icondTest cond x) (operand2 s op2)

/-- A move on FSR.fccn where the FPU is enabled (R153). -/
theorem moveFcc_moved (s : State) (n : BitVec 2) (rd : Reg) (cond : FCond) (op2 : RegImm 11)
    (hfpu : fpuEnabled s = true) :
    (fcondTest cond (getFcc s.fsr n) = true → nextWithR (moveFcc n rd cond op2 s) (advance s) rd (operand2 s op2)) ∧
      (fcondTest cond (getFcc s.fsr n) = false → moveFcc n rd cond op2 s = .next (advance s)) := by
  rw [moveFcc_eq, if_pos hfpu, readFcc_eq]
  exact nextWithR_moved s rd _ (operand2 s op2)

theorem moveFcc_disabled (s : State) (n : BitVec 2) (rd : Reg) (cond : FCond) (op2 : RegImm 11)
    (hfpu : fpuEnabled s = false) : moveFcc n rd cond op2 s = takeTrap .fpDisabled s := by
  rw [moveFcc_eq, hfpu]
  rfl

/-- A move on a register (R154). -/
theorem moveReg_moved (s : State) (c : RCond) (rd rs1 : Reg) (op2 : RegImm 10) {b : Bool}
    (hb : rcondTest c (readR s rs1) = b) :
    (b = true → nextWithR (moveReg c rd rs1 op2 s) (advance s) rd (operand2 s op2)) ∧
      (b = false → moveReg c rd rs1 op2 s = .next (advance s)) := by
  rw [moveReg_eq, hb]
  exact nextWithR_moved s rd b (operand2 s op2)

/-- Settles O28: each row is the move on its condition. -/
theorem conditionalMoves : Obligations.ConditionalMoves := by
  intro s rd rs1
  refine ⟨?icc, ?fcc, ?disabled, ?reg⟩
  case icc =>
    simp only [iccMoveRows, List.forall_mem_cons]
    exact ⟨fun cond op2 => moveIcc_moved s _ rd cond op2, fun cond op2 => moveIcc_moved s _ rd cond op2, nofun⟩
  case fcc =>
    simp only [fccMoveRows, List.forall_mem_cons]
    exact ⟨moveFcc_moved s 0 rd, moveFcc_moved s 1 rd, moveFcc_moved s 2 rd, moveFcc_moved s 3 rd, nofun⟩
  case disabled =>
    simp only [fccMoveRows, List.forall_mem_cons]
    exact ⟨moveFcc_disabled s 0 rd, moveFcc_disabled s 1 rd, moveFcc_disabled s 2 rd, moveFcc_disabled s 3 rd, nofun⟩
  case reg =>
    obtain ⟨hz, hlez, hlz, hnz, hgz, hgez⟩ := rcondTest_rows (readR s rs1)
    simp only [regRows, List.forall_mem_cons]
    exact ⟨fun op2 => moveReg_moved s .z rd rs1 op2 hz, fun op2 => moveReg_moved s .lez rd rs1 op2 hlez,
      fun op2 => moveReg_moved s .lz rd rs1 op2 hlz, fun op2 => moveReg_moved s .nz rd rs1 op2 hnz,
      fun op2 => moveReg_moved s .gz rd rs1 op2 hgz, fun op2 => moveReg_moved s .gez rd rs1 op2 hgez, nofun⟩

end Sys2Proof.Machine
end

section
/-!
PROOF. Control transfers: every row of the tables is the instruction of one condition, and the obligations on branches,
calls, jumps, returns and Tcc.
-/

namespace Sys2Proof.Machine

open Sys2Proof

/-! ## The rows of the tables are instructions on a condition -/

/-- A row of `iccRows` belongs to a condition: its test, and Bicc, BPcc and Tcc on it. -/
structure IccRow (r : Bool × (Cc → Bool) × (Bool → BitVec 22 → Instr) × (Bool → IccSel → Bool → BitVec 19 → Instr) ×
    (IccSel → Reg → RegImm 8 → Instr)) (cond : ICond) : Prop where
  always : r.1 = decide (cond = .a)
  test : ∀ x, r.2.1 x = icondTest cond x
  bicc : ∀ a disp s, exec (r.2.2.1 a disp) s = branchIcc cond s.ccr.icc a disp s
  bpcc : ∀ a cc p disp s, exec (r.2.2.2.1 a cc p disp) s = branchIcc cond (selectCc s cc) a disp s
  tcc : ∀ cc rs1 op2 s, exec (r.2.2.2.2 cc rs1 op2) s = trapIcc cond cc rs1 op2 s

theorem less_eq_xor (x : Cc) : (x.n != x.v) = (x.n ^^ x.v) := by cases x.n <;> cases x.v <;> rfl

theorem not_less_eq (x : Cc) : (x.n == x.v) = !(x.n ^^ x.v) := by cases x.n <;> cases x.v <;> rfl

theorem iccRows_cond : ∀ r ∈ iccRows, ∃ cond, IccRow r cond := by
  have row : ∀ {r : Bool × (Cc → Bool) × (Bool → BitVec 22 → Instr) × (Bool → IccSel → Bool → BitVec 19 → Instr) ×
      (IccSel → Reg → RegImm 8 → Instr)} {cond : ICond}, IccRow r cond → ∃ cond, IccRow r cond := fun h => ⟨_, h⟩
  simp only [iccRows, List.forall_mem_cons]
  refine ⟨row (cond := .a) ?a, row (cond := .n) ?n, row (cond := .ne) ?ne, row (cond := .e) ?e, row (cond := .g) ?g, row (cond := .le) ?le, row (cond := .ge) ?ge, row (cond := .l) ?l, row (cond := .gu) ?gu, row (cond := .leu) ?leu, row (cond := .cc) ?cc, row (cond := .cs) ?cs, row (cond := .pos) ?pos, row (cond := .neg) ?neg, row (cond := .vc) ?vc, row (cond := .vs) ?vs, nofun⟩
  case g =>
    exact ⟨rfl, fun x => congrArg (fun b => !(x.z || b)) (less_eq_xor x), fun _ _ _ => rfl, fun _ _ _ _ _ => rfl, fun _ _ _ _ => rfl⟩
  case le =>
    exact ⟨rfl, fun x => congrArg (fun b => x.z || b) (less_eq_xor x), fun _ _ _ => rfl, fun _ _ _ _ _ => rfl, fun _ _ _ _ => rfl⟩
  case ge => exact ⟨rfl, not_less_eq, fun _ _ _ => rfl, fun _ _ _ _ _ => rfl, fun _ _ _ _ => rfl⟩
  case l => exact ⟨rfl, less_eq_xor, fun _ _ _ => rfl, fun _ _ _ _ _ => rfl, fun _ _ _ _ => rfl⟩
  all_goals exact ⟨rfl, fun _ => rfl, fun _ _ _ => rfl, fun _ _ _ _ _ => rfl, fun _ _ _ _ => rfl⟩

/-- A row of `compareRows` belongs to a condition. -/
structure CompareBranchRow (r : (Cc → Bool) × (Reg → RegImm 5 → BitVec 10 → Instr) × (Reg → RegImm 5 → BitVec 10 → Instr))
    (cond : ICond) : Prop where
  test : ∀ x, r.1 x = icondTest cond x
  narrow : ∀ rs1 op2 disp s, exec (r.2.1 rs1 op2 disp) s = compareBranch cond false rs1 op2 disp s
  wide : ∀ rs1 op2 disp s, exec (r.2.2 rs1 op2 disp) s = compareBranch cond true rs1 op2 disp s

theorem compareRows_cond : ∀ r ∈ compareRows, ∃ cond, CompareBranchRow r cond := by
  have row : ∀ {r : (Cc → Bool) × (Reg → RegImm 5 → BitVec 10 → Instr) × (Reg → RegImm 5 → BitVec 10 → Instr)}
      {cond : ICond}, CompareBranchRow r cond → ∃ cond, CompareBranchRow r cond := fun h => ⟨_, h⟩
  simp only [compareRows, List.forall_mem_cons]
  refine ⟨row (cond := .ne) ?ne, row (cond := .e) ?e, row (cond := .g) ?g, row (cond := .le) ?le, row (cond := .ge) ?ge, row (cond := .l) ?l, row (cond := .gu) ?gu, row (cond := .leu) ?leu, row (cond := .cc) ?cc, row (cond := .cs) ?cs, row (cond := .pos) ?pos, row (cond := .neg) ?neg, row (cond := .vc) ?vc, row (cond := .vs) ?vs, nofun⟩
  case g =>
    exact ⟨fun x => congrArg (fun b => !(x.z || b)) (less_eq_xor x), fun _ _ _ _ => rfl, fun _ _ _ _ => rfl⟩
  case le =>
    exact ⟨fun x => congrArg (fun b => x.z || b) (less_eq_xor x), fun _ _ _ _ => rfl, fun _ _ _ _ => rfl⟩
  case ge => exact ⟨not_less_eq, fun _ _ _ _ => rfl, fun _ _ _ _ => rfl⟩
  case l => exact ⟨less_eq_xor, fun _ _ _ _ => rfl, fun _ _ _ _ => rfl⟩
  all_goals exact ⟨fun _ => rfl, fun _ _ _ _ => rfl, fun _ _ _ _ => rfl⟩

/-- A row of `fccRows` belongs to a condition: the values of fcc it holds for, and FBfcc and FBPfcc on it. -/
structure FccRow (r : Bool × List (BitVec 2) × (Bool → BitVec 22 → Instr) ×
    (Bool → BitVec 2 → Bool → BitVec 19 → Instr)) (cond : FCond) : Prop where
  always : r.1 = decide (cond = .a)
  test : ∀ x, decide (x ∈ r.2.1) = fcondTest cond x
  fbfcc : ∀ a disp s, exec (r.2.2.1 a disp) s = branchFcc cond 0 a disp s
  fbpfcc : ∀ a cc p disp s, exec (r.2.2.2 a cc p disp) s = branchFcc cond cc a disp s

theorem fccRows_cond : ∀ r ∈ fccRows, ∃ cond, FccRow r cond := by
  have row : ∀ {r : Bool × List (BitVec 2) × (Bool → BitVec 22 → Instr) × (Bool → BitVec 2 → Bool → BitVec 19 → Instr)}
      {cond : FCond}, FccRow r cond → ∃ cond, FccRow r cond := fun h => ⟨_, h⟩
  simp only [fccRows, List.forall_mem_cons]
  refine ⟨row (cond := .a) ?a, row (cond := .n) ?n, row (cond := .u) ?u, row (cond := .g) ?g, row (cond := .ug) ?ug, row (cond := .l) ?l, row (cond := .ul) ?ul, row (cond := .lg) ?lg, row (cond := .ne) ?ne, row (cond := .e) ?e, row (cond := .ue) ?ue, row (cond := .ge) ?ge, row (cond := .uge) ?uge, row (cond := .le) ?le, row (cond := .ule) ?ule, row (cond := .o) ?o, nofun⟩
  all_goals exact ⟨rfl, by decide, fun _ _ _ => rfl, fun _ _ _ _ _ => rfl⟩

/-- A row of `regRows` belongs to a condition on a register: its test, and BPr on it. -/
structure RegRow (r : (Int → Bool) × (Bool → Bool → Reg → BitVec 16 → Instr) × (Reg → Reg → RegImm 10 → Instr) ×
    Three × Three × Three) (cond : RCond) : Prop where
  test : ∀ v, r.1 v.toInt = rcondTest cond v
  bpr : ∀ a p rs1 disp s, exec (r.2.1 a p rs1 disp) s = branchReg cond a rs1 disp s

theorem regRows_cond : ∀ r ∈ regRows, ∃ cond, RegRow r cond := by
  have row : ∀ {r : (Int → Bool) × (Bool → Bool → Reg → BitVec 16 → Instr) × (Reg → Reg → RegImm 10 → Instr) ×
      Three × Three × Three} {cond : RCond}, RegRow r cond → ∃ cond, RegRow r cond := fun h => ⟨_, h⟩
  simp only [regRows, List.forall_mem_cons]
  refine ⟨row (cond := .z) ?z, row (cond := .lez) ?lez, row (cond := .lz) ?lz, row (cond := .nz) ?nz, row (cond := .gz) ?gz, row (cond := .gez) ?gez, nofun⟩
  case z => exact ⟨fun v => (rcondTest_rows v).1.symm, fun _ _ _ _ _ => rfl⟩
  case lez => exact ⟨fun v => (rcondTest_rows v).2.1.symm, fun _ _ _ _ _ => rfl⟩
  case lz => exact ⟨fun v => (rcondTest_rows v).2.2.1.symm, fun _ _ _ _ _ => rfl⟩
  case nz => exact ⟨fun v => (rcondTest_rows v).2.2.2.1.symm, fun _ _ _ _ _ => rfl⟩
  case gz => exact ⟨fun v => (rcondTest_rows v).2.2.2.2.1.symm, fun _ _ _ _ _ => rfl⟩
  case gez => exact ⟨fun v => (rcondTest_rows v).2.2.2.2.2.symm, fun _ _ _ _ _ => rfl⟩

/-! ## Branches -/

/-- A branch target, with the displacement as a signed number of words (R201). -/
theorem branchTarget_eq {n : Nat} (s : State) (disp : BitVec n) :
    branchTarget s disp = s.pc + BitVec.ofInt 64 (4 * disp.toInt) := by
  have hext : BitVec.ofInt 64 disp.toInt = sext64 disp := rfl
  rw [branchTarget, BitVec.ofInt_mul, hext]
  rfl

/-- The outcome of a branch (R199, R200, R203). -/
theorem branchTo_goes (s : State) (always taken a : Bool) (ea : Word64) :
    (taken = false ∨ transfersTrap s = false →
      finish s (branchTo s always taken a ea) = .next (branchNext s always taken a ea)) ∧
    (taken = true → transfersTrap s = true → finish s (branchTo s always taken a ea) = takeTrap .controlTransfer s) := by
  have htct : (s.par.hasTct && s.pstate.tct) = transfersTrap s := rfl
  rw [finish_branchTo, htct]
  cases taken with
  | false =>
    refine ⟨fun _ => ?_, nofun⟩
    cases a <;> rfl
  | true =>
    refine ⟨fun h => ?_, fun _ h => ?_⟩
    · have hno : transfersTrap s = false := h.resolve_left (by decide)
      rw [hno]
      cases h' : always && a <;> simp only [branchNext, h'] <;> rfl
    · rw [h]
      rfl

/-- Settles O29: each row branches on its condition. -/
theorem integerBranches : Obligations.IntegerBranches := by
  intro s a p
  refine ⟨fun r hr disp => ?bicc, fun r hr cc disp => ?bpcc, fun r hr rs1 disp => ?bpr⟩
  case bicc =>
    obtain ⟨cond, h⟩ := iccRows_cond r hr
    rw [h.bicc, h.always, h.test, ← branchTarget_eq]
    exact branchTo_goes s _ _ a _
  case bpcc =>
    obtain ⟨cond, h⟩ := iccRows_cond r hr
    have hcc : (if cc = .icc then s.ccr.icc else s.ccr.xcc) = selectCc s cc := by cases cc <;> rfl
    rw [h.bpcc, h.always, h.test, hcc, ← branchTarget_eq]
    exact branchTo_goes s _ _ a _
  case bpr =>
    obtain ⟨cond, h⟩ := regRows_cond r hr
    rw [h.bpr, h.test, ← branchTarget_eq]
    exact branchTo_goes s _ _ a _

/-- The outcome of a branch on FSR.fccn (R210 to R212). -/
theorem branchFcc_goes {n : Nat} (cond : FCond) (cc : BitVec 2) (a : Bool) (disp : BitVec n) (s : State) :
    (fpuEnabled s = false → branchFcc cond cc a disp s = takeTrap .fpDisabled s) ∧
    (fpuEnabled s = true →
      branchFcc cond cc a disp s =
        finish s (branchTo s (decide (cond = .a)) (fcondTest cond (getFcc s.fsr cc)) a (branchTarget s disp))) := by
  rw [branchFcc_eq, finish_branchTo, readFcc_eq]
  exact ⟨fun h => if_neg (Bool.eq_false_iff.mp h), fun h => if_pos h⟩

/-- Settles O30: fp_disabled, or the branch on the condition. -/
theorem floatBranches : Obligations.FloatBranches := by
  have goes : ∀ (s : State) (cond : FCond) (cc : BitVec 2) (a : Bool) {n : Nat} (disp : BitVec n),
      let o := branchFcc cond cc a disp s
      let taken := fcondTest cond (getFcc s.fsr cc)
      (fpuEnabled s = false → o = takeTrap .fpDisabled s) ∧
      (fpuEnabled s = true → taken = false ∨ transfersTrap s = false →
        o = .next (branchNext s (decide (cond = .a)) taken a (branchTarget s disp))) ∧
      (fpuEnabled s = true → taken = true → transfersTrap s = true → o = takeTrap .controlTransfer s) := by
    intro s cond cc a n disp
    obtain ⟨hdisabled, henabled⟩ := branchFcc_goes cond cc a disp s
    obtain ⟨hgoes, htraps⟩ := branchTo_goes s (decide (cond = .a)) (fcondTest cond (getFcc s.fsr cc)) a
      (branchTarget s disp)
    exact ⟨hdisabled, fun hfpu h => (henabled hfpu).trans (hgoes h), fun hfpu h ht => (henabled hfpu).trans (htraps h ht)⟩
  intro s a p
  refine ⟨fun r hr disp => ?fbfcc, fun r hr cc disp => ?fbpfcc⟩
  case fbfcc =>
    obtain ⟨cond, h⟩ := fccRows_cond r hr
    rw [h.fbfcc, h.always, h.test, ← branchTarget_eq]
    exact goes s cond 0 a disp
  case fbpfcc =>
    obtain ⟨cond, h⟩ := fccRows_cond r hr
    rw [h.fbpfcc, h.always, h.test, ← branchTarget_eq]
    exact goes s cond cc a disp

/-- Settles O31: each row compares as SUBcc does and transfers at once. -/
theorem compareBranches : Obligations.CompareBranches := by
  intro s rs1 op2 disp r hr
  obtain ⟨cond, h⟩ := compareRows_cond r hr
  have goes : ∀ (wide : Bool) (x : Cc),
      (if wide then (diffCodes (readR s rs1) (operand2 s op2) false).xcc
        else (diffCodes (readR s rs1) (operand2 s op2) false).icc) = x →
      let o := compareBranch cond wide rs1 op2 disp s
      let ea := branchTarget s disp
      (icondTest cond x = false → o = .next (advance s)) ∧
      (icondTest cond x = true → transfersTrap s = false → o = .next { s with pc := ea, npc := ea + 4 }) ∧
      (icondTest cond x = true → transfersTrap s = true → o = takeTrap .controlTransfer s) := by
    intro wide x hx
    have htct : (s.par.hasTct && s.pstate.tct) = transfersTrap s := rfl
    dsimp only
    rw [compareBranch_eq, subFlags_eq, hx, htct]
    refine ⟨fun h => ?_, fun h ht => ?_, fun h ht => ?_⟩
    · rw [h]; rfl
    · rw [h, ht]; rfl
    · rw [h, ht]; rfl
  dsimp only
  rw [h.narrow, h.wide, h.test, h.test, ← branchTarget_eq]
  exact ⟨goes false _ rfl, goes true _ rfl⟩

/-! ## Calls, jumps and returns -/

theorem linkValue_eq (s : State) : linkValue s = if s.pstate.am then BitVec.ofNat 64 (s.pc.toNat % 2 ^ 32) else s.pc :=
  ite_low32 Iff.rfl s.pc

theorem fillTrap_eq (s : State) :
    fillTrap s = if s.otherwin ≠ 0 then .fill true s.wstate.other else .fill false s.wstate.normal := by
  simp only [fillTrap, bne_iff_ne]

theorem nextWithR_jumpDelayed (s : State) (rd : Reg) (v ea : Word64) :
    nextWithR (.next (jumpDelayed (writeR s rd v) ea)) { s with pc := s.npc, npc := ea } rd v := by
  refine nextWithR_files (s := s) rfl rfl rfl rfl ?_
  rw [writeR_shape]
  rfl

theorem wordAligned_iff_beq (v : Word64) : (field v 0 2 == 0) = true ↔ wordAligned v := beq_iff_eq

theorem exec_JMPL (rd rs1 : Reg) (op2 : RegImm 13) (s : State) :
    exec (.JMPL rd rs1 op2) s =
      if field (readR s rs1 + operand2 s op2) 0 2 == 0 then
        if transfersTrap s then takeTrap .controlTransfer s
        else .next (jumpDelayed (writeR s rd (linkValue s)) (readR s rs1 + operand2 s op2))
      else takeTrap .memAddressNotAligned s := by
  change execJMPL rd rs1 op2 s = _
  have htct : (s.par.hasTct && s.pstate.tct) = transfersTrap s := rfl
  unfold execJMPL needNoTct effAddr
  rw [finish_require, finish_require, htct]
  cases transfersTrap s <;> rfl

theorem exec_RETURN (rs1 : Reg) (op2 : RegImm 13) (s : State) :
    exec (.RETURN rs1 op2) s =
      if s.canrestore != 0 then
        if field (readR s rs1 + operand2 s op2) 0 2 == 0 then
          if transfersTrap s then takeTrap .controlTransfer s
          else .next (jumpDelayed (restoreWindow s) (readR s rs1 + operand2 s op2))
        else takeTrap .memAddressNotAligned s
      else takeTrap (fillTrap s) s := by
  change execRETURN rs1 op2 s = _
  have htct : (s.par.hasTct && s.pstate.tct) = transfersTrap s := rfl
  unfold execRETURN needNoTct effAddr
  rw [finish_require, finish_require, finish_require, htct]
  cases transfersTrap s <;> rfl

/-- Settles O32: the equations of the three instructions, case by case. -/
theorem callJumpReturn : Obligations.CallJumpReturn := by
  intro s rd rs1 op2 disp
  dsimp only
  rw [exec_CALL, exec_JMPL, exec_RETURN, ← linkValue_eq, ← fillTrap_eq, ← branchTarget_eq]
  have aligned : wordAligned (readR s rs1 + operand2 s op2) → (field (readR s rs1 + operand2 s op2) 0 2 == 0) = true :=
    (wordAligned_iff_beq _).mpr
  have misaligned : ¬wordAligned (readR s rs1 + operand2 s op2) →
      ¬(field (readR s rs1 + operand2 s op2) 0 2 == 0) = true := fun h hb => h ((wordAligned_iff_beq _).mp hb)
  have hrestore : s.canrestore ≠ 0 → (s.canrestore != 0) = true := bne_iff_ne.mpr
  refine ⟨fun ht => ?_, fun ht => ?_, fun ha ht => ?_, fun ha => ?_, fun ha ht => ?_, fun hc ha ht => ?_, fun hc => ?_,
    fun hc ha => ?_, fun hc ha ht => ?_⟩
  · rw [ht]
    exact nextWithR_jumpDelayed ..
  · rw [if_pos ht]
  · rw [if_pos (aligned ha), ht]
    exact nextWithR_jumpDelayed ..
  · rw [if_neg (misaligned ha)]
  · rw [if_pos (aligned ha), if_pos ht]
  · rw [if_pos (hrestore hc), if_pos (aligned ha), ht]
    rfl
  · rw [hc]
    rfl
  · rw [if_pos (hrestore hc), if_neg (misaligned ha)]
  · rw [if_pos (hrestore hc), if_pos (aligned ha), if_pos ht]

/-! ## Traps on condition -/

theorem trapOperand_toNat (s : State) (op2 : RegImm 8) :
    (trapOperand s op2).toNat = (match op2 with | .reg rs2 => (readR s rs2).toNat | .imm n => n.toNat) := by
  cases op2 with
  | reg rs2 => rfl
  | imm n =>
    rw [trapOperand, zext64, BitVec.toNat_setWidth]
    exact Nat.mod_eq_of_lt (lt_trans n.isLt (by decide))

/-- The software trap that a value numbers (R217). -/
theorem softwareTrap_eq (s : State) (x : Word64) (v : Nat) (hv : x.toNat = v % 2 ^ 64) :
    softwareTrap s x = if s.pstate.priv = true ∧ 128 ≤ v % 256 then .htrapInstruction (BitVec.ofNat 7 v)
      else .trapInstruction (BitVec.ofNat 7 v) := by
  have hfield : field x 0 7 = BitVec.ofNat 7 v := by
    apply BitVec.eq_of_toNat_eq
    rw [toNat_field, hv, BitVec.toNat_ofNat]
    omega
  have hbit : bit x 7 = true ↔ 128 ≤ v % 256 := by
    rw [bit, BitVec.getLsbD, hv, Nat.testBit_eq_decide_div_mod_eq, decide_eq_true_iff]
    omega
  simp only [softwareTrap, hfield, Bool.and_eq_true, hbit]

/-- Settles O33: a false condition advances; a true one traps with the number that its operands give. -/
theorem trapOnCondition : Obligations.TrapOnCondition := by
  intro s cc rs1 op2 r hr
  obtain ⟨cond, h⟩ := iccRows_cond r hr
  have hcc : (if cc = .icc then s.ccr.icc else s.ccr.xcc) = selectCc s cc := by cases cc <;> rfl
  have htct : (s.par.hasTct && s.pstate.tct) = transfersTrap s := rfl
  dsimp only
  rw [h.tcc, h.test, hcc, trapIcc_eq, htct, softwareTrap_eq s (readR s rs1 + trapOperand s op2) _ (by
    rw [BitVec.toNat_add, trapOperand_toNat])]
  generalize ((readR s rs1).toNat + match op2 with | .reg rs2 => (readR s rs2).toNat | .imm n => n.toNat) = v
  have software : s.pstate.priv = false ∨ v % 256 < 128 → ¬(s.pstate.priv = true ∧ 128 ≤ v % 256) := by
    rintro (hpriv | hlow) ⟨hp, hle⟩
    · rw [hp] at hpriv
      exact absurd hpriv (by decide)
    · omega
  have stays : transfersTrap s = false → ¬transfersTrap s = true := Bool.eq_false_iff.mp
  refine ⟨fun hf => ?_, fun ht hno => ?_, fun ht hno hp hv => ?_, fun ht hno hs => ?_, fun ht hno htl hs => ?_⟩
  · rw [hf]
    rfl
  · rw [if_pos ht, if_pos hno]
  · rw [if_pos ht, if_neg (stays hno), if_pos ⟨hp, hv⟩]
  · rw [if_pos ht, if_neg (stays hno), if_neg (software hs)]
  · rw [if_pos ht, if_neg (stays hno), if_neg (software hs)]
    have htt : (Exc.trapInstruction (BitVec.ofNat 7 v)).tt = some (BitVec.ofNat 9 (0x100 + v % 128)) := by
      refine congrArg some (BitVec.eq_of_toNat_eq ?_)
      rw [toNat_append_eq, BitVec.toNat_ofNat, BitVec.toNat_ofNat]
      change 2 ^ 7 * 2 + _ = _
      omega
    exact takeTrap_delivered htt rfl htl nofun

end Sys2Proof.Machine
end

section
/-!
PROOF. State registers and register windows: every row of the tables is a read or a write of its register, privileged
instructions trap in nonprivileged mode, and the windows move as the rules say.
-/

namespace Sys2Proof.Machine

open Sys2Proof

/-! ## The rows of the tables are reads and writes -/

/-- Each instruction of `readRows` writes its register's value to R[rd]. -/
theorem exec_readRows (rd : Reg) (s : State) : ∀ r ∈ readRows, exec (r.1 rd) s = result s rd (r.2 s) := by
  simp only [readRows, List.forall_mem_cons]
  exact ⟨rfl, rfl, rfl, congrArg (result s rd) (linkValue_eq s), rfl, rfl, nofun⟩

theorem softintBits_eq (s : State) : softintBits s = (softintPart s (s.softint.setWidth 64)).setWidth 64 := by
  have hlow : field (s.softint.setWidth 64) 0 17 = s.softint := by
    rw [field_low_eq_setWidth, BitVec.setWidth_setWidth_of_le _ (by decide), BitVec.setWidth_eq]
  rw [softintPart, hlow]
  rfl

theorem append_zeros_eq (x : BitVec 49) : x ++ (0 : BitVec 15) = x.setWidth 64 <<< 15 := by
  apply BitVec.eq_of_toNat_eq
  have hx := x.isLt
  rw [toNat_append_eq, BitVec.toNat_shiftLeft, BitVec.toNat_setWidth, Nat.shiftLeft_eq]
  change _ + 0 = _
  omega

theorem append_three_eq (x y : BitVec 3) : zext64 (x ++ y) = BitVec.ofNat 64 (8 * x.toNat + y.toNat) := by
  apply BitVec.eq_of_toNat_eq
  rw [zext64, BitVec.toNat_setWidth, toNat_append_eq, BitVec.toNat_ofNat]
  rfl

/-- Each instruction of `readPrivRows` is a privileged read of its register. -/
theorem exec_readPrivRows (rd : Reg) (s : State) : ∀ r ∈ readPrivRows, exec (r.1 rd) s = readPriv s rd (r.2 s) := by
  simp only [readPrivRows, List.forall_mem_cons]
  refine ⟨congrArg (readPriv s rd) (softintBits_eq s), rfl, congrArg (readPriv s rd) (append_zeros_eq s.tba), rfl, rfl, rfl,
    rfl, rfl, rfl, rfl, rfl, congrArg (readPriv s rd) (append_three_eq _ _), rfl, nofun⟩

/-- Each instruction of `readTrapRows` reads a field of the current trap stack entry. -/
theorem exec_readTrapRows (rd : Reg) (s : State) :
    ∀ r ∈ readTrapRows, exec (r.1 rd) s = readTrapStack s rd (r.2 (trapEntry s)) := by
  simp only [readTrapRows, List.forall_mem_cons]
  exact ⟨rfl, rfl, rfl, rfl, nofun⟩

/-- Each instruction of `writeRows` changes its register. -/
theorem exec_writeRows (rs1 : Reg) (op2 : RegImm 13) (s : State) :
    ∀ r ∈ writeRows, exec (r.1 rs1 op2) s = .next (advance (r.2 s (readR s rs1 ^^^ operand2 s op2))) := by
  simp only [writeRows, List.forall_mem_cons]
  exact ⟨rfl, rfl, rfl, rfl, nofun⟩

/-- The level number that a write of TL or GL leaves (R60, R62). -/
theorem saturate2_field (v : Word64) :
    saturate2 (field v 0 3) = if v.toNat % 8 = 0 then 0 else if v.toNat % 8 = 1 then 1 else 2 := by
  have hlow : (field v 0 3).toNat = v.toNat % 8 := (toNat_field v 0 3).trans (by rw [pow_zero, Nat.div_one]; rfl)
  rw [saturate2, hlow]

/-- Each instruction of `writePrivRows` is a privileged change of its register. -/
theorem exec_writePrivRows (rs1 : Reg) (op2 : RegImm 13) (s : State) :
    ∀ r ∈ writePrivRows, exec (r.1 rs1 op2) s = writePriv s (r.2 s (readR s rs1 ^^^ operand2 s op2)) := by
  simp only [writePrivRows, List.forall_mem_cons]
  refine ⟨rfl, rfl, rfl, ?STICK_CMPR, rfl, rfl, ?level, rfl, rfl, rfl, rfl, rfl, rfl, rfl, ?globals, nofun⟩
  case STICK_CMPR => exact congrArg (fun b => writePriv s { s with stickCmpr := ⟨b, _⟩ }) (bit_top_64 _)
  case level => exact congrArg (fun n => writePriv s { s with tl := n }) (saturate2_field _)
  case globals => exact congrArg (fun n => writePriv s { s with gl := n }) (saturate2_field _)

theorem clearPcLow_eq (v : Word64) : clearPcLow v = v &&& ~~~3 := by
  apply BitVec.eq_of_getLsbD_eq
  intro i hi
  have hlow : (0b11 : BitVec 64).getLsbD i = decide (i < 2) := by
    rcases i with _ | _ | i
    · rfl
    · rfl
    · rw [decide_eq_false (by omega), BitVec.getLsbD, Nat.testBit_lt_two_pow]
      exact lt_of_lt_of_le (by decide : (3 : Nat) < 2 ^ 2) (Nat.pow_le_pow_right (by decide) (by omega))
  rw [BitVec.getLsbD_and, BitVec.getLsbD_not, hlow]
  have hbit := bit_append_high (field v 2 62) (0 : BitVec 2) (i := i)
  by_cases h : 2 ≤ i
  · have hhigh := hbit h
    simp only [bit] at hhigh
    rw [clearPcLow, hhigh]
    have hi' : i - 2 < 62 := by omega
    simp [field, hi, h, hi', Nat.not_lt.mpr h]
  · have hlow' := bit_append_low (field v 2 62) (0 : BitVec 2) (i := i) (by omega)
    simp only [bit] at hlow'
    rw [clearPcLow, hlow']
    simp [Nat.not_le.mp h]

/-- Each instruction of `writeTrapRows` changes a field of the current trap stack entry. -/
theorem exec_writeTrapRows (rs1 : Reg) (op2 : RegImm 13) (s : State) :
    ∀ r ∈ writeTrapRows, exec (r.1 rs1 op2) s =
      writeTrapStack s (r.2 s.par (trapEntry s) (readR s rs1 ^^^ operand2 s op2)) := by
  simp only [writeTrapRows, List.forall_mem_cons]
  refine ⟨?TPC, ?TNPC, rfl, rfl, nofun⟩
  case TPC => exact congrArg (fun v => writeTrapStack s { trapEntry s with tpc := v }) (clearPcLow_eq _)
  case TNPC => exact congrArg (fun v => writeTrapStack s { trapEntry s with tnpc := v }) (clearPcLow_eq _)

/-! ## SAVED and RESTORED -/

theorem exec_SAVED (s : State) :
    exec .SAVED s = finish s (needPriv s >>= fun _ =>
      if maxSavable.toNat ≤ s.cansave.toNat ∨ (s.canrestore = 0 ∧ s.otherwin = 0) then .error (.stuck .savedUndefined)
      else if s.otherwin = 0 then
        .ok (advance { s with cansave := s.cansave + 1, canrestore := s.canrestore - 1 })
      else .ok (advance { s with cansave := s.cansave + 1, otherwin := s.otherwin - 1 })) := rfl

theorem exec_RESTORED (s : State) :
    exec .RESTORED s = finish s (needPriv s >>= fun _ =>
      if maxSavable.toNat ≤ s.canrestore.toNat ∨ (s.cansave = 0 ∧ s.otherwin = 0) then .error (.stuck .restoredUndefined)
      else if s.otherwin = 0 then
        .ok (advance { s with canrestore := s.canrestore + 1, cleanwin := cleanOneMore s, cansave := s.cansave - 1 })
      else
        .ok (advance { s with canrestore := s.canrestore + 1, cleanwin := cleanOneMore s, otherwin := s.otherwin - 1 })) :=
  rfl

/-! ## Privileged instructions in nonprivileged mode -/

theorem takeTrap_privilegedOpcode {s : State} (htl : s.tl.val < 2) :
    takeTrap .privilegedOpcode s = .next (enterTrap s 0x011) :=
  takeTrap_delivered rfl rfl htl nofun

/-- An instruction that needs privileged mode first takes privileged_opcode without it (R462). -/
theorem finish_needPriv_user {s : State} (hpriv : s.pstate.priv = false) (k : Unit → Eff State) :
    finish s (needPriv s >>= k) = takeTrap .privilegedOpcode s := by
  rw [needPriv, finish_require, hpriv]
  rfl

/-- Settles O16: each of these instructions needs privileged mode first. -/
theorem privilegedOpcode : Obligations.PrivilegedOpcode := by
  intro s hpriv htl
  rw [← takeTrap_privilegedOpcode htl]
  have traps : ∀ k, finish s (needPriv s >>= k) = takeTrap .privilegedOpcode s := finish_needPriv_user hpriv
  have user : ¬s.pstate.priv = true := Bool.eq_false_iff.mp hpriv
  refine ⟨?ops, fun rd => ⟨traps _, fun r hr => ?read, fun r hr => ?readTrap⟩, fun rs1 op2 =>
    ⟨fun r hr => ?write, fun r hr => ?writeTrap⟩⟩
  case ops =>
    have returns : ∀ t, finish s (do returnChecks s; .ok t) = takeTrap .privilegedOpcode s := fun t => by
      rw [finish_returnChecks, if_neg user]
    have windows : ∀ t, windowOp s t = takeTrap .privilegedOpcode s := fun t => by rw [windowOp_eq, if_neg user]
    simp only [List.forall_mem_cons]
    exact ⟨(exec_DONE s).trans (returns _), (exec_RETRY s).trans (returns _), windows _, windows _, windows _, windows _,
      (exec_SAVED s).trans (traps _), (exec_RESTORED s).trans (traps _), fun _ h => absurd h List.not_mem_nil⟩
  case read => rw [exec_readPrivRows rd s r hr, readPriv_eq, if_neg user]
  case readTrap => rw [exec_readTrapRows rd s r hr, readTrapStack_eq, if_neg user]
  case write => rw [exec_writePrivRows rs1 op2 s r hr, writePriv_eq, if_neg user]
  case writeTrap => rw [exec_writeTrapRows rs1 op2 s r hr, writeTrapStack_eq, if_neg user]

/-! ## Reads of state registers -/

/-- A counter reads, or raises privileged_action where the mode may not read it (R33, R40). -/
theorem finish_needCounter (s : State) (rd : Reg) (pd npt : Bool) (v : Word64) :
    let o := finish s do
      needCounter s pd npt
      .ok (advance (writeR s rd v))
    let disabled := if s.pstate.priv then pd else npt
    (disabled = false → nextWithR o (advance s) rd v) ∧ (disabled = true → o = takeTrap .privilegedAction s) := by
  dsimp only
  rw [needCounter, finish_require]
  refine ⟨fun h => ?_, fun h => ?_⟩
  · rw [h]
    exact nextWithR_advance s rd v
  · rw [h]
    rfl

theorem clearLow_eq_ofNat (x : BitVec 63) (m : Nat) :
    zext64 (clearLow x m) = BitVec.ofNat 64 (x.toNat / 2 ^ m * 2 ^ m) := by
  apply BitVec.eq_of_toNat_eq
  have hle := Nat.div_mul_le_self x.toNat (2 ^ m)
  have hx := x.isLt
  rw [zext64, BitVec.toNat_setWidth, clearLow, BitVec.toNat_shiftLeft, BitVec.toNat_ushiftRight, Nat.shiftLeft_eq,
    Nat.shiftRight_eq_div_pow, BitVec.toNat_ofNat, Nat.mod_eq_of_lt (a := x.toNat / 2 ^ m * 2 ^ m) (b := 2 ^ 63) (by omega)]

theorem zext64_eq_ofNat {n : Nat} (x : BitVec n) : zext64 x = BitVec.ofNat 64 x.toNat := by
  apply BitVec.eq_of_toNat_eq
  rw [zext64, BitVec.toNat_setWidth, BitVec.toNat_ofNat]

/-- Settles O50: each read answers its register's value. -/
theorem stateRegisterReads : Obligations.StateRegisterReads := by
  intro s rd
  refine ⟨fun r hr => ?any, fun hpriv r hr => ?priv, fun hpriv r hr => ?trap, ?tick, ?stick, fun hpriv => ?prTick,
    fun hfpu => ?gsr⟩
  case any =>
    rw [exec_readRows rd s r hr]
    exact nextWithR_result ..
  case priv =>
    rw [exec_readPrivRows rd s r hr, readPriv_eq, if_pos hpriv]
    exact nextWithR_advance ..
  case trap =>
    rw [exec_readTrapRows rd s r hr, readTrapStack_eq, if_pos hpriv]
    refine ⟨fun h => ?_, fun h => ?_, fun h => ?_⟩
    · rw [if_neg (by rw [h]; decide)]
    · have hentry : trapEntry s = s.trap1 := if_neg (by rw [h]; decide)
      rw [if_pos (by rw [h]; decide), hentry]
      exact nextWithR_advance ..
    · have hentry : trapEntry s = s.trap2 := if_pos (by rw [h]; decide)
      rw [if_pos (by rw [h]; decide), hentry]
      exact nextWithR_advance ..
  case tick =>
    dsimp only
    rw [← zext64_eq_ofNat]
    exact finish_needCounter s rd s.par.tickPrivDis s.par.tickNpt _
  case stick =>
    dsimp only
    rw [← clearLow_eq_ofNat]
    exact finish_needCounter s rd s.par.stickPrivDis s.par.stickNpt _
  case prTick =>
    dsimp only
    rw [← zext64_eq_ofNat]
    have hexec : exec (.RDPR_TICK rd) s =
        finish s (do
          require (!s.par.tickPrivDis) .privilegedAction
          .ok (advance (writeR s rd (zext64 s.tick)))) := by
      refine (finish_require s s.pstate.priv .privilegedOpcode _).trans ?_
      rw [if_pos hpriv]
    rw [hexec, finish_require]
    refine ⟨fun h => ?_, fun h => ?_⟩
    · rw [h]
      exact nextWithR_advance ..
    · rw [h]
      rfl
  case gsr =>
    have hexec : exec (.RDGSR rd) s = result s rd s.gsr.bits := by
      refine (finish_require s (fpuEnabled s) .fpDisabled _).trans ?_
      rw [if_pos hfpu]
      rfl
    rw [hexec]
    exact nextWithR_result ..

/-! ## Writes of state registers -/

/-- Settles O51: each write changes its register by the value. -/
theorem stateRegisterWrites : Obligations.StateRegisterWrites := by
  refine ⟨fun s rs1 op2 mode => ?registers, fun s rs1 op2 => ?counts⟩
  case registers =>
    refine ⟨fun r hr => ?any, fun hpriv r hr => ?priv, fun hpriv r hr => ?trap, fun hfpu => ?fpu⟩
    case any => exact exec_writeRows rs1 op2 s r hr
    case priv => rw [exec_writePrivRows rs1 op2 s r hr, writePriv_eq, if_pos hpriv]
    case trap =>
      rw [exec_writeTrapRows rs1 op2 s r hr, writeTrapStack_eq, if_pos hpriv]
      refine ⟨fun h => ?_, fun h => ?_, fun h => ?_⟩
      · rw [if_neg (by rw [h]; decide)]
      · have hlevel : s.tl.val ≠ 2 := by rw [h]; decide
        rw [if_pos (by rw [h]; decide), trapEntry, if_neg hlevel, setTrapEntry, if_neg hlevel]
        rfl
      · have hlevel : s.tl.val = 2 := by rw [h]; rfl
        rw [if_pos (by rw [h]; decide), trapEntry, if_pos hlevel, setTrapEntry, if_pos hlevel]
        rfl
    case fpu =>
      have hmode : bit mode 2 = mode.msb := by rw [BitVec.msb_eq_getLsbD_last]; rfl
      refine ⟨?_, ?_⟩
      · refine (finish_require s (fpuEnabled s) .fpDisabled _).trans ?_
        rw [if_pos hfpu]
        rfl
      · refine (finish_require s (fpuEnabled s) .fpDisabled _).trans ?_
        rw [if_pos hfpu, ← hmode]
        rfl
  case counts =>
    have waiting : ∀ v : Word64,
        let o : Out := .next (advance (writeMwait s v))
        let count := min v.toNat (2 ^ s.par.mwaitBits - 1)
        (s.monitor = none → o = .next { advance s with mwait := 0 }) ∧
        (s.monitor ≠ none → count ≠ 0 → o = .next { advance s with mwait := count }) ∧
        (s.monitor ≠ none → count = 0 → o = .next { advance s with mwait := 0, monitor := none }) := by
      intro v
      dsimp only
      rw [writeMwait, saturateCount]
      refine ⟨fun h => ?_, fun h hc => ?_, fun h hc => ?_⟩
      · rw [if_pos h]
        rfl
      · rw [if_neg h, if_neg hc]
        rfl
      · rw [if_neg h, if_pos hc]
        rfl
    exact ⟨rfl, rfl, waiting _, waiting _⟩

end Sys2Proof.Machine
end

section
/-!
PROOF. Register windows: SAVE, RESTORE, FLUSHW and RETURN, and the transfers of windows in privileged mode.
-/

namespace Sys2Proof.Machine

open Sys2Proof

theorem spillTrap_eq (s : State) :
    spillTrap s = if s.otherwin ≠ 0 then .spill true s.wstate.other else .spill false s.wstate.normal := by
  simp only [spillTrap, bne_iff_ne]

/-! ## The instructions, check by check -/

theorem exec_SAVE (rd rs1 : Reg) (op2 : RegImm 13) (s : State) :
    exec (.SAVE rd rs1 op2) s =
      if s.cansave ≠ 0 then
        if s.cleanwin ≠ s.canrestore then
          .next (advance (writeR
            { s with cwp := s.cwp + 1, cansave := s.cansave - 1, canrestore := s.canrestore + 1 } rd
            (readR s rs1 + operand2 s op2)))
        else takeTrap .cleanWindow s
      else takeTrap (spillTrap s) s := by
  change execSAVE rd rs1 op2 s = _
  have hclean : (s.cleanwin - s.canrestore != 0) = true ↔ s.cleanwin ≠ s.canrestore := by
    rw [bne_iff_ne, ne_eq, sub_eq_zero]
  unfold execSAVE effAddr
  rw [finish_require, finish_require]
  simp only [hclean, bne_iff_ne]
  rfl

theorem exec_RESTORE (rd rs1 : Reg) (op2 : RegImm 13) (s : State) :
    exec (.RESTORE rd rs1 op2) s =
      if s.canrestore ≠ 0 then .next (advance (writeR (restoreWindow s) rd (readR s rs1 + operand2 s op2)))
      else takeTrap (fillTrap s) s := by
  change execRESTORE rd rs1 op2 s = _
  unfold execRESTORE effAddr
  rw [finish_require]
  simp only [bne_iff_ne]
  rfl

theorem exec_FLUSHW (s : State) :
    exec .FLUSHW s = if s.cansave = 6 then .next (advance s) else takeTrap (spillTrap s) s := by
  change execFLUSHW s = _
  unfold execFLUSHW
  rw [finish_require]
  simp only [beq_iff_eq]
  rfl

/-! ## The window relation -/

/-- The window relation depends on the four registers alone. -/
theorem windowsConsistent_congr {s t : State} (hsave : t.cansave = s.cansave) (hrestore : t.canrestore = s.canrestore)
    (hother : t.otherwin = s.otherwin) (hclean : t.cleanwin = s.cleanwin) (h : windowsConsistent s) :
    windowsConsistent t := by
  unfold windowsConsistent
  rw [hsave, hrestore, hother, hclean]
  exact h

/-- A trap keeps the window relation: it moves CWP alone. -/
theorem windowsConsistent_takeTrap {e : Exc} {s t : State} (h : windowsConsistent s) (ht : takeTrap e s = .next t) :
    windowsConsistent t := by
  obtain ⟨tt, _, _, _, _, rfl⟩ := takeTrap_next ht
  exact windowsConsistent_congr rfl rfl rfl rfl h

/-- Entering a new window keeps the relation where there is one to save into and it is clean (R285). -/
theorem windowsConsistent_saved {s t : State} (h : windowsConsistent s) (hsave : s.cansave ≠ 0)
    (hclean : s.cleanwin ≠ s.canrestore) (hs : t.cansave = s.cansave - 1) (hr : t.canrestore = s.canrestore + 1)
    (ho : t.otherwin = s.otherwin) (hc : t.cleanwin = s.cleanwin) : windowsConsistent t := by
  obtain ⟨hsum, hle⟩ := h
  have hne : s.cansave.toNat ≠ 0 := fun h0 => hsave (BitVec.eq_of_toNat_eq h0)
  have hneq : s.cleanwin.toNat ≠ s.canrestore.toNat := fun h0 => hclean (BitVec.eq_of_toNat_eq h0)
  have hwins : Config.nRegWindows - 2 = 6 := rfl
  rw [hwins] at hsum
  unfold windowsConsistent
  rw [hs, hr, ho, hc, hwins]
  bv_omega

/-- Going back to the window before keeps the relation (R289). -/
theorem windowsConsistent_restored {s t : State} (h : windowsConsistent s) (hrestore : s.canrestore ≠ 0)
    (hs : t.cansave = s.cansave + 1) (hr : t.canrestore = s.canrestore - 1) (ho : t.otherwin = s.otherwin)
    (hc : t.cleanwin = s.cleanwin) : windowsConsistent t := by
  obtain ⟨hsum, hle⟩ := h
  have hne : s.canrestore.toNat ≠ 0 := fun h0 => hrestore (BitVec.eq_of_toNat_eq h0)
  have hwins : Config.nRegWindows - 2 = 6 := rfl
  rw [hwins] at hsum
  unfold windowsConsistent
  rw [hs, hr, ho, hc, hwins]
  bv_omega

theorem windowsConsistent_save {rd rs1 : Reg} {op2 : RegImm 13} {s t : State} (h : windowsConsistent s)
    (hexec : exec (.SAVE rd rs1 op2) s = .next t) : windowsConsistent t := by
  rw [exec_SAVE] at hexec
  split at hexec
  next hsave =>
    split at hexec
    next hclean =>
      obtain rfl := Host.Outcome.next.inj hexec
      exact windowsConsistent_saved h hsave hclean (writeR_cansave ..) (writeR_canrestore ..) (writeR_otherwin ..)
        (writeR_cleanwin ..)
    next => exact windowsConsistent_takeTrap h hexec
  next => exact windowsConsistent_takeTrap h hexec

theorem windowsConsistent_restore {rd rs1 : Reg} {op2 : RegImm 13} {s t : State} (h : windowsConsistent s)
    (hexec : exec (.RESTORE rd rs1 op2) s = .next t) : windowsConsistent t := by
  rw [exec_RESTORE] at hexec
  split at hexec
  next hrestore =>
    obtain rfl := Host.Outcome.next.inj hexec
    exact windowsConsistent_restored h hrestore (writeR_cansave ..) (writeR_canrestore ..) (writeR_otherwin ..)
      (writeR_cleanwin ..)
  next => exact windowsConsistent_takeTrap h hexec

theorem windowsConsistent_return {rs1 : Reg} {op2 : RegImm 13} {s t : State} (h : windowsConsistent s)
    (hexec : exec (.RETURN rs1 op2) s = .next t) : windowsConsistent t := by
  rw [exec_RETURN] at hexec
  split at hexec
  next hrestore =>
    split at hexec
    next =>
      split at hexec
      next => exact windowsConsistent_takeTrap h hexec
      next =>
        obtain rfl := Host.Outcome.next.inj hexec
        exact windowsConsistent_restored h (bne_iff_ne.mp hrestore) rfl rfl rfl rfl
    next => exact windowsConsistent_takeTrap h hexec
  next => exact windowsConsistent_takeTrap h hexec

/-- Settles O47: the checks in order, the sum in the new window, the relation kept. -/
theorem saveRestore : Obligations.SaveRestore := by
  intro s rd rs1 op2
  dsimp only
  rw [← spillTrap_eq, ← fillTrap_eq, exec_SAVE, exec_RESTORE, exec_FLUSHW]
  refine ⟨fun h => ?_, fun h hc => ?_, fun h hc => ?_, fun h => ?_, fun h => ?_, fun h => if_pos h, fun h => if_neg h, ?_⟩
  · rw [if_neg (not_not_intro h)]
  · rw [if_pos h, if_neg (not_not_intro hc)]
  · rw [if_pos h, if_pos hc]
    exact nextWithR_of (advance_writeR ..)
  · rw [if_neg (not_not_intro h)]
  · rw [if_pos h]
    exact nextWithR_of (advance_writeR ..)
  · rintro hs i t (rfl | rfl | rfl) ht
    · exact windowsConsistent_save hs ht
    · exact windowsConsistent_restore hs ht
    · exact windowsConsistent_return hs ht

/-! ## Transfers of windows -/

theorem cleanOneMore_eq (s : State) : cleanOneMore s = BitVec.ofNat 3 (min 7 (s.cleanwin.toNat + 1)) := by
  have hall : ∀ x : BitVec 3, (if x.toNat < lastWindow.toNat then x + 1 else x) = BitVec.ofNat 3 (min 7 (x.toNat + 1)) := by
    decide
  exact hall s.cleanwin

/-- Settles O49: the transfers in privileged mode, and the states in which the spec leaves them undefined. -/
theorem windowTransfers : Obligations.WindowTransfers := by
  intro s hpriv
  have hnormal : exec .NORMALW s = windowOp s { s with canrestore := s.otherwin, otherwin := 0 } := rfl
  have hother : exec .OTHERW s = windowOp s { s with otherwin := s.canrestore, canrestore := 0 } := rfl
  have hmax : maxSavable.toNat = 6 := rfl
  dsimp only
  rw [hnormal, hother, windowOp_eq, windowOp_eq, exec_SAVED, exec_RESTORED, needPriv, finish_require, finish_require,
    ← cleanOneMore_eq, hmax]
  simp only [if_pos hpriv]
  have defined : ∀ {a b c : BitVec 3}, a.toNat < 6 → (c ≠ 0 ∨ b ≠ 0) → ¬(6 ≤ a.toNat ∨ (b = 0 ∧ c = 0)) := by
    rintro a b c ha hbc (hle | ⟨hb, hc⟩)
    · exact absurd hle (not_le.mpr ha)
    · exact hbc.elim (· hc) (· hb)
  refine ⟨rfl, rfl, fun hs ho hr => ?_, fun hs ho => ?_, fun hu => ?_, ⟨fun hr ho hs => ?_, fun hr ho => ?_⟩, fun hu => ?_⟩
  · rw [if_neg (defined hs (.inr hr)), if_pos ho]
    rfl
  · rw [if_neg (defined hs (.inl ho)), if_neg ho]
    rfl
  · rw [if_pos (hu.imp_right And.symm)]
    rfl
  · rw [if_neg (defined hr (.inr hs)), if_pos ho]
    rfl
  · rw [if_neg (defined hr (.inl ho)), if_neg ho]
    rfl
  · rw [if_pos (hu.imp_right And.symm)]
    rfl

end Sys2Proof.Machine
end

section
/-!
PROOF. Traps and the instruction boundary: what a trap saves and sets, which disrupting trap is taken, and what happens
at a boundary and in the gap after it.
-/

namespace Sys2Proof.Machine

open Sys2Proof

/-! ## Taking a trap -/

/-- The address of the handler, as a number (R457). -/
theorem toNat_trapVector (s : State) (tt : BitVec 9) :
    (trapVector s tt).toNat = 2 ^ 15 * s.tba.toNat + (if 0 < s.tl.val then 2 ^ 14 else 0) + 32 * tt.toNat := by
  have hzero : (0 : BitVec 5).toNat = 0 := rfl
  have hflag : (flag (decide (0 < s.tl.val))).toNat = if 0 < s.tl.val then 1 else 0 := by
    by_cases h : 0 < s.tl.val
    · rw [if_pos h, decide_eq_true h]; rfl
    · rw [if_neg h, decide_eq_false h]; rfl
  simp only [trapVector, toNat_append_eq, hflag, hzero]
  split <;> omega

/-- What a trap saves (R203, R458). -/
theorem savedEntry_eq (s : State) (tt : BitVec 9) :
    let saved (v : Word64) : Word64 :=
      if s.pstate.am = true ∧ tt ≠ 0x074 then BitVec.ofNat 64 (v.toNat % 2 ^ 32) else v
    savedEntry s tt = { tpc := saved s.pc, tnpc := saved s.npc, tt := tt,
                        tstate := { gl := BitVec.ofNat 3 s.gl.val, ccr := s.ccr, asi := s.asi, pstate := s.pstate,
                                    cwp := s.cwp.setWidth 5 } } := by
  have hwhole : (s.pstate.am && tt != 0x074) = true ↔ s.pstate.am = true ∧ tt ≠ 0x074 := by
    rw [Bool.and_eq_true, bne_iff_ne]
  simp only [savedEntry, ite_low32 hwhole]

/-- CWP on entry to the handler, with the spill and fill ranges half open (R458, R483). -/
theorem trapCwp_eq (s : State) (tt : BitVec 9) :
    trapCwp s tt = if tt = 0x024 then s.cwp + 1
      else if 0x080 ≤ tt.toNat ∧ tt.toNat < 0x0C0 then s.cwp + s.cansave + 2
      else if 0x0C0 ≤ tt.toNat ∧ tt.toNat < 0x100 then s.cwp - s.canrestore - 1 else s.cwp := by
  simp only [trapCwp, Nat.lt_succ_iff]

/-- What a trap records in FSR (R467, R468). -/
theorem recordFsr_other {e : Exc} (hieee : ∀ c, e ≠ .fpIeee c) (hother : ∀ f, e ≠ .fpOther f) (x : Fsr) :
    e.recordFsr x = x := by
  cases e
  case fpIeee c => exact absurd rfl (hieee c)
  case fpOther f => exact absurd rfl (hother f)
  all_goals rfl

theorem raised_level (n : Fin 3) (h : n.val < 2) : (if n.val = 0 then 1 else 2 : Fin 3).val = n.val + 1 := by
  revert n; decide

theorem raised_globals (n : Fin 3) : (if n.val = 0 then 1 else 2 : Fin 3).val = min 2 (n.val + 1) := by
  revert n; decide

/-- A trap that is not delivered to the privileged trap table is the terminal event (R456). -/
theorem takeTrap_exits {s : State} {e : Exc}
    (h : e.tt = none ∨ e.alwaysExits = true ∨ s.tl = 2 ∨ (e.toHyper = true ∧ s.par.htrapPolicy = .exit)) :
    takeTrap e s = .fault (.hyperprivilegedTrap e.tt s.pc s.npc) := by
  rw [takeTrap_eq]
  cases htt : e.tt with
  | none => rfl
  | some tt =>
    have hstop : (e.alwaysExits || decide (s.tl.val = Config.maxPtl) || (e.toHyper && decide (s.par.htrapPolicy = .exit)))
        = true := by
      rcases h with h | h | h | ⟨hhyper, hpol⟩
      · rw [htt] at h
        exact absurd h nofun
      · simp [h]
      · simp [h, Config.maxPtl]
      · simp [hhyper, hpol]
    exact if_pos hstop

/-- Settles O13: the fields of `enterTrap`. -/
theorem trapEntered : Obligations.TrapEntered := by
  refine ⟨fun s e tt htt htl hexit hpol => ?_, fun s e h => takeTrap_exits h⟩
  have hsaved := savedEntry_eq s tt
  dsimp only at hsaved ⊢
  refine ⟨enterTrap { s with fsr := e.recordFsr s.fsr } tt, takeTrap_delivered htt hexit htl hpol, raised_level s.tl htl,
    raised_globals s.gl, fun h0 => ⟨?_, if_pos h0⟩, fun h1 => ?_, rfl, toNat_trapVector s tt, rfl, trapCwp_eq s tt, rfl,
    ?_, ?_, fun hieee hother => recordFsr_other hieee hother s.fsr, rfl⟩
  · exact (if_pos h0).trans hsaved
  · have hne : s.tl.val ≠ 0 := by omega
    exact ⟨if_neg hne, (if_neg hne).trans hsaved⟩
  · rintro c rfl
    rfl
  · rintro f rfl
    rfl

/-! ## Which disrupting trap is taken -/

theorem queuePending_iff (s : State) (q : Queue) :
    queuePending s q = true ↔ s.queueHead.get q ≠ s.queueTail.get q := bne_iff_ne

theorem levelRequested_iff (s : State) (n : BitVec 4) :
    levelRequested s n = true ↔ bit s.softint n.toNat = true ∨ (n = 14 ∧ bit s.softint 16 = true) := by
  rw [levelRequested, Bool.or_eq_true, Bool.and_eq_true, decide_eq_true_iff]

theorem mem_interruptLevels (n : BitVec 4) : n ∈ interruptLevels ↔ 0 < n.toNat := by
  revert n; decide

/-- The levels stand in falling order. -/
theorem interruptLevels_sorted : interruptLevels.Pairwise fun n m => m.toNat < n.toNat := by decide

/-- The first element of a falling list that passes a test is the greatest that does. -/
theorem find?_eq_some_of_greatest {l : List (BitVec 4)} (hl : l.Pairwise fun n m => m.toNat < n.toNat)
    {p : BitVec 4 → Bool} {n : BitVec 4} (hn : n ∈ l) (hp : p n = true)
    (hmax : ∀ m ∈ l, p m = true → m.toNat ≤ n.toNat) : l.find? p = some n := by
  induction l with
  | nil => exact absurd hn List.not_mem_nil
  | cons x xs ih =>
    obtain ⟨hx, hxs⟩ := List.pairwise_cons.mp hl
    rcases List.mem_cons.mp hn with rfl | hmem
    · exact List.find?_cons_of_pos hp
    · have hfalse : ¬p x = true := fun hpx =>
        absurd (hmax x List.mem_cons_self hpx) (not_le.mpr (hx n hmem))
      rw [List.find?_cons_of_neg hfalse]
      exact ih hxs hmem fun m hm => hmax m (List.mem_cons_of_mem _ hm)

theorem highestLevel_eq_none {s : State}
    (h : ¬∃ n : BitVec 4, (0 < n.toNat ∧ (bit s.softint n.toNat = true ∨ (n = 14 ∧ bit s.softint 16 = true))) ∧
      s.pil.toNat < n.toNat) : highestLevel s = none := by
  refine List.find?_eq_none.mpr fun n hn htest => h ⟨n, ⟨(mem_interruptLevels n).mp hn, ?_⟩, ?_⟩
  · exact (levelRequested_iff s n).mp (Bool.and_eq_true_iff.mp htest).1
  · exact of_decide_eq_true (Bool.and_eq_true_iff.mp htest).2

theorem highestLevel_eq_some {s : State} {n : BitVec 4}
    (hreq : 0 < n.toNat ∧ (bit s.softint n.toNat = true ∨ (n = 14 ∧ bit s.softint 16 = true)))
    (hpil : s.pil.toNat < n.toNat)
    (hmax : ∀ m : BitVec 4, (0 < m.toNat ∧ (bit s.softint m.toNat = true ∨ (m = 14 ∧ bit s.softint 16 = true))) →
      m.toNat ≤ n.toNat) : highestLevel s = some n := by
  refine find?_eq_some_of_greatest interruptLevels_sorted ((mem_interruptLevels n).mpr hreq.1) ?_ fun m hm htest => ?_
  · rw [Bool.and_eq_true, levelRequested_iff, decide_eq_true_iff]
    exact ⟨hreq.2, hpil⟩
  · exact hmax m ⟨(mem_interruptLevels m).mp hm, (levelRequested_iff s m).mp (Bool.and_eq_true_iff.mp htest).1⟩

/-- Settles O6: the chain of `pendingTrap`. -/
theorem pendingPriority : Obligations.PendingPriority := by
  intro s
  have pending : ∀ q, s.queueHead.get q ≠ s.queueTail.get q → queuePending s q = true := fun q =>
    (queuePending_iff s q).mpr
  have idle : ∀ q, ¬s.queueHead.get q ≠ s.queueTail.get q → ¬queuePending s q = true := fun q h hp =>
    h ((queuePending_iff s q).mp hp)
  refine ⟨fun hie => ?_, fun hie => ?_⟩
  · rw [pendingTrap, hie]
    rfl
  · rw [pendingTrap, if_pos hie]
    refine ⟨fun hcpu => ?_, fun hcpu hdev => ?_, fun hcpu hdev n hreq hpil hmax => ?_, fun hcpu hdev hlev hres => ?_,
      fun hcpu hdev hlev hres hnon => ?_, fun hcpu hdev hlev hres hnon => ?_⟩
    · rw [if_pos (pending .cpuMondo hcpu)]
    · rw [if_neg (idle .cpuMondo hcpu), if_pos (pending .devMondo hdev)]
    · rw [if_neg (idle .cpuMondo hcpu), if_neg (idle .devMondo hdev), highestLevel_eq_some hreq hpil hmax]
    · rw [if_neg (idle .cpuMondo hcpu), if_neg (idle .devMondo hdev), highestLevel_eq_none hlev]
      exact if_pos (pending .resumable hres)
    · rw [if_neg (idle .cpuMondo hcpu), if_neg (idle .devMondo hdev), highestLevel_eq_none hlev]
      exact (if_neg (idle .resumable hres)).trans (if_pos (pending .nonresumable hnon))
    · rw [if_neg (idle .cpuMondo hcpu), if_neg (idle .devMondo hdev), highestLevel_eq_none hlev]
      exact (if_neg (idle .resumable hres)).trans (if_neg (idle .nonresumable hnon))

/-! ## The reset state and decoded samples -/

/-- Settles O3: the decoder on each word. -/
theorem decodeSamples : Obligations.DecodeSamples := by
  refine ⟨?_, ?_, ?_, ?_, ?_, ?_, ?_, ?_, ?_, ?_, ?_⟩ <;> rfl

/-- Settles O8: the record of the start state, and the invariants on it. -/
theorem resetState : Obligations.ResetState := by
  refine ⟨?_, ?_⟩
  · refine ⟨rfl, rfl, rfl, rfl, rfl, rfl, rfl, rfl, rfl, rfl, rfl, rfl, rfl, rfl, rfl, rfl, rfl, rfl, rfl, ?_, rfl, rfl, rfl, rfl, ?_⟩
    · intro q
      cases q <;> exact ⟨rfl, rfl⟩
    · exact ⟨rfl, rfl, rfl, rfl, rfl, rfl, rfl⟩
  · exact ⟨rfl, ⟨rfl, rfl, rfl, rfl, rfl, rfl⟩, rfl, by decide⟩

/-- Settles O4: the branch of `step`, `boundary` and `attempt` that the hypotheses select. -/
theorem stepRunsDecoded : Obligations.StepRunsDecoded := by
  intro s w i hmode hpending hsuspended hfetch hdecode hemulated
  have hattempt : attempt s = exec i s := by
    rw [attempt_eq, hfetch]
    dsimp only
    rw [hdecode]
    dsimp only
    rw [hemulated]
    rfl
  have hboundary : boundary s = exec i s := by
    rw [boundary, hpending]
    dsimp only
    rw [hsuspended, ← hattempt]
    rfl
  rw [step, hmode, hboundary]
  cases exec i s <;> rfl

end Sys2Proof.Machine
end

section
/-!
PROOF. Memory: the bytes of a value, and addresses and fetches on the default platform.
-/

namespace Sys2Proof.Machine

open Sys2Proof

/-! ## The bytes of a value (R70) -/

theorem readLE_eq_sum (m : Memory) (a n : Nat) :
    m.readLE a n = ((List.range n).map fun k => (m.read (a + k)).toNat * 256 ^ k).sum := by
  induction n with
  | zero => rfl
  | succ n ih =>
    rw [List.range_succ, List.map_append, List.sum_append, ← ih]
    simp [Memory.readLE]

theorem readBE_eq_sum (m : Memory) (a n : Nat) :
    m.readBE a n = ((List.range n).map fun k => (m.read (a + k)).toNat * 256 ^ (n - 1 - k)).sum := by
  induction n with
  | zero => rfl
  | succ n ih =>
    have hscale : (List.range n).map (fun k => (m.read (a + k)).toNat * 256 ^ (n + 1 - 1 - k)) =
        (List.range n).map (fun k => (m.read (a + k)).toNat * 256 ^ (n - 1 - k) * 256) := by
      refine List.map_congr_left fun k hk => ?_
      have hlt : k < n := List.mem_range.mp hk
      have hexp : n + 1 - 1 - k = n - 1 - k + 1 := by omega
      rw [hexp, pow_succ, Nat.mul_assoc]
    rw [List.range_succ, List.map_append, List.sum_append, hscale, List.sum_map_mul_right, ← ih]
    simp [Memory.readBE]

theorem readLE_of_bytes {m : Memory} {a v : Nat} :
    ∀ n, (∀ k, k < n → m.read (a + k) = BitVec.ofNat 8 (v / 256 ^ k)) → m.readLE a n = v % 256 ^ n := by
  intro n
  induction n with
  | zero => intro _; simp [Memory.readLE, Nat.mod_one]
  | succ n ih =>
    intro h
    have hsplit : v % 256 ^ (n + 1) = v % 256 ^ n + 256 ^ n * (v / 256 ^ n % 256) := Nat.mod_pow_succ
    have hbyte : (2 : Nat) ^ 8 = 256 := rfl
    rw [Memory.readLE, ih fun k hk => h k (Nat.lt_succ_of_lt hk), h n (Nat.lt_succ_self n), BitVec.toNat_ofNat, hsplit,
      hbyte, Nat.mul_comm]

theorem readBE_of_bytes {m : Memory} {a : Nat} :
    ∀ n v, (∀ k, k < n → m.read (a + k) = BitVec.ofNat 8 (v / 256 ^ (n - 1 - k))) → m.readBE a n = v % 256 ^ n := by
  intro n
  induction n with
  | zero => intro v _; simp [Memory.readBE, Nat.mod_one]
  | succ n ih =>
    intro v h
    have hlast : m.read (a + n) = BitVec.ofNat 8 v := by
      have hn := h n (Nat.lt_succ_self n)
      rwa [Nat.add_sub_cancel, Nat.sub_self, pow_zero, Nat.div_one] at hn
    have hrest : m.readBE a n = v / 256 % 256 ^ n := by
      refine ih (v / 256) fun k hk => ?_
      have hk' := h k (Nat.lt_succ_of_lt hk)
      have hexp : n + 1 - 1 - k = n - 1 - k + 1 := by omega
      rw [hk', hexp, Nat.div_div_eq_div_mul, ← pow_succ']
    have hsplit : v % 256 ^ (n + 1) = v % 256 + 256 * (v / 256 % 256 ^ n) := by rw [pow_succ', Nat.mod_mul]
    have hbyte : (2 : Nat) ^ 8 = 256 := rfl
    rw [Memory.readBE, hrest, hlast, BitVec.toNat_ofNat, hsplit, hbyte, Nat.add_comm, Nat.mul_comm]

/-- The value of bytes that hold `v` (R70). -/
theorem loadValue_of_bytesStored {s : State} {x : Place} {n v : Nat} (h : bytesStored s x n v) :
    loadValue s x n = v % 256 ^ n := by
  unfold bytesStored at h
  unfold loadValue
  cases hlittle : x.little with
  | true =>
    refine readLE_of_bytes n fun k hk => ?_
    rw [h k hk, hlittle]
    rfl
  | false =>
    refine readBE_of_bytes n v fun k hk => ?_
    rw [h k hk, hlittle]
    rfl

/-- Settles O36: the sum of the bytes in their order, and the bytes that a store leaves. -/
theorem memoryBytes : Obligations.MemoryBytes := by
  intro s x n v hwf
  have hstored := bytesStored_storeValue hwf x n v
  refine ⟨?_, loadValue_of_bytesStored hstored, hstored, memoryKeptOutside_storeValue hwf x n v,
    wf_storeValue hwf x n v, rfl⟩
  unfold loadValue
  cases x.little with
  | true => exact readLE_eq_sum ..
  | false => exact readBE_eq_sum ..

/-- The big-endian word at an address is its four bytes in order (R108). -/
theorem memoryWord_eq (s : State) (ra : Nat) :
    memoryWord s ra = s.mem.read ra ++ s.mem.read (ra + 1) ++ s.mem.read (ra + 2) ++ s.mem.read (ra + 3) := by
  apply BitVec.eq_of_toNat_eq
  have hlt := Memory.readBE_lt s.mem ra 4
  rw [memoryWord, BitVec.toNat_ofNat, Nat.mod_eq_of_lt (lt_of_lt_of_le hlt (by decide))]
  simp only [Memory.readBE, toNat_append_eq, Nat.add_zero]
  omega

theorem lineOf_eq (s : State) (ra : Nat) : lineOf s ra = ra / s.par.cacheLine * s.par.cacheLine := by
  have h := Nat.div_add_mod' ra s.par.cacheLine
  unfold lineOf
  omega

/-! ## The default platform (R101, R102) -/

section
variable {s : State}

/-- The address that the platform sees: its lower half under PSTATE.am (R59). -/
theorem toNat_maskVa (s : State) (va : Word64) :
    (maskVa s va).toNat = if s.pstate.am then va.toNat % 2 ^ 32 else va.toNat := by
  unfold maskVa
  split
  · rw [low32_eq, BitVec.toNat_ofNat]
    omega
  · rfl

/-- Every translation is the identity. -/
theorem translate_plain (h : plainPlatform s) (access : Config.Access) (ids : Contexts) {va : Word64}
    (hva : va.toNat < 2 ^ s.par.raBits) :
    translate s access ids va =
      .ok { ra := va.toNat, nfo := false, ie := false, e := false, cp := true, p := false, ep := true, w := true } := by
  obtain ⟨hmap, htsb, hid, hbits, _⟩ := h
  have hnone : ∀ c, translateIn s access c va = none := fun c => by simp [translateIn, hmap, htsb]
  have himpl : vaImplemented s.par va = true := by simp [vaImplemented, hbits]
  rw [translate, himpl, hnone, hnone, hid, identityAttr, Nat.mod_eq_of_lt hva]
  rfl

/-- No watchpoint hits. -/
theorem checkWatch_plain (h : plainPlatform s) (space : Option Space) (ea : Word64) (n : Nat) (kind : AccessKind) :
    checkWatch s space ea n kind = .ok () := by
  obtain ⟨_, _, _, _, hdata, _, hother⟩ := h
  have hno : watchData s.par (maskVa s ea).toNat n kind = false := by simp [watchData, watched, hdata, hother]
  rw [checkWatch, hno, Bool.and_false]
  rfl

/-- The implicit ASI names the primary or the nucleus space, in the byte order of PSTATE.cle (R72). -/
theorem implicitAsi_plain (s : State) :
    (asiSpace (implicitAsi s)).getD .primary ≠ .real ∧ asiLittle (implicitAsi s) = s.pstate.cle := by
  unfold implicitAsi
  split
  · cases s.pstate.cle <;> decide
  · cases s.pstate.cle <;> decide

/-- The attributes of the identity mapping pass every check of a page. -/
theorem checkPage_identity (s : State) (asi : BitVec 8) (kind : AccessKind) (ra : Nat) :
    checkPage s asi true kind
      { ra := ra, nfo := false, ie := false, e := false, cp := true, p := false, ep := true, w := true } = .ok () := by
  simp only [checkPage, Bool.and_false, Bool.false_and, Bool.not_false, Bool.not_true]
  rfl

/-- An access with an implicit ASI is allowed at its own address (R72, R101, R102). -/
theorem accessImplicit_plain (h : plainPlatform s) {ea : Word64} (n : Nat) (kind : AccessKind)
    (hva : (maskVa s ea).toNat < 2 ^ s.par.raBits) :
    accessImplicit s ea n kind = .ok ⟨(maskVa s ea).toNat, s.pstate.cle⟩ := by
  obtain ⟨hspace, hlittle⟩ := implicitAsi_plain s
  have hlocate : accessImplicit s ea n kind =
      locate s (implicitAsi s) ((asiSpace (implicitAsi s)).getD .primary) ea kind := by
    unfold accessImplicit
    dsimp only
    rw [checkWatch_plain h]
    rfl
  have hpage : locate s (implicitAsi s) ((asiSpace (implicitAsi s)).getD .primary) ea kind =
      checkPage s (implicitAsi s) true kind
        { ra := (maskVa s ea).toNat, nfo := false, ie := false, e := false, cp := true, p := false, ep := true, w := true }
        >>= fun _ => .ok ⟨(maskVa s ea).toNat, asiLittle (implicitAsi s) ^^ false⟩ := by
    unfold locate
    rw [if_neg hspace, translate_plain h _ _ hva]
    rfl
  rw [hlocate, hpage, checkPage_identity, Bool.xor_false, hlittle]
  rfl

end

/-- A fetch on the default platform takes the word that the instruction side has for the address (R92, R99). -/
theorem fetch_plain {s : State} (h : plainPlatform s) (hva : (maskVa s s.pc).toNat < 2 ^ s.par.raBits) :
    fetch s = .ok (codeWord s (maskVa s s.pc).toNat) := by
  have hwatch : watchInsn s.par (maskVa s s.pc).toNat = false := by
    obtain ⟨_, _, _, _, _, hinsn, hother⟩ := h
    simp [watchInsn, watched, hinsn, hother]
  rw [fetch, hwatch, fetchPage, translate_plain h _ _ hva]
  rfl

/-- Settles O35: accesses and fetches on the default platform. -/
theorem defaultPlatform : Obligations.DefaultPlatform := by
  intro s h
  have hmask : ∀ va : Word64, (if s.pstate.am then va.toNat % 2 ^ 32 else va.toNat) = (maskVa s va).toNat :=
    fun va => (toNat_maskVa s va).symm
  dsimp only
  simp only [hmask]
  refine ⟨fun ea n kind hva => ⟨accessImplicit_plain h n kind hva, fun halign => ?_⟩, fun hva => ⟨fun hnone => ?_, ?_⟩⟩
  · have haligned : aligned ea n = true := beq_iff_eq.mpr halign
    rw [placeImplicit, haligned]
    exact accessImplicit_plain h n kind hva
  · have hfind : (s.code.find? fun c => c.used && c.ra == (maskVa s s.pc).toNat) = none :=
      List.find?_eq_none.mpr fun c hc htest => hnone c hc (by simpa using htest)
    rw [fetch_plain h hva, codeWord, hfind]
    exact congrArg Except.ok (memoryWord_eq s _)
  · intro before c rest hcode hbefore hserves
    have hfind : (s.code.find? fun c => c.used && c.ra == (maskVa s s.pc).toNat) = some c := by
      refine List.find?_eq_some_iff_append.mpr ⟨by simpa using hserves, before, rest, hcode, fun d hd => ?_⟩
      rw [Bool.not_eq_true', ← Bool.not_eq_true]
      exact fun htest => hbefore d hd (by simpa using htest)
    rw [fetch_plain h hva, codeWord, hfind]

end Sys2Proof.Machine
end

section
/-!
PROOF. What happens in the gap between two instructions.
-/

namespace Sys2Proof.Machine

open Sys2Proof

/-! ## Time -/

theorem clearLow_zero {n : Nat} (x : BitVec n) : clearLow x 0 = x := by
  rw [clearLow, BitVec.ushiftRight_zero, BitVec.shiftLeft_zero]

/-- With every bit implemented STICK meets STICK_CMPR exactly when some nanosecond brings it there (R41). -/
theorem stickMatch_iff {s : State} {ns : Nat} (hm : s.par.stickM = 0) (hn : s.par.stickCmprN = 0)
    (hc : 0 < s.stickCmpr.cmpr.toNat) :
    stickMatch s ns = true ↔ s.stickCmpr.intDis = false ∧
      ∃ k, 0 < k ∧ k ≤ ns ∧ (s.stick.toNat + k) % 2 ^ 63 = s.stickCmpr.cmpr.toNat := by
  have hstick := s.stick.isLt
  have hcmpr := s.stickCmpr.cmpr.isLt
  simp only [stickMatch, hm, hn, clearLow_zero, pow_zero, Nat.div_one, Nat.mul_one, Bool.and_eq_true, Bool.not_eq_true',
    decide_eq_true_iff]
  refine and_congr_right fun _ => ⟨?_, ?_⟩
  · rintro (⟨hbelow, hle⟩ | ⟨_, hle⟩)
    · exact ⟨s.stickCmpr.cmpr.toNat - s.stick.toNat, by omega, by omega, by omega⟩
    · exact ⟨2 ^ 63 + s.stickCmpr.cmpr.toNat - s.stick.toNat, by omega, by omega, by omega⟩
  · rintro ⟨k, hpos, hle, heq⟩
    omega

/-- What a tick does (R33, R40, R41, R43, R44). -/
theorem applyEvent_tick {s : State} {ns cycles : Nat} (hpos : 0 < ns) :
    applyEvent s (.tick ns cycles) = passTime s ns cycles := by
  rw [applyEvent, Nat.max_eq_right hpos]

theorem countdown_eq (n ns : Nat) : (if n = 0 then 0 else n - ns) = n - ns := by
  split <;> omega

theorem toNat_add_ofNat {n : Nat} (x : BitVec n) (k : Nat) : (x + BitVec.ofNat n k).toNat = (x.toNat + k) % 2 ^ n := by
  rw [BitVec.toNat_add, BitVec.toNat_ofNat, Nat.add_mod_mod]

/-! ## Requests, queues and stores of other strands -/

theorem requestBits_eq (levels : BitVec 15) :
    (levels ++ (0 : BitVec 1)).setWidth 17 = BitVec.ofNat 17 (2 * levels.toNat) := by
  apply BitVec.eq_of_toNat_eq
  rw [BitVec.toNat_setWidth, toNat_append_eq, BitVec.toNat_ofNat]
  rfl

/-- An aligned store of another strand is the store of its bytes, and ends a monitor on its line (R44, R68, R93). -/
theorem remoteStore_eq {s : State} {ra : Nat} {log : Fin 4} (v : Word64) (halign : ra % 2 ^ log.val = 0)
    (hra : ra + 2 ^ log.val ≤ 2 ^ s.par.raBits) :
    remoteStore s ra log v =
      if s.monitor = some (lineOf s ra) then
        { storeValue s ⟨ra, false⟩ (2 ^ log.val) v.toNat with monitor := none, mwait := 0 }
      else storeValue s ⟨ra, false⟩ (2 ^ log.val) v.toNat := by
  rw [remoteStore, if_pos ⟨halign, hra⟩]
  rfl

theorem remoteStore_stored {s : State} {ra : Nat} {log : Fin 4} (v : Word64) (halign : ra % 2 ^ log.val = 0) (hra : ra + 2 ^ log.val ≤ 2 ^ s.par.raBits) :
    (remoteStore s ra log v).mem = (storeValue s ⟨ra, false⟩ (2 ^ log.val) v.toNat).mem := by
  rw [remoteStore_eq v halign hra]
  split <;> rfl

/-- The gaps after the lists of events given: a free tick after a free number of them (R497). -/
theorem elapse_of_nil {s : State} (h : s.env = []) :
    elapse s =
      if s.gap = 0 then
        passTime { drawn s with gap := Config.freeGap s.freeCount } (Config.freeNanos s.freeCount + 1)
          (Config.freeCycles s.freeCount)
      else { s with gap := s.gap - 1 } := by
  unfold elapse
  split
  next events rest hcons => exact absurd (h.symm.trans hcons) nofun
  next => rfl

/-- Settles O7: each event, and the gaps without given events. -/
theorem tickEvent : Obligations.TickEvent := by
  refine ⟨?tick, fun s cycles => rfl, ?request, ?queue, ?remote, ?copy, ?use, ?given, ?free⟩
  case tick =>
    intro s ns cycles hm hn hc hpos
    have hreached := stickMatch_iff (ns := ns) hm hn hc
    refine ⟨passTime s ns cycles, applyEvent_tick hpos, toNat_add_ofNat .., toNat_add_ofNat .., countdown_eq ..,
      countdown_eq .., fun h => if_pos (hreached.mpr h), fun h => if_neg fun hmatch => h (hreached.mp hmatch), rfl, rfl⟩
  case request =>
    intro s levels
    rw [← requestBits_eq]
    rfl
  case queue => exact fun s q => ⟨fun h => if_pos h, fun h => if_neg h⟩
  case remote =>
    intro s ra log v hwf halign hra
    have hmem := remoteStore_stored v halign hra
    have heq := remoteStore_eq (s := s) v halign hra
    rw [lineOf_eq] at heq
    refine ⟨remoteStore s ra log v, rfl, ?_, ?_, fun h => ?_, fun h => ?_⟩
    · rw [bytesStored, hmem]
      exact bytesStored_storeValue hwf _ _ _
    · rw [memoryKeptOutside, hmem]
      exact memoryKeptOutside_storeValue hwf ⟨ra, false⟩ _ _
    · rw [heq, if_pos h]
      rfl
    · rw [heq, if_neg h]
      rfl
  case copy =>
    intro s ra
    dsimp only
    rw [← memoryWord_eq]
    rfl
  case use =>
    intro s n used
    refine ⟨fun c hc => ?_, fun hlen => ?_⟩
    · rw [applyEvent, useCode, hc]
    · rw [applyEvent, useCode, List.getElem?_eq_none hlen]
  case given =>
    intro s events rest henv
    rw [elapse, henv]
  case free =>
    intro s henv
    refine ⟨fun hgap => ?_, fun hgap => ?_⟩
    · rw [elapse_of_nil henv]
      exact if_neg (Nat.ne_of_gt hgap)
    · refine ⟨Config.freeNanos s.freeCount + 1, Config.freeCycles s.freeCount, Config.freeGap s.freeCount,
        Nat.succ_pos _, ?_⟩
      rw [applyEvent_tick (Nat.succ_pos _), elapse_of_nil henv]
      exact if_pos hgap

end Sys2Proof.Machine
end

section
/-!
PROOF. The instruction boundary: what fetching and executing answers, and when a disrupting trap is taken.
-/

namespace Sys2Proof.Machine

open Sys2Proof

/-! ## Implementation-dependent ASRs -/

/-- Looking for an ASR of a number in a list finds the one of that number, when the number is in the list. -/
theorem find?_number_mem (asrs : List Config.ImplAsr) (n : BitVec 5) (numbers : List (BitVec 5)) (x : Config.ImplAsr) :
    (asrs.find? fun y => y.number == n && decide (y.number ∈ numbers)) = some x ↔
      n ∈ numbers ∧ (asrs.find? fun y => y.number == n) = some x := by
  by_cases hn : n ∈ numbers
  · have htest : (fun y : Config.ImplAsr => y.number == n && decide (y.number ∈ numbers)) = fun y => y.number == n := by
      funext y
      by_cases hy : y.number = n
      · simp [hy, hn]
      · simp [hy]
    rw [htest]
    exact (and_iff_right hn).symm
  · refine ⟨fun h => ?_, fun h => absurd h.1 hn⟩
    have htest := List.find?_some h
    simp only [Bool.and_eq_true, beq_iff_eq, decide_eq_true_iff] at htest
    obtain ⟨heq, hmem⟩ := htest
    exact absurd (heq ▸ hmem) hn

theorem readsImplAsr_eq_some {par : Config.Params} {w : Word32} {x : Config.ImplAsr} :
    readsImplAsr par w = some x ↔ readsAsr par w x := by
  unfold readsImplAsr readsAsr
  rw [← find?_number_mem]
  split
  next h => exact ⟨fun hx => ⟨h.1, h.2.1, h.2.2, hx⟩, fun hx => hx.2.2.2⟩
  next h => exact ⟨nofun, fun hx => absurd ⟨hx.1, hx.2.1, hx.2.2.1⟩ h⟩

theorem writesImplAsr_eq_some {par : Config.Params} {w : Word32} {x : Config.ImplAsr} :
    writesImplAsr par w = some x ↔ writesAsr par w x := by
  unfold writesImplAsr writesAsr
  rw [← find?_number_mem]
  split
  next h => exact ⟨fun hx => ⟨h.1, h.2.1, h.2.2, hx⟩, fun hx => hx.2.2.2⟩
  next h => exact ⟨nofun, fun hx => absurd ⟨hx.1, hx.2.1, hx.2.2.1⟩ h⟩

/-- No word both reads and writes an ASR. -/
theorem not_readsAsr_of_writesAsr {par : Config.Params} {w : Word32} {x y : Config.ImplAsr} (h : writesAsr par w x) :
    ¬readsAsr par w y := by
  rintro ⟨_, hread, _⟩
  obtain ⟨_, hwrite, _⟩ := h
  rw [hread] at hwrite
  exact absurd hwrite (by decide)

theorem readsImplAsr_eq_none {par : Config.Params} {w : Word32} (h : ∀ x, ¬readsAsr par w x) :
    readsImplAsr par w = none :=
  Option.eq_none_iff_forall_ne_some.mpr fun x hx => h x (readsImplAsr_eq_some.mp hx)

theorem writesImplAsr_eq_none {par : Config.Params} {w : Word32} (h : ∀ x, ¬writesAsr par w x) :
    writesImplAsr par w = none :=
  Option.eq_none_iff_forall_ne_some.mpr fun x hx => h x (writesImplAsr_eq_some.mp hx)

theorem undecoded_of_reads {s : State} {w : Word32} {x : Config.ImplAsr} (h : readsAsr s.par w x) :
    undecoded s w = useImplAsr s (openR s 8 unsignedBytes (field w 25 5)) x := by
  rw [undecoded, readsImplAsr_eq_some.mpr h]

theorem undecoded_of_writes {s : State} {w : Word32} {x : Config.ImplAsr} (h : writesAsr s.par w x) :
    undecoded s w = useImplAsr s s x := by
  rw [undecoded, readsImplAsr_eq_none fun y => not_readsAsr_of_writesAsr h, writesImplAsr_eq_some.mpr h]

theorem undecoded_of_neither {s : State} {w : Word32} (h : ∀ x, ¬readsAsr s.par w x ∧ ¬writesAsr s.par w x) :
    undecoded s w = takeTrap (undecodedTrap s w) s := by
  rw [undecoded, readsImplAsr_eq_none fun x => (h x).1, writesImplAsr_eq_none fun x => (h x).2]

theorem useImplAsr_allowed {s : State} {x : Config.ImplAsr} (t : State) (h : mayUseAsr s x) :
    useImplAsr s t x = .next (advance t) := by
  have htest : (!x.privileged || s.pstate.priv) = true := by
    rw [Bool.or_eq_true, Bool.not_eq_true']
    exact h
  rw [useImplAsr, finish_require, htest]
  rfl

theorem useImplAsr_denied {s : State} {x : Config.ImplAsr} (t : State) (h : ¬mayUseAsr s x) :
    useImplAsr s t x = takeTrap .privilegedOpcode s := by
  have htest : ¬(!x.privileged || s.pstate.priv) = true := by
    rw [Bool.or_eq_true, Bool.not_eq_true']
    exact h
  rw [useImplAsr, finish_require, if_neg htest]

/-- The exception of a word that is no instruction (R33, R107, R299). -/
theorem undecodedTrap_eq (s : State) (w : Word32) : undecodedTrap s w = undecodedExc s w := by
  have hopen : wrprTickIllegal s = false ↔
      s.par.wrprTickIllegal = some false ∨ (s.par.wrprTickIllegal = none ∧ Config.wrprTickOpen = false) := by
    unfold wrprTickIllegal
    cases s.par.wrprTickIllegal with
    | none => simp
    | some b => simp
  have htest : (namesWrprTick w && !s.pstate.priv && !wrprTickIllegal s) = true ↔
      (field w 30 2 = 0b10 ∧ field w 25 5 = 4 ∧ field w 19 6 = 0b110010 ∧ (bit w 13 = true ∨ field w 5 8 = 0) ∧
        s.pstate.priv = false ∧
        (s.par.wrprTickIllegal = some false ∨ (s.par.wrprTickIllegal = none ∧ Config.wrprTickOpen = false))) := by
    rw [← hopen]
    simp only [namesWrprTick, Bool.and_eq_true, Bool.or_eq_true, beq_iff_eq, Bool.not_eq_true', and_assoc]
  unfold undecodedTrap undecodedExc
  simp only [htest]

/-! ## Fetching and executing -/

theorem unsignedBytes_eight (v : Word64) : unsignedBytes 8 v.toNat = v := by
  apply BitVec.eq_of_toNat_eq
  rw [unsignedBytes, zext64, BitVec.toNat_setWidth, BitVec.toNat_ofNat]
  exact (Nat.mod_mod ..).trans (Nat.mod_eq_of_lt v.isLt)

/-- Fetching and executing answers what the statements say of it (R92, R107, R131, R132, R463). -/
theorem executes_attempt (s : State) : executes s (attempt s) := by
  have decoded : ∀ {w : Word32} {i : Instr}, fetch s = .ok w → decode w = some i →
      attempt s = if emulated s.par w then takeTrap (emulationTrap i) s else exec i s := by
    intro w i hw hi
    rw [attempt_eq, hw]
    dsimp only
    rw [hi]
  have undefined : ∀ {w : Word32}, fetch s = .ok w → decode w = none → attempt s = undecoded s w := by
    intro w hw hi
    rw [attempt_eq, hw]
    dsimp only
    rw [hi]
  refine ⟨fun e he => ?_, fun f hf => ?_, fun w i hw hi hem => ?_, fun w i hw hi hem => ?_, fun w hw hi => ?_⟩
  · rw [attempt_eq, he]
    rfl
  · rw [attempt_eq, hf]
    rfl
  · rw [decoded hw hi, hem]
    rfl
  · rw [decoded hw hi, if_pos hem]
    refine ⟨?_, ?_, fun hload hstore => ?_⟩
    · rintro (⟨rd, rs1, op2, rfl⟩ | ⟨rd, rs1, addr, rfl⟩) <;> rfl
    · rintro (⟨rd, rs1, op2, rfl⟩ | ⟨rd, rs1, addr, rfl⟩) <;> rfl
    · unfold emulationTrap
      split
      next => exact absurd (.inl ⟨_, _, _, rfl⟩) hload
      next => exact absurd (.inr ⟨_, _, _, rfl⟩) hload
      next => exact absurd (.inl ⟨_, _, _, rfl⟩) hstore
      next => exact absurd (.inr ⟨_, _, _, rfl⟩) hstore
      next => rfl
  · rw [undefined hw hi]
    refine ⟨fun x hx huse => ?_, fun x hx huse => ?_, fun x hx huse => ?_, fun hno => ?_⟩
    · have hfree : unsignedBytes 8 (freeValue s).toNat = Config.freeWord s.freeCount := unsignedBytes_eight _
      rw [undecoded_of_reads hx, useImplAsr_allowed _ huse, openR, hfree]
      exact nextWithR_of (advance_writeR ..)
    · rw [undecoded_of_writes hx, useImplAsr_allowed _ huse]
    · rcases hx with hx | hx
      · rw [undecoded_of_reads hx, useImplAsr_denied _ huse]
      · rw [undecoded_of_writes hx, useImplAsr_denied _ huse]
    · rw [undecoded_of_neither hno, undecodedTrap_eq]

/-! ## Precise exceptions of the instruction at PC -/

theorem tookTrap_takeTrap (s : State) (e : Exc) : tookTrap s (takeTrap e s) = true := by
  cases h : takeTrap e s with
  | next t =>
    obtain ⟨tt, _, _, htl, _, rfl⟩ := takeTrap_next h
    refine decide_eq_true ?_
    change s.tl.val < (if s.tl.val = 0 then 1 else 2 : Fin 3).val
    rw [raised_level s.tl htl]
    exact Nat.lt_succ_self _
  | fault f =>
    rw [takeTrap_eq] at h
    split at h
    next => cases h; rfl
    next =>
      split at h
      · cases h; rfl
      · cases h
  | refused r => exact absurd h (takeTrap_ne_refused e s r)

theorem tookTrap_iff (s : State) (o : Out) :
    tookTrap s o = true ↔
      (∃ t, o = .next t ∧ s.tl.val < t.tl.val) ∨ ∃ tt pc npc, o = .fault (.hyperprivilegedTrap tt pc npc) := by
  cases o with
  | next t => simp [tookTrap]
  | fault f => cases f <;> simp [tookTrap]
  | refused r => simp [tookTrap]

theorem writesTl_iff (s : State) (i : Instr) :
    writesTl s i = false ↔ s.pstate.priv = false ∨ ∀ rs1 op2, i ≠ .WRPR_TL rs1 op2 := by
  unfold writesTl
  split
  next rs1 op2 => simp
  next h => exact ⟨fun _ => .inr fun rs1 op2 heq => h rs1 op2 heq, fun _ => rfl⟩

/-- An undefined word raises an exception unless it uses an implementation-dependent ASR that the mode may use. -/
theorem tookTrap_undecoded_iff (s : State) (w : Word32) :
    tookTrap s (undecoded s w) = true ↔ ∀ x, readsAsr s.par w x ∨ writesAsr s.par w x → ¬mayUseAsr s x := by
  have completes : ∀ t : State, t.tl = s.tl → ¬tookTrap s (.next (advance t)) = true := fun t ht h => by
    have hlt : s.tl.val < t.tl.val := of_decide_eq_true h
    rw [ht] at hlt
    exact absurd hlt (lt_irrefl _)
  refine ⟨fun h x hx huse => ?_, fun h => ?_⟩
  · rcases hx with hx | hx
    · rw [undecoded_of_reads hx, useImplAsr_allowed _ huse] at h
      exact completes (openR s 8 unsignedBytes (field w 25 5)) (writeR_tl ..) h
    · rw [undecoded_of_writes hx, useImplAsr_allowed _ huse] at h
      exact completes _ rfl h
  · by_cases hex : ∃ x, readsAsr s.par w x ∨ writesAsr s.par w x
    · obtain ⟨x, hx⟩ := hex
      have hdenied := h x hx
      rcases hx with hx | hx
      · rw [undecoded_of_reads hx, useImplAsr_denied _ hdenied]
        exact tookTrap_takeTrap ..
      · rw [undecoded_of_writes hx, useImplAsr_denied _ hdenied]
        exact tookTrap_takeTrap ..
    · rw [undecoded_of_neither fun x => ⟨fun hr => hex ⟨x, .inl hr⟩, fun hw => hex ⟨x, .inr hw⟩⟩]
      exact tookTrap_takeTrap ..

/-- The model's test for a precise exception at PC (R453). -/
theorem raises_iff (s : State) : raises s = true ↔ raisesOwn s := by
  unfold raises raisesOwn
  cases hfetch : fetch s with
  | error e =>
    cases e <;> simp
  | ok w =>
    dsimp only
    cases hdecode : decode w with
    | none =>
      dsimp only
      rw [tookTrap_undecoded_iff]
      constructor
      · exact fun h => .inr (.inl ⟨w, rfl, hdecode, h⟩)
      · rintro (⟨e, he⟩ | ⟨w', hw, -, h⟩ | ⟨w', i, hw, hi, -⟩ | ⟨w', i, hw, hi, -⟩)
        · exact absurd he nofun
        · obtain rfl := Except.ok.inj hw
          exact h
        · obtain rfl := Except.ok.inj hw
          rw [hdecode] at hi
          exact absurd hi nofun
        · obtain rfl := Except.ok.inj hw
          rw [hdecode] at hi
          exact absurd hi nofun
    | some i =>
      dsimp only
      rw [Bool.or_eq_true, Bool.and_eq_true, Bool.not_eq_true', writesTl_iff, tookTrap_iff]
      constructor
      · rintro (hem | ⟨hpriv, htook⟩)
        · exact .inr (.inr (.inl ⟨w, i, rfl, hdecode, hem⟩))
        · exact .inr (.inr (.inr ⟨w, i, rfl, hdecode, hpriv, htook⟩))
      · rintro (⟨e, he⟩ | ⟨w', hw, hnone, -⟩ | ⟨w', j, hw, hj, hem⟩ | ⟨w', j, hw, hj, hpriv, htook⟩)
        · exact absurd he nofun
        · obtain rfl := Except.ok.inj hw
          rw [hdecode] at hnone
          exact absurd hnone nofun
        · obtain rfl := Except.ok.inj hw
          exact .inl hem
        · obtain rfl := Except.ok.inj hw
          obtain rfl := Option.some.inj (hdecode.symm.trans hj)
          exact .inr ⟨hpriv, htook⟩

/-! ## The boundary -/

theorem step_eq {s : State} (h : undefinedMode s = false) : step s = thenEnvironment (boundary s) := by
  rw [step, h]
  cases boundary s <;> rfl

theorem awaiting_of_some {s : State} {n : Nat} (h : s.trapDelay = some n) : awaiting s = wake s := by
  unfold awaiting
  split
  next => rfl
  next hnone => exact absurd (h.symm.trans hnone) nofun

theorem awaiting_of_none {s : State} (h : s.trapDelay = none) :
    awaiting s = wake { s with trapDelay := some (Config.freeDelay s.freeCount), freeCount := s.freeCount + 1 } := by
  unfold awaiting
  split
  next hsome => exact absurd (h.symm.trans hsome) nofun
  next => rfl

/-- What a strand `t` that awaits the trap `e` for `n` more boundaries does at one (R453, R454). -/
noncomputable def boundaryAwaiting (e : Exc) (t : State) : Nat → Out
  | delay + 1 => attempt { t with trapDelay := some delay }
  | 0 => if raises t then attempt t else takeTrap e { t with trapDelay := none }

theorem boundary_awaiting {s t : State} {e : Exc} {n : Nat} (hpending : pendingTrap s = some e)
    (hawaiting : awaiting s = t) (hdelay : t.trapDelay = some n) : boundary s = boundaryAwaiting e t n := by
  rw [boundary, hpending]
  dsimp only
  rw [hawaiting, hdelay]
  cases n <;> rfl

theorem boundary_pending {s : State} {e : Exc} {n : Nat} (hpending : pendingTrap s = some e)
    (hdelay : s.trapDelay = some n) : boundary s = boundaryAwaiting e (wake s) n :=
  boundary_awaiting hpending (awaiting_of_some hdelay) hdelay

/-- Settles O5: the branches of `boundary`. -/
theorem boundaryTraps : Obligations.BoundaryTraps := by
  refine ⟨fun s hmode hpending => ⟨fun hrun => ⟨attempt s, executes_attempt s, ?_⟩, fun hsus => ?_⟩,
    fun s e hmode hpending => ⟨fun hdelay => ?_, fun n hdelay => ?_, fun hdelay hraises => ?_, fun hdelay hraises => ?_⟩⟩
  · rw [step_eq hmode, boundary, hpending]
    dsimp only
    rw [hrun]
    rfl
  · rw [step_eq hmode, boundary, hpending]
    dsimp only
    rw [hsus]
    rfl
  · have hnow := boundary_awaiting hpending (awaiting_of_none hdelay) rfl
    have hdrawn := boundary_pending
      (s := { s with trapDelay := some (Config.freeDelay s.freeCount), freeCount := s.freeCount + 1 }) hpending rfl
    have hmode' : undefinedMode
        { s with trapDelay := some (Config.freeDelay s.freeCount), freeCount := s.freeCount + 1 } = false := hmode
    rw [step_eq hmode, step_eq hmode', hnow, hdrawn]
  · refine ⟨_, executes_attempt _, ?_⟩
    rw [step_eq hmode, boundary_pending hpending hdelay, boundaryAwaiting]
  · refine ⟨_, executes_attempt _, ?_⟩
    rw [step_eq hmode, boundary_pending hpending hdelay, boundaryAwaiting, if_pos ((raises_iff _).mpr hraises)]
  · rw [step_eq hmode, boundary_pending hpending hdelay, boundaryAwaiting,
      if_neg fun h => hraises ((raises_iff _).mp h)]

end Sys2Proof.Machine
end

section
/-!
PROOF. Registers: which R registers share storage, the views of the F registers, and the images of the status
registers.
-/

namespace Sys2Proof.Machine

open Sys2Proof

/-! ## R registers -/

/-- R[m] in the set `gl1` and window `cwp1` is the same storage as R[n] in the set `gl2` and window `cwp2` (R11, R13). -/
def sharesStorage (gl1 : Fin 3) (cwp1 : BitVec 3) (m : Reg) (gl2 : Fin 3) (cwp2 : BitVec 3) (n : Reg) : Prop :=
  (m.toNat < 8 ∧ n = m ∧ gl1 = gl2) ∨
  (8 ≤ m.toNat ∧ 8 ≤ n.toNat ∧
    ((cwp1 = cwp2 ∧ n = m) ∨ (cwp2 = cwp1 + 1 ∧ m.toNat < 16 ∧ n.toNat = m.toNat + 16) ∨
      (cwp1 = cwp2 + 1 ∧ n.toNat < 16 ∧ m.toNat = n.toNat + 16)))

theorem globalSlot_eq_iff (gl1 gl2 : Fin 3) {m n : Reg} (hm : m.toNat < 8) (hn : n.toNat < 8) :
    globalSlot gl1 m = globalSlot gl2 n ↔ n = m ∧ gl1 = gl2 := by
  have h1 := gl1.isLt
  have h2 := gl2.isLt
  simp only [globalSlot, Fin.ext_iff, ← BitVec.toNat_inj]
  omega

/-- The place of a windowed register in its window: ins, locals, outs (R13). -/
def windowOffset (n : Nat) : Nat := if n < 16 then n + 8 else if n < 24 then n - 8 else n - 24

theorem windowOffset_cases (n : Nat) :
    (n < 16 ∧ windowOffset n = n + 8) ∨ (16 ≤ n ∧ n < 24 ∧ windowOffset n = n - 8) ∨
      (24 ≤ n ∧ windowOffset n = n - 24) := by
  unfold windowOffset
  split
  · omega
  · split <;> omega

theorem windowSlot_val (cwp : BitVec 3) (n : Reg) :
    (windowSlot cwp n).val = (16 * cwp.toNat + windowOffset n.toNat) % 128 := rfl

/-- Two windowed registers are one place exactly when they are the same register of one window, or an out and the in
of the next window (R13). -/
theorem windowSlot_eq_iff (cwp1 cwp2 : BitVec 3) {m n : Reg} (hm : 8 ≤ m.toNat) (hn : 8 ≤ n.toNat) :
    windowSlot cwp1 m = windowSlot cwp2 n ↔
      (cwp1 = cwp2 ∧ n = m) ∨ (cwp2 = cwp1 + 1 ∧ m.toNat < 16 ∧ n.toNat = m.toNat + 16) ∨
        (cwp1 = cwp2 + 1 ∧ n.toNat < 16 ∧ m.toNat = n.toNat + 16) := by
  have h1 := cwp1.isLt
  have h2 := cwp2.isLt
  have hm' := m.isLt
  have hn' := n.isLt
  have hone : ∀ x : BitVec 3, (x + 1).toNat = (x.toNat + 1) % 8 := fun x => BitVec.toNat_add x 1
  have hmo := windowOffset_cases m.toNat
  have hno := windowOffset_cases n.toNat
  simp only [Fin.ext_iff, windowSlot_val, ← BitVec.toNat_inj, hone]
  rcases hmo with hmo | hmo | hmo <;> rcases hno with hno | hno | hno <;> omega

/-- What a read in any set and window gives after a write in any other. -/
theorem readR_writeR_moved (s : State) (gl1 gl2 : Fin 3) (cwp1 cwp2 : BitVec 3) (m n : Reg) (v : Word64) :
    (m ≠ 0 → sharesStorage gl1 cwp1 m gl2 cwp2 n →
      readR { writeR { s with gl := gl1, cwp := cwp1 } m v with gl := gl2, cwp := cwp2 } n = v) ∧
    (m = 0 ∨ ¬sharesStorage gl1 cwp1 m gl2 cwp2 n →
      readR { writeR { s with gl := gl1, cwp := cwp1 } m v with gl := gl2, cwp := cwp2 } n =
        readR { s with gl := gl2, cwp := cwp2 } n) := by
  have hg := writeR_g { s with gl := gl1, cwp := cwp1 } m v
  have hw := writeR_w { s with gl := gl1, cwp := cwp1 } m v
  dsimp only at hg hw
  have hread : ∀ u : State, readR { u with gl := gl2, cwp := cwp2 } n =
      if n.toNat = 0 then 0 else if n.toNat < 8 then u.g[globalSlot gl2 n] else u.w[windowSlot cwp2 n] := fun _ => rfl
  rw [hread, hread, hg, hw]
  unfold sharesStorage
  refine ⟨fun hm hshare => ?_, fun hno => ?_⟩
  · have hm0 := ne_zero_of_toNat hm
    rcases hshare with ⟨hm8, rfl, rfl⟩ | ⟨hm8, hn8, hslot⟩
    · rw [if_neg hm0, if_pos hm8, if_pos ⟨hm0, hm8⟩, getFin_set, if_pos rfl]
    · rw [if_neg (by omega), if_neg (by omega), if_pos hm8, getFin_set,
        if_pos ((windowSlot_eq_iff cwp1 cwp2 hm8 hn8).mpr hslot)]
  · by_cases hn0 : n.toNat = 0
    · rw [if_pos hn0, if_pos hn0]
    by_cases hn8 : n.toNat < 8
    · rw [if_neg hn0, if_neg hn0, if_pos hn8, if_pos hn8]
      by_cases hm8 : m.toNat ≠ 0 ∧ m.toNat < 8
      · have hne : ¬globalSlot gl1 m = globalSlot gl2 n := fun h =>
          hno.elim (fun h0 => hm8.1 (by rw [h0]; rfl)) fun hns =>
            hns (.inl ⟨hm8.2, (globalSlot_eq_iff gl1 gl2 hm8.2 hn8).mp h⟩)
        rw [if_pos hm8, getFin_set, if_neg hne]
      · rw [if_neg hm8]
    · rw [if_neg hn0, if_neg hn0, if_neg hn8, if_neg hn8]
      have hn8' : 8 ≤ n.toNat := Nat.not_lt.mp hn8
      by_cases hm8 : 8 ≤ m.toNat
      · have hne : ¬windowSlot cwp1 m = windowSlot cwp2 n := fun h =>
          hno.elim (fun h0 => by rw [h0] at hm8; exact absurd hm8 (by decide)) fun hns =>
            hns (.inr ⟨hm8, hn8', (windowSlot_eq_iff cwp1 cwp2 hm8 hn8').mp h⟩)
        rw [if_pos hm8, getFin_set, if_neg hne]
      · rw [if_neg hm8]

/-- Settles O19: the registers share storage by `windowSlot_eq_iff` and `globalSlot_eq_iff`. -/
theorem windowOverlap : Obligations.WindowOverlap := by
  intro s n m v
  refine ⟨?_, fun hne => readR_writeR_ne s hne v, fun h8 h16 => ?_, fun h8 c => ?_, fun h16 h24 hm c hc => ?_,
    fun hn hm gl hgl => ?_, fun gl1 gl2 cwp1 cwp2 => readR_writeR_moved s gl1 gl2 cwp1 cwp2 m n v⟩
  · rw [readR_writeR]
    by_cases h0 : n = 0
    · rw [if_neg fun h => h.2 h0, if_pos h0, h0]
      rfl
    · rw [if_pos ⟨rfl, h0⟩, if_neg h0]
  · have hsum : (n + 16).toNat = n.toNat + 16 := by
      rw [BitVec.toNat_add]
      exact Nat.mod_eq_of_lt (by change n.toNat + 16 < 32; omega)
    have hslot : windowSlot s.cwp n = windowSlot (s.cwp + 1) (n + 16) :=
      (windowSlot_eq_iff _ _ h8 (by omega)).mpr (.inr (.inl ⟨rfl, h16, hsum⟩))
    unfold readR
    rw [if_neg (by omega), if_neg (by omega), if_neg (by omega), if_neg (by omega)]
    exact congrArg (fun i : Fin 128 => s.w[i]) hslot.symm
  · unfold readR
    rw [if_pos h8, if_pos h8]
  · refine (readR_congr (s := { writeR s n v with gl := s.gl, cwp := c }) (t := { writeR s n v with cwp := c }) rfl rfl (writeR_gl s n v) rfl m).trans
      ((readR_writeR_moved s s.gl s.gl s.cwp c n m v).2 (.inr ?_))
    rintro (⟨h, _⟩ | ⟨_, _, ⟨h, _⟩ | ⟨_, h, _⟩ | ⟨_, h, h'⟩⟩)
    · omega
    · exact hc h.symm
    · omega
    · omega
  · refine (readR_congr (s := { writeR s n v with gl := gl, cwp := s.cwp }) (t := { writeR s n v with gl := gl }) rfl rfl rfl (writeR_cwp s n v) m).trans
      ((readR_writeR_moved s s.gl gl s.cwp s.cwp n m v).2 (.inr ?_))
    rintro (⟨_, _, h⟩ | ⟨h, _⟩)
    · exact hgl h.symm
    · omega

/-! ## F registers -/

theorem sSlot_eq_dSlot {m : FReg} {k : DReg} (h : m.toNat = 2 * k.toNat) : sSlot m = dSlot k := by
  simp only [sSlot, dSlot, h]

theorem sSlot_eq_dSlotLow {m : FReg} {k : DReg} (h : m.toNat = 2 * k.toNat + 1) : sSlot m = dSlotLow k := by
  simp only [sSlot, dSlotLow, h]

/-- The pair of double registers of a quad register (R17). -/
theorem quadPair {k : DReg} (h : k.toNat % 2 = 0) : k &&& 0b11110 = k ∧ k ||| 1 = k + 1 := by
  revert k
  decide

theorem readFQ_eq (s : State) {k : DReg} (h : k.toNat % 2 = 0) : readFQ s k = readFD s k ++ readFD s (k + 1) := by
  obtain ⟨heven, hodd⟩ := quadPair h
  have hor : k ||| 0b00001 = k + 1 := hodd
  rw [readFQ, heven, hor]

/-- A double register that a quad write does not cover stands. -/
theorem readFD_writeFQ_ne (s : State) {k j : DReg} (v : Word128) (h : k.toNat % 2 = 0) (h0 : j ≠ k) (h1 : j ≠ k + 1) :
    readFD (writeFQ s k v) j = readFD s j := by
  obtain ⟨heven, hodd⟩ := quadPair h
  have hor : k ||| 0b00001 = k + 1 := hodd
  rw [writeFQ, heven, hor, readFD_writeFD, if_neg h1, readFD_writeFD, if_neg h0]

/-- A double register after a write of one of its two singles (R16, R17). -/
theorem readFD_writeFS (s : State) {n : FReg} {k : DReg} (x : Word32) (h : n.toNat / 2 = k.toNat) :
    readFD (writeFS s n x) k =
      if n.toNat % 2 = 0 then x ++ field (readFD s k) 0 32 else field (readFD s k) 32 32 ++ x := by
  have hhigh : field (readFD s k) 32 32 = s.f[dSlot k] := by
    rw [readFD, field_append_high _ _ (le_refl 32)]
    exact field_self _
  have hlow : field (readFD s k) 0 32 = s.f[dSlotLow k] := by
    rw [readFD, field_append_low _ _ (by omega)]
    exact field_self _
  rw [hhigh, hlow]
  split
  next heven =>
    have hslot : sSlot n = dSlot k := sSlot_eq_dSlot (by omega)
    unfold readFD writeFS
    rw [getFin_set, getFin_set, hslot, if_pos rfl, if_neg (dSlot_ne_dSlotLow k k)]
  next hodd =>
    have hslot : sSlot n = dSlotLow k := sSlot_eq_dSlotLow (by omega)
    unfold readFD writeFS
    rw [getFin_set, getFin_set, hslot, if_pos rfl, if_neg (dSlot_ne_dSlotLow k k).symm]

/-- Settles O20: the views share the words that their numbers name. -/
theorem fRegisterViews : Obligations.FRegisterViews := by
  intro s k n x v q
  refine ⟨fun hk m hm => ?_, fun hk => readFQ_eq s hk, ?_, fun m hm => ?_, ?_, fun j hj => ?_, fun hk => ⟨?_, fun j h0 h1 => ?_⟩,
    fun h => readFD_writeFS s x h, ?_, ?_⟩
  · have hnext : (m + 1).toNat = 2 * k.toNat + 1 := by
      rw [BitVec.toNat_add, hm]
      exact Nat.mod_eq_of_lt (by change 2 * k.toNat + 1 < 32; omega)
    exact congrArg₂ (fun i j : Fin 64 => s.f[i] ++ s.f[j]) (sSlot_eq_dSlot hm).symm (sSlot_eq_dSlotLow hnext).symm
  · rw [readFS_writeFS, if_pos rfl]
  · rw [readFS_writeFS, if_neg hm]
  · rw [readFD_writeFD, if_pos rfl]
  · rw [readFD_writeFD, if_neg hj]
  · exact readFQ_writeFQ s k q hk
  · exact readFD_writeFQ_ne s q hk h0 h1
  · simp [writeFS, Fprs.dirty]
  · exact dirty_eq s.fprs k

end Sys2Proof.Machine
end

section
/-!
PROOF. The images of the status registers: each is a row of fields, so a field of the image is read off the row.
-/

namespace Sys2Proof.Machine

open Sys2Proof

/-! ## Bits and fields of a row -/

/-- A bit of a row of fields belongs to the last of them or to those before. -/
theorem getLsbD_append_flag {m : Nat} (x : BitVec m) (b : Bool) (i : Nat) :
    (x ++ flag b).getLsbD i = if i = 0 then b else x.getLsbD (i - 1) := by
  rw [BitVec.getLsbD_append]
  by_cases h : i = 0
  · rw [h, if_pos rfl]
    exact bit_flag b
  · rw [if_neg h, if_neg (by omega)]

theorem getLsbD_append_zeros {m n : Nat} (x : BitVec m) (i : Nat) :
    (x ++ (0 : BitVec n)).getLsbD i = if i < n then false else x.getLsbD (i - n) := by
  rw [BitVec.getLsbD_append]
  split
  · exact BitVec.getLsbD_zero
  · rfl

theorem getLsbD_append_high {m n : Nat} (x : BitVec m) (y : BitVec n) {i : Nat} (h : n ≤ i) :
    (x ++ y).getLsbD i = x.getLsbD (i - n) := bit_append_high x y h

theorem getLsbD_flag (b : Bool) (i : Nat) : (flag b).getLsbD i = if i = 0 then b else false := by
  by_cases h : i = 0
  · rw [h, if_pos rfl]
    exact bit_flag b
  · rw [if_neg h]
    exact BitVec.getLsbD_of_ge _ _ (Nat.one_le_iff_ne_zero.mpr h)

/-- A word is the row of its upper and its lower field. -/
theorem field_append_field {m n : Nat} (x : BitVec (m + n)) : field x n m ++ field x 0 n = x :=
  BitVec.extractLsb'_append_extractLsb'

theorem field_field {n : Nat} (x : BitVec n) {lo len lo' len' : Nat} (h : lo' + len' ≤ len) :
    field (field x lo len) lo' len' = field x (lo + lo') len' := by
  apply BitVec.eq_of_getLsbD_eq
  intro i hi
  simp only [field, BitVec.getLsbD_extractLsb', hi, decide_true, Bool.true_and, Nat.add_assoc,
    show lo' + i < len by omega]

/-- Fields that follow one another make one field. -/
theorem row_join {w m n lo : Nat} {v : BitVec w} {x : BitVec m} (hx : x = field v (lo + n) m) :
    x ++ field v lo n = field v lo (m + n) := by
  rw [hx, ← field_append_field (field v lo (m + n)), field_field v (Nat.le_of_eq (Nat.add_comm n m)),
    field_field v (by omega)]
  rfl

/-- A row of fields is masked field by field. -/
theorem row_and {m n : Nat} {x x' : BitVec m} {y y' : BitVec n} {mask : BitVec (m + n)}
    (hx : x &&& field mask n m = x') (hy : y &&& field mask 0 n = y') : (x ++ y) &&& mask = x' ++ y' := by
  rw [← hx, ← hy, ← BitVec.and_append, field_append_field]

/-- A field that the mask keeps. -/
theorem and_kept {n : Nat} (x : BitVec n) {mask : BitVec n} (h : mask = BitVec.allOnes n) : x &&& mask = x := by
  rw [h, BitVec.and_allOnes]

/-- A field that the mask clears. -/
theorem and_cleared {n : Nat} (x : BitVec n) {mask : BitVec n} (h : mask = 0) : x &&& mask = 0 := by
  rw [h]
  exact BitVec.and_zero

/-! ## The images -/

theorem getLsbD_ccr (x : Ccr) (i : Nat) : x.bits.getLsbD i =
    if i = 7 then x.xcc.n else if i = 6 then x.xcc.z else if i = 5 then x.xcc.v else if i = 4 then x.xcc.c
    else if i = 3 then x.icc.n else if i = 2 then x.icc.z else if i = 1 then x.icc.v else if i = 0 then x.icc.c
    else false := by
  by_cases h : i < 8
  · simp only [Ccr.bits, Cc.bits, BitVec.getLsbD_append (x := flag _ ++ flag _ ++ flag _ ++ flag _), getLsbD_append_flag,
      getLsbD_flag]
    interval_cases i <;> rfl
  · rw [BitVec.getLsbD_of_ge _ _ (Nat.not_lt.mp h)]
    simp only [show ∀ k < 8, ¬i = k from fun k hk hik => h (hik ▸ hk), Nat.reduceLT, if_false]

theorem getLsbD_fprs (x : Fprs) (i : Nat) :
    x.bits.getLsbD i = if i = 2 then x.fef else if i = 1 then x.du else if i = 0 then x.dl else false := by
  by_cases h : i < 3
  · simp only [Fprs.bits, getLsbD_append_flag, getLsbD_flag]
    interval_cases i <;> rfl
  · rw [BitVec.getLsbD_of_ge _ _ (Nat.not_lt.mp h)]
    simp only [show ∀ k < 3, ¬i = k from fun k hk hik => h (hik ▸ hk), Nat.reduceLT, if_false]

theorem getLsbD_pstate (x : PState) (i : Nat) : x.bits.getLsbD i =
    if i = 12 then x.tct else if i = 9 then x.cle else if i = 8 then x.tle else if i = 4 then x.pef
    else if i = 3 then x.am else if i = 2 then x.priv else if i = 1 then x.ie else false := by
  by_cases h : i < 13
  · simp only [PState.bits, getLsbD_append_flag, getLsbD_append_zeros, getLsbD_flag]
    interval_cases i <;> rfl
  · rw [BitVec.getLsbD_of_ge _ _ (Nat.not_lt.mp h)]
    simp only [show ∀ k < 13, ¬i = k from fun k hk hik => h (hik ▸ hk), Nat.reduceLT, if_false]

theorem bits_ofBits_pstate (par : Config.Params) (b : BitVec 13) (hfpu : par.hasFpu = true) (htct : par.hasTct = true) :
    (PState.ofBits par b).bits = b &&& 0x131E := by
  apply BitVec.eq_of_getLsbD_eq
  intro i hi
  rw [getLsbD_pstate, BitVec.getLsbD_and]
  simp only [PState.ofBits, hfpu, htct, Bool.true_and]
  interval_cases i
  all_goals first | exact (Bool.and_true _).symm | exact (Bool.and_false _).symm

theorem bits_ofBits_ccr (b : BitVec 8) : (Ccr.ofBits b).bits = b := by
  revert b
  decide

/-- A word as the row of the fields of TSTATE. -/
theorem tstate_row (v : Word64) : field v 43 21 ++ field v 40 3 ++ field v 32 8 ++ field v 24 8 ++ field v 21 3
    ++ field v 8 13 ++ field v 5 3 ++ field v 0 5 = v :=
  calc
    _ = field v 0 64 := row_join (lo := 0) (row_join (lo := 5) (n := 3) (row_join (lo := 8) (n := 13)
      (row_join (lo := 21) (n := 3) (row_join (lo := 24) (n := 8) (row_join (lo := 32) (n := 8)
        (row_join (lo := 40) (m := 21) (n := 3) rfl))))))
    _ = v := field_self v

theorem bits_ofBits_tstate (par : Config.Params) (v : Word64) (hfpu : par.hasFpu = true) (htct : par.hasTct = true) :
    (TState.ofBits par v).bits = v &&& 0x000007FFFF131E1F := by
  have hmask : (field v 43 21 ++ field v 40 3 ++ field v 32 8 ++ field v 24 8 ++ field v 21 3 ++ field v 8 13
      ++ field v 5 3 ++ field v 0 5) &&& 0x000007FFFF131E1F = (0 : BitVec 21) ++ field v 40 3 ++ field v 32 8
      ++ field v 24 8 ++ (0 : BitVec 3) ++ (field v 8 13 &&& 0x131E) ++ (0 : BitVec 3) ++ field v 0 5 :=
    row_and (row_and (row_and (row_and (row_and (row_and (row_and (and_cleared _ rfl) (and_kept _ rfl))
      (and_kept _ rfl)) (and_kept _ rfl)) (and_cleared _ rfl)) rfl) (and_cleared _ rfl)) (and_kept _ rfl)
  rw [tstate_row] at hmask
  rw [hmask]
  simp only [TState.bits, TState.ofBits, bits_ofBits_ccr, bits_ofBits_pstate par _ hfpu htct]

theorem tstate_fields (x : TState) : field x.bits 40 3 = x.gl ∧ field x.bits 32 8 = x.ccr.bits ∧
    field x.bits 24 8 = x.asi ∧ field x.bits 8 13 = x.pstate.bits ∧ field x.bits 0 5 = x.cwp ∧
    x.bits &&& 0x000007FFFF1FFF1F = x.bits := by
  refine ⟨?_, ?_, ?_, ?_, ?_, ?_⟩
  case refine_6 =>
    exact row_and (row_and (row_and (row_and (row_and (row_and (row_and rfl (and_kept _ rfl)) (and_kept _ rfl))
      (and_kept _ rfl)) rfl) (and_kept _ rfl)) rfl) (and_kept _ rfl)
  all_goals
    unfold TState.bits
    repeat rw [field_append_high _ _ (by decide)]
  all_goals exact (field_append_low _ _ (by decide)).trans (field_self _)

theorem gsr_fields (x : Gsr) : field x.bits 32 32 = x.mask ∧ x.bits.getLsbD 27 = x.im ∧ field x.bits 25 2 = x.irnd ∧
    field x.bits 3 5 = x.scale ∧ field x.bits 0 3 = x.align ∧ x.bits &&& 0xFFFFFFFF0E0000FF = x.bits := by
  refine ⟨?_, ?_, ?_, ?_, ?_, ?_⟩
  case refine_2 =>
    unfold Gsr.bits
    repeat rw [getLsbD_append_high _ _ (by decide)]
    exact (getLsbD_append_flag _ _ _).trans (if_pos rfl)
  case refine_6 =>
    exact row_and (row_and (row_and (row_and (row_and (row_and (and_kept _ rfl) rfl) (and_kept _ rfl)) (and_kept _ rfl))
      rfl) (and_kept _ rfl)) (and_kept _ rfl)
  all_goals
    unfold Gsr.bits
    repeat rw [field_append_high _ _ (by decide)]
  case refine_1 => exact field_self _
  all_goals exact (field_append_low _ _ (by decide)).trans (field_self _)

theorem ofBits_bits_gsr (x : Gsr) : Gsr.ofBits x.bits = x := by
  obtain ⟨hmask, him, hirnd, hscale, halign, -⟩ := gsr_fields x
  unfold Gsr.ofBits
  rw [hmask, show bit x.bits 27 = x.im from him, hirnd, hscale, halign]

theorem fsr_fields (x : Fsr) (ver : BitVec 3) : field (x.bits ver) 36 2 = x.fcc3 ∧ field (x.bits ver) 34 2 = x.fcc2 ∧
    field (x.bits ver) 32 2 = x.fcc1 ∧ field (x.bits ver) 30 2 = x.rd ∧ field (x.bits ver) 23 5 = x.tem.bits ∧
    (x.bits ver).getLsbD 22 = x.ns ∧
    field (x.bits ver) 17 3 = ver ∧ field (x.bits ver) 14 3 = x.ftt ∧ field (x.bits ver) 10 2 = x.fcc0 ∧
    field (x.bits ver) 5 5 = x.aexc.bits ∧ field (x.bits ver) 0 5 = x.cexc.bits ∧
    x.bits ver &&& 0x0000003FCFCFCFFF = x.bits ver := by
  refine ⟨?_, ?_, ?_, ?_, ?_, ?_, ?_, ?_, ?_, ?_, ?_, ?_⟩
  case refine_6 =>
    unfold Fsr.bits
    repeat rw [getLsbD_append_high _ _ (by decide)]
    exact (getLsbD_append_flag _ _ _).trans (if_pos rfl)
  case refine_12 =>
    exact row_and (row_and (row_and (row_and (row_and (row_and (row_and (row_and (row_and (row_and (row_and (row_and
      (row_and (row_and rfl (and_kept _ rfl)) (and_kept _ rfl)) (and_kept _ rfl)) (and_kept _ rfl)) rfl) (and_kept _ rfl))
        (and_kept _ rfl)) rfl) (and_kept _ rfl)) (and_kept _ rfl)) rfl) (and_kept _ rfl)) (and_kept _ rfl)) (and_kept _ rfl)
  all_goals
    unfold Fsr.bits
    repeat rw [field_append_high _ _ (by decide)]
    exact (field_append_low _ _ (by decide)).trans (field_self _)

/-- Settles O21: each image is a row of fields, read bit by bit or field by field. -/
theorem registerImages : Obligations.RegisterImages :=
  ⟨getLsbD_ccr, bits_ofBits_ccr, by decide,
    fun par b v hfpu htct => ⟨bits_ofBits_pstate par b hfpu htct, bits_ofBits_tstate par v hfpu htct⟩,
    getLsbD_fprs, getLsbD_pstate, tstate_fields, fun x => by
      obtain ⟨hmask, him, hirnd, hscale, halign, hkept⟩ := gsr_fields x
      exact ⟨hmask, him, hirnd, hscale, halign, hkept, ofBits_bits_gsr x⟩, fsr_fields⟩

end Sys2Proof.Machine
end

section
/-!
PROOF. The FPops: what each checks before it does anything, and the moves of F registers.
-/

namespace Sys2Proof.Machine

open Sys2Proof

/-! ## The checks of FPops -/

/-- Where its registers are usable an FPop passes its checks. -/
theorem finish_fpChecks_usable {s : State} {regs : List (Prec × BitVec 5)} (hfpu : fpuEnabled s = true)
    (h : quadUsable s regs = true) (k : Unit → Eff State) : finish s (fpChecks s regs >>= k) = finish s (k ()) := by
  rw [quadUsable, List.all_eq_true] at h
  have hquad : (regs.all fun r => decide (r.1 ≠ .q) || s.par.hasQuad) = true := by
    refine List.all_eq_true.mpr fun r hr => ?_
    have := h r hr
    simp only [Bool.or_eq_true, Bool.and_eq_true] at this ⊢
    exact this.imp_right And.left
  have hnumber : (regs.all fun r => decide (r.1 ≠ .q) || !bit r.2 0) = true := by
    refine List.all_eq_true.mpr fun r hr => ?_
    have := h r hr
    simp only [Bool.or_eq_true, Bool.and_eq_true] at this ⊢
    exact this.imp_right And.right
  rw [finish_fpChecks, if_pos hquad, if_pos hfpu, if_pos hnumber]

/-- An FPop on single and double registers needs no quad registers. -/
theorem quadUsable_of_not_quad (s : State) {p : Prec} (hp : p ≠ .q) (r1 r2 : BitVec 5) :
    quadUsable s [(p, r1), (p, r2)] = true := by
  simp only [quadUsable, List.all_cons, List.all_nil, decide_eq_true hp, Bool.true_or, Bool.and_self]

/-! ## Moves -/

/-- The state that a move of F registers leaves, but for its destination. -/
def movedState (s : State) : State := { advance s with fsr := { s.fsr with cexc := .none, ftt := 0 } }

theorem IeeeFlags.or_none (x : IeeeFlags) : x.or .none = x := by
  simp only [IeeeFlags.or, IeeeFlags.none, Bool.or_false]

theorem completeFp_exact (s t : State) : completeFp s (.exact 0) t =
    .ok (advance { t with fsr := { t.fsr with cexc := .none, aexc := s.fsr.aexc, ftt := 0 } }) := by
  have hc : (FpResult.exact 0).cexc s.fsr.tem = .none := rfl
  have ht : trappedFlag .none s.fsr.tem = Option.none := rfl
  rw [completeFp_eq, hc, ht, IeeeFlags.or_none]

theorem fpMove_eq {p : Prec} {s : State} {rd rs2 : BitVec 5} (hfpu : fpuEnabled s = true)
    (hq : quadUsable s [(p, rs2), (p, rd)] = true) (f : Nat → Nat) (c : Bool) :
    fpMove p f c rd rs2 s = .next (if c then p.write (movedState s) rd (f (p.read s rs2)) else movedState s) := by
  refine (finish_fpChecks_usable hfpu hq _).trans ?_
  rw [completeFp_exact, finish_ok]
  cases c
  · rfl
  · cases p <;> rfl

/-- A move of single registers. -/
theorem fpMove_single {s : State} (hfpu : fpuEnabled s = true) (f : Nat → Nat) (c : Bool) (rd rs2 : FReg) :
    (c = true → nextWithFS (fpMove .s f c rd rs2 s) (movedState s) rd (BitVec.ofNat 32 (f (readFS s rs2).toNat))) ∧
      (c = false → fpMove .s f c rd rs2 s = .next (movedState s)) := by
  rw [fpMove_eq hfpu (quadUsable_of_not_quad s (by decide) rs2 rd)]
  cases c
  · exact ⟨nofun, fun _ => rfl⟩
  · exact ⟨fun _ => nextWithFS_writeFS (movedState s) rd _, nofun⟩

/-- A move of double registers. -/
theorem fpMove_double {s : State} (hfpu : fpuEnabled s = true) (f : Nat → Nat) (c : Bool) (rd rs2 : DReg) :
    (c = true → nextWithFD (fpMove .d f c rd rs2 s) (movedState s) rd (BitVec.ofNat 64 (f (readFD s rs2).toNat))) ∧
      (c = false → fpMove .d f c rd rs2 s = .next (movedState s)) := by
  rw [fpMove_eq hfpu (quadUsable_of_not_quad s (by decide) rs2 rd)]
  cases c
  · exact ⟨nofun, fun _ => rfl⟩
  · exact ⟨fun _ => nextWithFD_writeFD (movedState s) rd _, nofun⟩

theorem even_of_quadUsable {s : State} {rs2 rd : BitVec 5} (hq : quadUsable s [(.q, rs2), (.q, rd)] = true) :
    rd.toNat % 2 = 0 := by
  simp only [quadUsable, List.all_cons, List.all_nil, Bool.and_true, ne_eq, not_true_eq_false, decide_false,
    Bool.false_or, Bool.and_eq_true, Bool.not_eq_true'] at hq
  obtain ⟨-, -, hrd⟩ := hq
  have := Nat.testBit_zero rd.toNat
  rw [bit, ← BitVec.testBit_toNat] at hrd
  rw [hrd] at this
  have := of_decide_eq_false this.symm
  omega

/-- A move of quad registers. -/
theorem fpMove_quad {s : State} (hfpu : fpuEnabled s = true) (f : Nat → Nat) (c : Bool) (rd rs2 : DReg)
    (hq : quadUsable s [(.q, rs2), (.q, rd)] = true) :
    (c = true → nextWithFQ (fpMove .q f c rd rs2 s) (movedState s) rd (BitVec.ofNat 128 (f (readFQ s rs2).toNat))) ∧
      (c = false → fpMove .q f c rd rs2 s = .next (movedState s)) := by
  rw [fpMove_eq hfpu hq]
  cases c
  · exact ⟨nofun, fun _ => rfl⟩
  · exact ⟨fun _ => nextWithFQ_writeFQ (movedState s) rd _ (even_of_quadUsable hq), nofun⟩

/-! ## Clearing and complementing the sign bit -/

theorem ofNat_toNat_self {n : Nat} (x : BitVec n) : BitVec.ofNat n x.toNat = x :=
  (BitVec.ofNat_toNat n x).trans (BitVec.setWidth_eq x)

/-- Clearing the sign bit is a remainder. -/
theorem ofNat_absBits {n : Nat} (x : BitVec (n + 1)) :
    BitVec.ofNat (n + 1) (x.toNat % 2 ^ n) = x &&& BitVec.ofNat (n + 1) (2 ^ n - 1) := by
  apply BitVec.eq_of_toNat_eq
  have hpow : 2 ^ n < 2 ^ (n + 1) := Nat.pow_lt_pow_right (by decide) (Nat.lt_succ_self n)
  have hx := Nat.mod_lt x.toNat (Nat.two_pow_pos n)
  rw [BitVec.toNat_and, BitVec.toNat_ofNat, BitVec.toNat_ofNat, Nat.mod_eq_of_lt (hx.trans hpow),
    Nat.mod_eq_of_lt (by omega : 2 ^ n - 1 < 2 ^ (n + 1)), Nat.and_two_pow_sub_one_eq_mod]

theorem xor_two_pow {x n : Nat} (hx : x < 2 ^ (n + 1)) :
    x ^^^ 2 ^ n = if 2 ^ n ≤ x then x - 2 ^ n else x + 2 ^ n := by
  have hpos := Nat.two_pow_pos n
  rw [pow_succ] at hx
  have hdiv : (x ^^^ 2 ^ n) / 2 ^ n = x / 2 ^ n ^^^ 1 := by rw [Nat.xor_div_two_pow, Nat.div_self hpos]
  have hmod : (x ^^^ 2 ^ n) % 2 ^ n = x % 2 ^ n := by rw [Nat.xor_mod_two_pow, Nat.mod_self, Nat.xor_zero]
  rw [← Nat.div_add_mod (x ^^^ 2 ^ n) (2 ^ n), hdiv, hmod]
  split
  next h =>
    have hq : x / 2 ^ n = 1 := Nat.div_eq_of_lt_le (by omega) (by omega)
    have hr := Nat.div_add_mod x (2 ^ n)
    rw [hq] at hr ⊢
    change 2 ^ n * 0 + _ = _
    omega
  next h =>
    rw [Nat.div_eq_of_lt (Nat.not_le.mp h), Nat.mod_eq_of_lt (Nat.not_le.mp h)]
    exact (congrArg (· + x) (Nat.mul_one _)).trans (Nat.add_comm _ _)

/-- Complementing the sign bit. -/
theorem ofNat_negBits {n : Nat} (x : BitVec (n + 1)) :
    BitVec.ofNat (n + 1) (if 2 ^ n ≤ x.toNat then x.toNat - 2 ^ n else x.toNat + 2 ^ n)
      = x ^^^ BitVec.ofNat (n + 1) (2 ^ n) := by
  rw [← xor_two_pow x.isLt]
  apply BitVec.eq_of_toNat_eq
  have hpow : 2 ^ n < 2 ^ (n + 1) := Nat.pow_lt_pow_right (by decide) (Nat.lt_succ_self n)
  rw [BitVec.toNat_xor, BitVec.toNat_ofNat, BitVec.toNat_ofNat, Nat.mod_eq_of_lt hpow,
    Nat.mod_eq_of_lt (Nat.xor_lt_two_pow x.isLt hpow)]

/-! ## The rows -/

/-- The moves on a register's value are `fpMove` under the test of their row. -/
theorem exec_regMoves (rd rs1 rs2 : BitVec 5) (s : State) : ∀ r ∈ regRows,
    exec (r.2.2.2.1 rd rs1 rs2) s = fpMove .s id (r.1 (readR s rs1).toInt) rd rs2 s ∧
    exec (r.2.2.2.2.1 rd rs1 rs2) s = fpMove .d id (r.1 (readR s rs1).toInt) rd rs2 s ∧
    exec (r.2.2.2.2.2 rd rs1 rs2) s = fpMove .q id (r.1 (readR s rs1).toInt) rd rs2 s := by
  have same {c b : Bool} (h : c = b) : fpMove .s id c rd rs2 s = fpMove .s id b rd rs2 s ∧
      fpMove .d id c rd rs2 s = fpMove .d id b rd rs2 s ∧ fpMove .q id c rd rs2 s = fpMove .q id b rd rs2 s :=
    h ▸ ⟨rfl, rfl, rfl⟩
  obtain ⟨hz, hlez, hlz, hnz, hgz, hgez⟩ := rcondTest_rows (readR s rs1)
  simp only [regRows, List.forall_mem_cons]
  exact ⟨same hz, same hlez, same hlz, same hnz, same hgz, same hgez, fun _ h => absurd h List.not_mem_nil⟩

/-- Settles O52: each move is `fpMove` at its precision, under its condition. -/
theorem floatMoves : Obligations.FloatMoves := by
  intro s rd rs1 rs2 hfpu u movedS movedD movedQ
  have single (c : Bool) : movedS (fpMove .s id c rd rs2 s) c := by
    have h := fpMove_single hfpu id c rd rs2
    rwa [id, ofNat_toNat_self] at h
  have double (c : Bool) : movedD (fpMove .d id c rd rs2 s) c := by
    have h := fpMove_double hfpu id c rd rs2
    rwa [id, ofNat_toNat_self] at h
  have quad (c : Bool) : movedQ (fpMove .q id c rd rs2 s) c := by
    intro hq
    have h := fpMove_quad hfpu id c rd rs2 hq
    rwa [id, ofNat_toNat_self] at h
  refine ⟨?_, ?_, ?_, ?_, ?_, ?_⟩
  · simp only [moveSRows, List.forall_mem_cons]
    exact ⟨(single true).1 rfl, ofNat_absBits (readFS s rs2) ▸ (fpMove_single hfpu (absBits .s) true rd rs2).1 rfl,
      ofNat_negBits (readFS s rs2) ▸ (fpMove_single hfpu (negBits .s) true rd rs2).1 rfl,
      fun _ h => absurd h List.not_mem_nil⟩
  · simp only [moveDRows, List.forall_mem_cons]
    exact ⟨(double true).1 rfl, ofNat_absBits (readFD s rs2) ▸ (fpMove_double hfpu (absBits .d) true rd rs2).1 rfl,
      ofNat_negBits (readFD s rs2) ▸ (fpMove_double hfpu (negBits .d) true rd rs2).1 rfl,
      fun _ h => absurd h List.not_mem_nil⟩
  · simp only [moveQRows, List.forall_mem_cons]
    exact ⟨fun hq => (quad true hq).1 rfl,
      fun hq => ofNat_absBits (readFQ s rs2) ▸ (fpMove_quad hfpu (absBits .q) true rd rs2 hq).1 rfl,
      fun hq => ofNat_negBits (readFQ s rs2) ▸ (fpMove_quad hfpu (negBits .q) true rd rs2 hq).1 rfl,
      fun _ h => absurd h List.not_mem_nil⟩
  · simp only [fccMoveRows, List.forall_mem_cons]
    exact ⟨fun _ => ⟨single _, double _, quad _⟩, fun _ => ⟨single _, double _, quad _⟩,
      fun _ => ⟨single _, double _, quad _⟩, fun _ => ⟨single _, double _, quad _⟩,
      fun _ h => absurd h List.not_mem_nil⟩
  · simp only [iccMoveRows, List.forall_mem_cons]
    exact ⟨fun _ => ⟨single _, double _, quad _⟩, fun _ => ⟨single _, double _, quad _⟩,
      fun _ h => absurd h List.not_mem_nil⟩
  · intro r hr
    obtain ⟨hs, hd, hq⟩ := exec_regMoves rd rs1 rs2 s r hr
    exact ⟨hs ▸ single _, hd ▸ double _, hq ▸ quad _⟩

end Sys2Proof.Machine
end

section
/-!
PROOF. Floating-point values and the comparisons: subnormal patterns, nonstandard mode, FSR.fccn.
-/

namespace Sys2Proof.Machine

open Sys2Proof

/-! ## Patterns and their values -/

theorem Prec.expBits_pos (p : Prec) : 0 < p.format.expBits := by
  cases p <;> decide

theorem Prec.maxExp_ne_zero (p : Prec) : 0 ≠ p.format.maxExp := by
  cases p <;> decide

/-- A pattern is subnormal exactly when its value is. -/
theorem subnormal_iff (p : Prec) (x : Nat) :
    p.format.subnormal x = true ↔ subnormalValue p (p.format.decode x) := by
  rw [FpFormat.subnormal, decide_eq_true_iff, subnormalValue, FpFormat.decode]
  by_cases he : x / 2 ^ p.format.fracBits % 2 ^ p.format.expBits = 0
  · rw [he, if_neg p.maxExp_ne_zero, if_pos rfl]
    constructor
    · rintro ⟨-, hf⟩
      exact ⟨_, _, _, rfl, Nat.pos_of_ne_zero hf, Nat.mod_lt _ (Nat.two_pow_pos _)⟩
    · rintro ⟨n, sig, e, heq, hpos, -⟩
      cases heq
      exact ⟨rfl, hpos.ne'⟩
  · refine ⟨fun h => absurd h.1 he, ?_⟩
    rintro ⟨n, sig, e, heq, -, hlt⟩
    rw [if_neg he] at heq
    split at heq
    · split at heq <;> cases heq
    · cases heq
      exact absurd hlt (Nat.not_lt.mpr (Nat.le_add_right _ _))

theorem neg_decode (m : FpFormat) (x : Nat) : (m.decode x).neg = m.negative x := by
  rw [FpFormat.decode]
  split
  · split <;> rfl
  · split <;> rfl

theorem negative_signBit (m : FpFormat) (neg : Bool) : m.negative (m.signBit neg) = neg := by
  cases neg
  · exact congrArg (· % 2 == 1) (Nat.zero_div (2 ^ (m.expBits + m.fracBits)))
  · exact congrArg (· % 2 == 1) (Nat.div_self (Nat.two_pow_pos (m.expBits + m.fracBits)))

/-- The zero with the sign of a pattern. -/
theorem decode_sameSignZero (p : Prec) (x : Nat) :
    p.format.decode (p.format.sameSignZero x) = .fin (p.format.decode x).neg 0 p.format.minQuantum := by
  rw [neg_decode, FpFormat.sameSignZero]
  generalize p.format.negative x = neg
  have hexp : p.format.signBit neg / 2 ^ p.format.fracBits % 2 ^ p.format.expBits = 0 := by
    cases neg
    · exact (congrArg (· % 2 ^ p.format.expBits) (Nat.zero_div _)).trans (Nat.zero_mod _)
    · rw [FpFormat.signBit, if_pos rfl, pow_add, Nat.mul_div_cancel _ (Nat.two_pow_pos _), Nat.mod_self]
  have hfrac : p.format.signBit neg % 2 ^ p.format.fracBits = 0 := by
    cases neg
    · exact Nat.zero_mod _
    · rw [FpFormat.signBit, if_pos rfl, pow_add, Nat.mul_mod_left]
  rw [FpFormat.decode, hexp, hfrac, if_neg p.maxExp_ne_zero, if_pos rfl, negative_signBit]

/-! ## Nonstandard mode -/

theorem nonstandard_eq_false {s : State} (h : s.par.hasNsMode = false ∨ s.fsr.ns = false ∨ s.gsr.im = true) :
    nonstandard s = false := by
  rw [nonstandard]
  rcases h with h | h | h
  · rw [h]; rfl
  · rw [h, Bool.and_false]; rfl
  · rw [h]; exact Bool.and_false _

/-- A source operand is the value of its register, or the zero that nonstandard mode takes a subnormal for. -/
theorem nsSource_source (s : State) (p : Prec) (r : BitVec 5) :
    nsSource p (p.value s r) (p.source s r) (nsFlushed s p r) := by
  rw [nsSource, Prec.source]
  cases h : nsFlushed s p r
  · exact .inl ⟨rfl, rfl⟩
  · refine .inr ⟨rfl, (subnormal_iff p _).mp ?_, decode_sameSignZero p (p.read s r)⟩
    rw [nsFlushed, Bool.and_eq_true, Bool.and_eq_true] at h
    exact h.1.2

theorem nsFlushed_of_nsInexact {s : State} {p : Prec} {r : BitVec 5} (h : nsInexact s p r = true) :
    nsFlushed s p r = true :=
  (Bool.and_eq_true _ _ ▸ h).1

/-! ## Comparisons -/

theorem withFcc_eq (x : Fsr) (n v : BitVec 2) : x.withFcc n v = setFcc x n v := by
  rw [Fsr.withFcc, setFcc]
  by_cases h0 : n = 0
  · subst h0; rfl
  by_cases h1 : n = 1
  · subst h1; rfl
  by_cases h2 : n = 2
  · subst h2; rfl
  have h3 : n = 3 := by bv_omega
  subst h3
  rfl

/-- The result of a comparison: the exceptions invalid and inexact alone. -/
def comparison (nv nx : Bool) : FpResult := { bits := 0, nv := nv, nx := nx }

/-- How a comparison of two values ends (R306, R307). -/
def compareEnds (s : State) (cc : BitVec 2) (quietToo : Bool) (a b : FpValue) (inexact : Bool) : Out :=
  finish s (completeFp s
    (comparison (a.isSignalling || b.isSignalling || (quietToo && (a.isNan || b.isNan))) inexact)
    { s with fsr := s.fsr.withFcc cc (compareFcc a b) })

theorem fpCompare_eq {p : Prec} {s : State} {rs1 rs2 : BitVec 5} (hfpu : fpuEnabled s = true)
    (hq : quadUsable s [(p, rs1), (p, rs2)] = true) (quietToo : Bool) (cc : BitVec 2) :
    fpCompare p quietToo cc rs1 rs2 s =
      compareEnds s cc quietToo (p.source s rs1) (p.source s rs2) (nsInexact s p rs1 || nsInexact s p rs2) :=
  finish_fpChecks_usable hfpu hq _

theorem trappedFlag_comparison (nv nx : Bool) (tem : IeeeFlags) : trappedFlag ((comparison nv nx).cexc tem) tem =
    if nv && tem.nv then some { IeeeFlags.none with nv := true }
    else if nx && tem.nx then some { IeeeFlags.none with nx := true } else none := by
  simp only [trappedFlag, FpResult.cexc, comparison, Bool.false_and, if_false, Bool.false_eq_true]

/-- The three ends of a comparison: FSR written, an invalid operation trapped, an inexact one trapped. -/
theorem completes_comparison {s : State} {cc v : BitVec 2} {nv nx : Bool} {o : Out}
    (h : o = finish s (completeFp s (comparison nv nx) { s with fsr := s.fsr.withFcc cc v })) :
    ((nv && s.fsr.tem.nv) = false → (nx && s.fsr.tem.nx) = false →
      o = .next { advance s with
        fsr := { setFcc s.fsr cc v with
          cexc := { IeeeFlags.none with nv := nv, nx := nx }
          aexc := { s.fsr.aexc with nv := s.fsr.aexc.nv || nv, nx := s.fsr.aexc.nx || nx }
          ftt := 0 } }) ∧
    ((nv && s.fsr.tem.nv) = true → o = takeTrap (.fpIeee { IeeeFlags.none with nv := true }) s) ∧
    ((nv && s.fsr.tem.nv) = false → (nx && s.fsr.tem.nx) = true →
      o = takeTrap (.fpIeee { IeeeFlags.none with nx := true }) s) := by
  rw [h, completeFp_eq, trappedFlag_comparison]
  refine ⟨fun h1 h2 => ?_, fun h1 => ?_, fun h1 h2 => ?_⟩
  · rw [h1, h2, withFcc_eq]
    simp only [if_false, Bool.false_eq_true, finish_ok, comparison, FpResult.cexc, IeeeFlags.or, Bool.or_false,
      Bool.false_and]
    rfl
  · rw [h1]; rfl
  · rw [h1, h2]; rfl

theorem exec_fpCompareRows (cc : BitVec 2) (rs1 rs2 : BitVec 5) (s : State) :
    ∀ r ∈ fpCompareRows, exec (r.1 cc rs1 rs2) s = fpCompare r.2.1 r.2.2 cc rs1 rs2 s := by
  simp only [fpCompareRows, List.forall_mem_cons]
  exact ⟨rfl, rfl, rfl, rfl, rfl, rfl, fun _ h => absurd h List.not_mem_nil⟩

/-- Settles O54: a comparison ends as its exceptions say, and its operands are the registers' values but in nonstandard
mode. -/
theorem floatCompares : Obligations.FloatCompares := by
  intro s cc rs1 rs2 hfpu standard
  refine ⟨?_, ?_, ?_⟩
  · intro r hr hq x y o compares
    have ho : o = fpCompare r.2.1 r.2.2 cc rs1 rs2 s := exec_fpCompareRows cc rs1 rs2 s r hr
    have ends (a b : FpValue) (inexact : Bool) (h : o = compareEnds s cc r.2.2 a b inexact) :
        compares a b inexact := completes_comparison h
    rw [fpCompare_eq hfpu hq] at ho
    refine ⟨fun hstd => ?_, fun _ => ?_⟩
    · have hns := nonstandard_eq_false hstd
      refine ends x y false (ho.trans ?_)
      rw [Prec.source_of_standard _ _ _ hns, Prec.source_of_standard _ _ _ hns, nsInexact_of_standard _ _ _ hns,
        nsInexact_of_standard _ _ _ hns]
      rfl
    · refine ⟨_, _, _, _, _, nsSource_source s r.2.1 rs1, nsSource_source s r.2.1 rs2, fun h => ?_, ends _ _ _ ho⟩
      exact (Bool.or_eq_true _ _ ▸ h).imp nsFlushed_of_nsInexact nsFlushed_of_nsInexact
  · refine (fpLexicographic_eq .s cc rs1 rs2 s).trans ?_
    rw [if_pos hfpu, withFcc_eq]
    rfl
  · refine (fpLexicographic_eq .d cc rs1 rs2 s).trans ?_
    rw [if_pos hfpu, withFcc_eq]
    rfl

end Sys2Proof.Machine
end

section
/-!
PROOF. The arithmetic and converting FPops: unfinished, trapped or completed, with or without nonstandard mode.
-/

namespace Sys2Proof.Machine

open Sys2Proof

/-! ## How an FPop ends -/

/-- How an FPop with the given result ends: unfinished, completed, or with an IEEE exception. -/
def endsAs (s : State) (rd : BitVec 5) (o : Out) (src dst : Prec) (op : Option Config.FpOperation)
    (sources : List FReg) (operand : Prop) (r : FpResult) : Prop :=
  let unfinished := isUnfinished s op src dst (sources.map (src.read s)) operand (r.tiny = true)
  (unfinished → o = takeTrap (.fpOther 2) s) ∧
  (¬unfinished →
    (trappedFlag (r.cexc s.fsr.tem) s.fsr.tem = none → fpCompletes o s dst rd r) ∧
    (∀ e, trappedFlag (r.cexc s.fsr.tem) s.fsr.tem = some e → o = takeTrap (.fpIeee e) s))

/-- An entry of UNFINISHED_FPOP_CASES that an FPop meets. -/
def meetsCase (op : Option Config.FpOperation) (src dst : Prec) (operands : List Nat)
    (subnormalOperand subnormalResult : Bool) (c : Config.UnfinishedCase) : Bool :=
  decide (some c.operation = op ∧ c.source = src.width ∧ c.destination = dst.width) &&
    match c.condition with
    | .subnormalOperand => subnormalOperand
    | .subnormalResult => subnormalResult
    | .chosenOperands => Config.unfinishedChoice c.operation c.source c.destination operands

/-- The model finds an unfinished case exactly where there is one. -/
theorem any_meetsCase {s : State} {op : Option Config.FpOperation} {src dst : Prec} {operands : List Nat}
    {subnormalOperand subnormalResult : Bool} {operand : Prop} (hop : subnormalOperand = true ↔ operand) :
    s.par.unfinishedCases.any (meetsCase op src dst operands subnormalOperand subnormalResult) = true ↔
      isUnfinished s op src dst operands operand (subnormalResult = true) := by
  rw [List.any_eq_true, isUnfinished]
  refine exists_congr fun c => and_congr_right fun _ => ?_
  rw [meetsCase, Bool.and_eq_true, decide_eq_true_iff, and_assoc, and_assoc]
  refine and_congr_right fun _ => and_congr_right fun _ => and_congr_right fun _ => ?_
  cases c.condition
  · exact hop
  · exact Iff.rfl
  · exact Iff.rfl

theorem finish_needFinished_any (s : State) (op : Option Config.FpOperation) (src dst : Prec) (operands : List Nat)
    (subnormalOperand subnormalResult : Bool) (k : Unit → Eff State) :
    finish s (needFinished s op src dst operands subnormalOperand subnormalResult >>= k) =
      if s.par.unfinishedCases.any (meetsCase op src dst operands subnormalOperand subnormalResult)
      then takeTrap (.fpOther 2) s else finish s (k ()) :=
  finish_needFinished s op src dst operands subnormalOperand subnormalResult k

/-- The state that an FPop with the given result leaves, but for its destination. -/
def completedState (s : State) (r : FpResult) : State :=
  let c := r.cexc s.fsr.tem
  { advance s with fsr := { s.fsr with cexc := c, aexc := s.fsr.aexc.or c, ftt := 0 } }

/-- An FPop completes, unless an enabled exception traps. -/
theorem completeFp_ends {s : State} {dst : Prec} {rd : BitVec 5} {r : FpResult} {o : Out}
    (ho : o = finish s (completeFp s r (dst.write s rd r.bits))) (hquad : dst = .q → rd.toNat % 2 = 0) :
    (trappedFlag (r.cexc s.fsr.tem) s.fsr.tem = none → fpCompletes o s dst rd r) ∧
    (∀ e, trappedFlag (r.cexc s.fsr.tem) s.fsr.tem = some e → o = takeTrap (.fpIeee e) s) := by
  rw [completeFp_eq] at ho
  refine ⟨fun h => ?_, fun e h => ?_⟩
  · rw [h] at ho
    subst ho
    cases dst
    · exact nextWithFS_writeFS (completedState s r) rd _
    · exact nextWithFD_writeFD (completedState s r) rd _
    · exact nextWithFQ_writeFQ (completedState s r) rd _ (hquad rfl)
  · rw [h] at ho
    exact ho

/-- An FPop that may be unfinished. -/
theorem endsAs_of_finish {s : State} {rd : BitVec 5} {o : Out} {op : Option Config.FpOperation} {src dst : Prec}
    {sources : List FReg} {subnormalOperand : Bool} {operand : Prop} {r : FpResult}
    (ho : o = finish s (needFinished s op src dst (sources.map (src.read s)) subnormalOperand r.tiny >>=
      fun _ => completeFp s r (dst.write s rd r.bits)))
    (hop : subnormalOperand = true ↔ operand) (hquad : dst = .q → rd.toNat % 2 = 0) :
    endsAs s rd o src dst op sources operand r := by
  rw [finish_needFinished_any] at ho
  refine ⟨fun h => ?_, fun h => ?_⟩
  · rw [if_pos ((any_meetsCase hop).mpr h)] at ho
    exact ho
  · rw [if_neg fun hu => h ((any_meetsCase hop).mp hu)] at ho
    exact completeFp_ends ho hquad

/-- An operation that is always finished. -/
theorem endsAs_of_complete {s : State} {rd : BitVec 5} {o : Out} {src dst : Prec} {sources : List FReg} {r : FpResult}
    (ho : o = finish s (completeFp s r (dst.write s rd r.bits))) (hquad : dst = .q → rd.toNat % 2 = 0) :
    endsAs s rd o src dst none sources False r := by
  refine ⟨fun h => ?_, fun _ => completeFp_ends ho hquad⟩
  obtain ⟨_, -, hc, -⟩ := h
  cases hc

/-- The number of a usable quad register is even in the model's numbering. -/
theorem even_of_usable {s : State} {regs : List (Prec × BitVec 5)} {p : Prec} {k : BitVec 5}
    (hq : quadUsable s regs = true) (hmem : (p, k) ∈ regs) (hp : p = .q) : k.toNat % 2 = 0 := by
  have h := List.all_eq_true.mp hq _ hmem
  rw [hp] at h
  simp only [ne_eq, not_true_eq_false, decide_false, Bool.false_or, Bool.and_eq_true, Bool.not_eq_true'] at h
  obtain ⟨-, hbit⟩ := h
  rw [bit, ← BitVec.testBit_toNat, Nat.testBit_zero] at hbit
  have := of_decide_eq_false hbit
  omega

theorem subnormalValue_iff (s : State) (p : Prec) (r : BitVec 5) :
    p.format.subnormal (p.read s r) = true ↔ subnormalValue p (p.value s r) := subnormal_iff p _

/-! ## Two operands, and three -/

/-- FADDq with bit 0 of the rd field 1 is the one instruction of `fpBinaryRows` with a check of its own (R305). -/
structure FaddqNumber (s : State) (i : Instr) (rd rs1 rs2 : BitVec 5) : Prop where
  instr : i = .FADDq rd rs1 rs2
  number : 16 ≤ rd.toNat
  quad : s.par.hasQuad = true
  fpu : fpuEnabled s = true
  stops : exec i s = takeTrap (.fpOther 6) s

theorem exec_FADDq (rd rs1 rs2 : BitVec 5) (s : State) :
    exec (.FADDq rd rs1 rs2) s = fpSum (some .add) .q false false 0 rd rs1 rs2 s ∨
      FaddqNumber s (.FADDq rd rs1 rs2) rd rs1 rs2 := by
  have heq : exec (.FADDq rd rs1 rs2) s = if s.par.hasQuad && fpuEnabled s && bit rd 4 then takeTrap (.fpOther 6) s
    else fpSum (some .add) .q false false 0 rd rs1 rs2 s := rfl
  cases h : s.par.hasQuad && fpuEnabled s && bit rd 4
  · exact .inl (by rw [heq, h]; rfl)
  · have hset := h
    rw [Bool.and_eq_true, Bool.and_eq_true] at hset
    obtain ⟨⟨hquad, hfpu⟩, hbit⟩ := hset
    rw [bit, ← BitVec.testBit_toNat] at hbit
    exact .inr ⟨rfl, Nat.ge_two_pow_of_testBit hbit, hquad, hfpu, by rw [heq, h]; rfl⟩

theorem exec_fpBinaryRows (rd rs1 rs2 : BitVec 5) (s : State) : ∀ r ∈ fpBinaryRows,
    exec (r.1 rd rs1 rs2) s = fpBinary r.2.2.2.2 r.2.1 r.2.2.1 r.2.2.2.1 rd rs1 rs2 s ∨
      FaddqNumber s (r.1 rd rs1 rs2) rd rs1 rs2 := by
  simp only [fpBinaryRows, List.forall_mem_cons]
  exact ⟨.inl rfl, .inl rfl, exec_FADDq rd rs1 rs2 s, .inl rfl, .inl rfl, .inl rfl, .inl rfl, .inl rfl, .inl rfl,
    .inl rfl, .inl rfl, .inl rfl, .inl rfl, .inl rfl, .inl rfl, .inl rfl, .inl rfl, .inl rfl, .inl rfl, .inl rfl,
    .inl rfl, .inl rfl, .inl rfl, .inl rfl, .inl rfl, fun _ h => absurd h List.not_mem_nil⟩

theorem fpBinary_ends {s : State} (hfpu : fpuEnabled s = true) {src dst : Prec} {rd rs1 rs2 : BitVec 5}
    (hq : quadUsable s [(src, rs1), (src, rs2), (dst, rd)] = true) (op : Option Config.FpOperation)
    (f : BitVec 2 → FpValue → FpValue → FpResult) :
    endsAs s rd (fpBinary op src dst f rd rs1 rs2 s) src dst op [rs1, rs2]
      (subnormalValue src (src.value s rs1) ∨ subnormalValue src (src.value s rs2))
      (nanRule dst.format src.format (src.value s rs1) (src.value s rs2)
        (f (roundingMode s) (src.value s rs1) (src.value s rs2))) := by
  refine endsAs_of_finish (finish_fpChecks_usable hfpu hq _) ?_ (even_of_usable hq (by simp))
  simp only [anySubnormal, List.any_cons, List.any_nil, Bool.or_false, Bool.or_eq_true, subnormalValue_iff]

theorem exec_fpFusedRows (rd rs1 rs2 rs3 : BitVec 5) (s : State) : ∀ r ∈ fpFusedRows, r.2.1 ≠ .q ∧
    exec (r.1 rd rs1 rs2 rs3) s = fpFused r.2.2.2.2 r.2.1 r.2.2.1 r.2.2.2.1 rd rs1 rs2 rs3 s := by
  simp only [fpFusedRows, List.forall_mem_cons]
  exact ⟨⟨by decide, rfl⟩, ⟨by decide, rfl⟩, ⟨by decide, rfl⟩, ⟨by decide, rfl⟩, ⟨by decide, rfl⟩, ⟨by decide, rfl⟩,
    ⟨by decide, rfl⟩, ⟨by decide, rfl⟩, fun _ h => absurd h List.not_mem_nil⟩

theorem fpFused_ends {s : State} (hfpu : fpuEnabled s = true) {p : Prec} (hp : p ≠ .q) (rd rs1 rs2 rs3 : BitVec 5)
    (op : Config.FpOperation) (f g : Bool) :
    endsAs s rd (fpFused op p f g rd rs1 rs2 rs3 s) p p (some op) [rs1, rs2, rs3]
      (subnormalValue p (p.value s rs1) ∨ subnormalValue p (p.value s rs2) ∨ subnormalValue p (p.value s rs3))
      (fusedResult p.format (roundingMode s) f g (p.value s rs1) (p.value s rs2) (p.value s rs3)) := by
  have hq : quadUsable s [(p, rs1), (p, rs2), (p, rs3), (p, rd)] = true := by
    simp only [quadUsable, List.all_cons, List.all_nil, decide_eq_true hp, Bool.true_or, Bool.and_self]
  refine endsAs_of_finish (finish_fpChecks_usable hfpu hq _) ?_ fun h => absurd h hp
  simp only [anySubnormal, List.any_cons, List.any_nil, Bool.or_false, Bool.or_eq_true, subnormalValue_iff]

/-! ## Integers to floating point -/

theorem exec_fpFromIntRows {s : State} (hfpu : fpuEnabled s = true) (rd rs2 : BitVec 5) : ∀ r ∈ fpFromIntRows,
    quadUsable s [(r.2.2, rd)] = true →
      exec (r.1 rd rs2) s = finish s (completeFp s (fromInt r.2.2.format (roundingMode s) (r.2.1.intValue s rs2))
        (r.2.2.write s rd (fromInt r.2.2.format (roundingMode s) (r.2.1.intValue s rs2)).bits)) := by
  have usable {src dst : Prec} (hsrc : src ≠ .q) (hq : quadUsable s [(dst, rd)] = true) :
      quadUsable s [(src, rs2), (dst, rd)] = true := by
    rw [quadUsable, List.all_cons, decide_eq_true hsrc, Bool.true_or, Bool.true_and]
    exact hq
  have from32 (dst : Prec) (hq : quadUsable s [(dst, rd)] = true) : fpFromInt32 dst rd rs2 s = _ :=
    finish_fpChecks_usable hfpu (usable (src := .s) (by decide) hq) _
  have from64 (dst : Prec) (hq : quadUsable s [(dst, rd)] = true) : fpFromInt64 dst rd rs2 s = _ :=
    finish_fpChecks_usable hfpu (usable (src := .d) (by decide) hq) _
  simp only [fpFromIntRows, List.forall_mem_cons]
  exact ⟨from32 _, from32 _, from32 _, from64 _, from64 _, from64 _, fun _ h => absurd h List.not_mem_nil⟩

/-! ## Square roots and conversions -/

theorem fpSqrt_ends {s : State} (hfpu : fpuEnabled s = true) {p : Prec} {rd rs2 : BitVec 5}
    (hq : quadUsable s [(p, rs2), (p, rd)] = true) :
    endsAs s rd (fpSqrt p rd rs2 s) p p (some .squareRoot) [rs2]
      (subnormalValue p (p.value s rs2) ∧ (p.value s rs2).neg = false)
      ((p.value s rs2).nanOr p.format p.format (sqrtResult p.format (roundingMode s) (p.value s rs2))) := by
  refine endsAs_of_finish (finish_fpChecks_usable hfpu hq _) ?_ (even_of_usable hq (by simp))
  simp only [anySubnormal, List.any_cons, List.any_nil, Bool.or_false, Bool.and_eq_true, subnormalValue_iff,
    Bool.not_eq_true']

/-- The result of a conversion before nonstandard mode looks at it. -/
def convertedFlags (r : FpResult) (inexact : Bool) : FpResult := { r with nx := r.nx || inexact }

theorem convertedFlags_false (r : FpResult) : convertedFlags r false = r := by
  rw [convertedFlags, Bool.or_false]

/-- The result of a conversion: nonstandard mode speaks of those between formats. -/
def convertedResult (s : State) (src dst : Prec) (toFormat : Bool) (f : BitVec 2 → FpValue → FpResult)
    (rs2 : BitVec 5) : FpResult :=
  let y := convertedFlags (f (roundingMode s) (src.source s rs2)) (nsInexact s src rs2)
  if toFormat then nsResult s dst (nsIntermediate s src dst (src.read s rs2) y) else y

theorem fpConversion_ends {s : State} (hfpu : fpuEnabled s = true) {src dst : Prec} {rd rs2 : BitVec 5}
    (hq : quadUsable s [(src, rs2), (dst, rd)] = true) (op : Option Config.FpOperation) (toFormat : Bool)
    (f : BitVec 2 → FpValue → FpResult) :
    endsAs s rd (fpConversion op src dst toFormat f rd rs2 s) src dst op [rs2] (subnormalValue src (src.value s rs2))
      (convertedResult s src dst toFormat f rs2) := by
  refine endsAs_of_finish (finish_fpChecks_usable hfpu hq _) ?_ (even_of_usable hq (by simp))
  simp only [anySubnormal, List.any_cons, List.any_nil, Bool.or_false, subnormalValue_iff]

theorem convertedResult_standard {s : State} (h : nonstandard s = false) (src dst : Prec) (toFormat : Bool)
    (f : BitVec 2 → FpValue → FpResult) (rs2 : BitVec 5) :
    convertedResult s src dst toFormat f rs2 = f (roundingMode s) (src.value s rs2) := by
  simp only [convertedResult, Prec.source_of_standard _ _ _ h, nsInexact_of_standard _ _ _ h, convertedFlags_false,
    nsIntermediate_of_standard _ _ _ _ _ h, nsResult_of_standard _ _ _ h, ite_self]

/-- The zero that nonstandard mode puts for a result. -/
theorem zeroed_eq (r : FpResult) (p : Prec) : r.zeroed p =
    { r with bits := p.format.signBit (p.format.decode r.bits).neg, tiny := true, nx := true } := by
  rw [neg_decode]
  rfl

theorem zeroed_zeroed (r : FpResult) (p : Prec) : (r.zeroed p).zeroed p = r.zeroed p := by
  have hsign : p.format.sameSignZero (p.format.sameSignZero r.bits) = p.format.sameSignZero r.bits :=
    congrArg p.format.signBit (negative_signBit _ _)
  exact congrArg (fun b => ({ r with bits := b, tiny := true, nx := true } : FpResult)) hsign

/-- What nonstandard mode makes of the result of a conversion between formats. -/
theorem convertedResult_format (s : State) (src dst : Prec) (f : BitVec 2 → FpValue → FpResult) (rs2 : BitVec 5) :
    let y := convertedFlags (f (roundingMode s) (src.source s rs2)) (nsInexact s src rs2)
    convertedResult s src dst true f rs2 = y ∨
      ((subnormalValue dst (dst.format.decode y.bits) ∨ y.tiny = true) ∧
        convertedResult s src dst true f rs2 = y.zeroed dst) := by
  intro y
  have heq : convertedResult s src dst true f rs2 = nsResult s dst (nsIntermediate s src dst (src.read s rs2) y) := rfl
  rw [heq]
  rcases nsIntermediate_cases s src dst (src.read s rs2) y with hi | ⟨-, htiny, hi⟩
  · rw [hi]
    rcases nsResult_cases s dst y with hr | ⟨-, hsub, hr⟩
    · exact .inl hr
    · exact .inr ⟨.inl ((subnormal_iff dst _).mp hsub), hr⟩
  · rw [hi]
    rcases nsResult_cases s dst (y.zeroed dst) with hr | ⟨-, -, hr⟩
    · exact .inr ⟨.inr htiny, hr⟩
    · exact .inr ⟨.inr htiny, hr.trans (zeroed_zeroed y dst)⟩

/-- A row of `fpUnaryRows` that is a square root. -/
structure RootRow (r : (BitVec 5 → BitVec 5 → Instr) × Prec × Prec × (BitVec 2 → FpValue → FpResult) × UnaryKind ×
    Option Config.FpOperation) : Prop where
  kind : r.2.2.2.2.1 = .root
  dst : r.2.2.1 = r.2.1
  op : r.2.2.2.2.2 = some .squareRoot
  runs : ∀ rd rs2 s, exec (r.1 rd rs2) s = fpSqrt r.2.1 rd rs2 s
  result : ∀ dir x, r.2.2.2.1 dir x = x.nanOr r.2.1.format r.2.1.format (sqrtResult r.2.1.format dir x)

/-- A row of `fpUnaryRows` that is a conversion, between formats or to an integer. -/
structure ConversionRow (r : (BitVec 5 → BitVec 5 → Instr) × Prec × Prec × (BitVec 2 → FpValue → FpResult) × UnaryKind ×
    Option Config.FpOperation) (toFormat : Bool) : Prop where
  kind : r.2.2.2.2.1 = if toFormat then .format else .integer
  runs : ∀ rd rs2 s, exec (r.1 rd rs2) s = fpConversion r.2.2.2.2.2 r.2.1 r.2.2.1 toFormat r.2.2.2.1 rd rs2 s

theorem fpUnaryRows_kind : ∀ r ∈ fpUnaryRows, RootRow r ∨ ∃ toFormat, ConversionRow r toFormat := by
  simp only [fpUnaryRows, List.forall_mem_cons]
  have root {r} (h : RootRow r) : RootRow r ∨ ∃ toFormat, ConversionRow r toFormat := .inl h
  have conversion {r} (b : Bool) (h : ConversionRow r b) : RootRow r ∨ ∃ toFormat, ConversionRow r toFormat := .inr ⟨b, h⟩
  exact ⟨root ⟨rfl, rfl, rfl, fun _ _ _ => rfl, fun _ _ => rfl⟩, root ⟨rfl, rfl, rfl, fun _ _ _ => rfl, fun _ _ => rfl⟩,
    root ⟨rfl, rfl, rfl, fun _ _ _ => rfl, fun _ _ => rfl⟩, conversion true ⟨rfl, fun _ _ _ => rfl⟩,
    conversion true ⟨rfl, fun _ _ _ => rfl⟩, conversion true ⟨rfl, fun _ _ _ => rfl⟩,
    conversion true ⟨rfl, fun _ _ _ => rfl⟩, conversion true ⟨rfl, fun _ _ _ => rfl⟩,
    conversion true ⟨rfl, fun _ _ _ => rfl⟩, conversion false ⟨rfl, fun _ _ _ => rfl⟩,
    conversion false ⟨rfl, fun _ _ _ => rfl⟩, conversion false ⟨rfl, fun _ _ _ => rfl⟩,
    conversion false ⟨rfl, fun _ _ _ => rfl⟩, conversion false ⟨rfl, fun _ _ _ => rfl⟩,
    conversion false ⟨rfl, fun _ _ _ => rfl⟩, fun _ h => absurd h List.not_mem_nil⟩

/-- How the instruction of a row of `fpUnaryRows` ends, in standard mode and in nonstandard mode. -/
def UnaryEnds (s : State) (rd rs2 : BitVec 5) (r : (BitVec 5 → BitVec 5 → Instr) × Prec × Prec ×
    (BitVec 2 → FpValue → FpResult) × UnaryKind × Option Config.FpOperation) : Prop :=
  let standard : Prop := s.par.hasNsMode = false ∨ s.fsr.ns = false ∨ s.gsr.im = true
  let x := r.2.1.value s rs2
  let f := r.2.2.2.1 (roundingMode s)
  let kind := r.2.2.2.2.1
  let finishes := endsAs s rd (exec (r.1 rd rs2) s) r.2.1 r.2.2.1 r.2.2.2.2.2 [rs2]
    (subnormalValue r.2.1 x ∧ (kind = .root → x.neg = false))
  (kind = .root ∨ standard → finishes (f x)) ∧
  (kind ≠ .root → ¬standard → ∃ (y : FpValue) (zeroed inexact : Bool), nsSource r.2.1 x y zeroed ∧
    (inexact = true → zeroed = true) ∧
    let plain := { f y with nx := (f y).nx || inexact }
    let result := r.2.2.1.format.decode (f y).bits
    finishes plain ∨ (kind = .format ∧ (subnormalValue r.2.2.1 result ∨ (f y).tiny = true) ∧
      finishes { plain with bits := r.2.2.1.format.signBit result.neg, tiny := true, nx := true }))

theorem unary_root {s : State} (hfpu : fpuEnabled s = true) {rd rs2 : BitVec 5} {r} (h : RootRow r)
    (hq : quadUsable s [(r.2.1, rs2), (r.2.2.1, rd)] = true) : UnaryEnds s rd rs2 r := by
  refine ⟨fun _ => ?_, fun hkind => absurd h.kind hkind⟩
  rw [h.dst] at hq ⊢
  rw [h.runs, h.op, h.kind, h.result]
  simp only [forall_const]
  exact fpSqrt_ends hfpu hq

theorem unary_conversion {s : State} (hfpu : fpuEnabled s = true) {rd rs2 : BitVec 5} {r} {toFormat : Bool}
    (h : ConversionRow r toFormat) (hq : quadUsable s [(r.2.1, rs2), (r.2.2.1, rd)] = true) :
    UnaryEnds s rd rs2 r := by
  have hkind : r.2.2.2.2.1 ≠ .root := by
    rw [h.kind]
    cases toFormat <;> decide
  have hends := fpConversion_ends hfpu hq r.2.2.2.2.2 toFormat r.2.2.2.1
  have hoperand : (subnormalValue r.2.1 (r.2.1.value s rs2) ∧ (r.2.2.2.2.1 = .root → (r.2.1.value s rs2).neg = false))
      = subnormalValue r.2.1 (r.2.1.value s rs2) :=
    propext (and_iff_left fun hroot => absurd hroot hkind)
  rw [← h.runs] at hends
  rw [UnaryEnds, hoperand]
  refine ⟨fun hstd => ?_, fun _ _ => ?_⟩
  · have hstd := nonstandard_eq_false (hstd.resolve_left hkind)
    rwa [convertedResult_standard hstd] at hends
  · refine ⟨_, _, _, nsSource_source s r.2.1 rs2, nsFlushed_of_nsInexact, ?_⟩
    cases toFormat
    · exact .inl hends
    · rcases convertedResult_format s r.2.1 r.2.2.1 r.2.2.2.1 rs2 with hr | ⟨hwhy, hr⟩
      · rw [hr] at hends
        exact .inl hends
      · rw [hr, zeroed_eq] at hends
        exact .inr ⟨h.kind, hwhy, hends⟩

end Sys2Proof.Machine
end
section
/-!
PROOF. Each exact result that is finite and not 0 is rounded once.
-/

namespace Sys2Proof.Machine

open Sys2Proof Laws

/-! ## Signs and scaled integers -/

/-- The sign of a value as a factor. -/
def signOf (neg : Bool) : ℝ := if neg then -1 else 1

theorem signOf_xor (a b : Bool) : signOf (a ^^ b) = signOf a * signOf b := by
  cases a <;> cases b <;> norm_num [signOf]

theorem abs_signOf (a : Bool) : |signOf a| = 1 := by
  cases a <;> norm_num [signOf]

theorem real_fin (n : Bool) (s : ℕ) (e : ℤ) : (FpValue.fin n s e).real = signOf n * (s * (2 : ℝ) ^ e) :=
  mul_assoc _ _ _

theorem int_eq_signOf (v : ℤ) : (v : ℝ) = signOf (decide (v < 0)) * (v.natAbs : ℝ) := by
  rw [signOf, Nat.cast_natAbs, Int.cast_abs]
  by_cases h : v < 0
  · rw [if_pos (decide_eq_true h), abs_of_neg (Int.cast_lt_zero.mpr h), neg_one_mul, neg_neg]
  · rw [if_neg (by simpa using h), abs_of_nonneg (Int.cast_nonneg (not_lt.mp h)), one_mul]

/-- An aligned significand stands for its value. -/
theorem scaled_real (n : Bool) (s : ℕ) {exp e : ℤ} (h : e ≤ exp) :
    (scaled n s exp e : ℝ) * (2 : ℝ) ^ e = (FpValue.fin n s exp).real := by
  have hpow : ((2 : ℝ) ^ (exp - e).toNat) * (2 : ℝ) ^ e = (2 : ℝ) ^ exp := by
    rw [← zpow_natCast, Int.toNat_of_nonneg (sub_nonneg.mpr h), ← zpow_add₀ two_ne_zero, sub_add_cancel]
  rw [real_fin, ← hpow, scaled, signOf]
  cases n
  · push_cast
    simp only [one_mul, mul_assoc]
  · push_cast
    simp only [if_true, neg_mul, one_mul, mul_assoc]

/-! ## The operations -/

theorem sum_rounded {m : FpFormat} (hE : 2 ≤ m.expBits) (hp : 1 ≤ m.fracBits) (dir : BitVec 2) (n1 n2 : Bool)
    (s1 s2 : ℕ) (e1 e2 scale : ℤ)
    (h0 : ((FpValue.fin n1 s1 e1).real + (FpValue.fin n2 s2 e2).real) * (2 : ℝ) ^ scale ≠ 0) :
    roundedOnce m dir (((FpValue.fin n1 s1 e1).real + (FpValue.fin n2 s2 e2).real) * (2 : ℝ) ^ scale)
      (sumResult m dir scale (.fin n1 s1 e1) (.fin n2 s2 e2)) := by
  have hv : (FpValue.fin n1 s1 e1).real + (FpValue.fin n2 s2 e2).real =
      ((scaled n1 s1 e1 (min e1 e2) + scaled n2 s2 e2 (min e1 e2) : ℤ) : ℝ) * (2 : ℝ) ^ (min e1 e2) := by
    rw [← scaled_real n1 s1 (min_le_left e1 e2), ← scaled_real n2 s2 (min_le_right e1 e2), ← add_mul, Int.cast_add]
  rw [hv, mul_assoc, ← zpow_add₀ two_ne_zero] at h0 ⊢
  rw [sumResult]
  generalize scaled n1 s1 e1 (min e1 e2) + scaled n2 s2 e2 (min e1 e2) = v at h0 ⊢
  have hv0 : v ≠ 0 := by
    rintro rfl
    exact h0 (by rw [Int.cast_zero, zero_mul])
  rw [if_neg hv0]
  exact roundTo_exact hE hp (by rw [int_eq_signOf, mul_assoc]; rfl) h0

theorem product_real (f n1 n2 : Bool) (s1 s2 : ℕ) (e1 e2 : ℤ) :
    signOf f * ((FpValue.fin n1 s1 e1).real * (FpValue.fin n2 s2 e2).real) =
      signOf ((n1 ^^ n2) ^^ f) * ((s1 * s2 : ℕ) * (2 : ℝ) ^ (e1 + e2)) := by
  rw [real_fin, real_fin, signOf_xor, signOf_xor, zpow_add₀ two_ne_zero, Nat.cast_mul]
  ring

theorem product_rounded {m : FpFormat} (hE : 2 ≤ m.expBits) (hp : 1 ≤ m.fracBits) (dir : BitVec 2) (f n1 n2 : Bool)
    (s1 s2 : ℕ) (e1 e2 : ℤ) (h0 : signOf f * ((FpValue.fin n1 s1 e1).real * (FpValue.fin n2 s2 e2).real) ≠ 0) :
    roundedOnce m dir (signOf f * ((FpValue.fin n1 s1 e1).real * (FpValue.fin n2 s2 e2).real))
      (productResult m dir f (.fin n1 s1 e1) (.fin n2 s2 e2)) := by
  have hs : s1 * s2 ≠ 0 := by
    intro h
    rw [product_real, h, Nat.cast_zero, zero_mul, mul_zero] at h0
    exact h0 rfl
  rw [productResult, if_neg hs]
  exact roundTo_exact hE hp (product_real f n1 n2 s1 s2 e1 e2) h0

theorem convert_rounded {m : FpFormat} (hE : 2 ≤ m.expBits) (hp : 1 ≤ m.fracBits) (dir : BitVec 2) (n : Bool)
    (s : ℕ) (e : ℤ) (h0 : (FpValue.fin n s e).real ≠ 0) :
    roundedOnce m dir (FpValue.fin n s e).real (convertResult m dir (.fin n s e)) := by
  have hs : s ≠ 0 := by
    rintro rfl
    rw [real_fin, Nat.cast_zero, zero_mul, mul_zero] at h0
    exact h0 rfl
  rw [convertResult, if_neg hs]
  exact roundTo_exact hE hp (real_fin n s e) h0

theorem fromInt_rounded {m : FpFormat} (hE : 2 ≤ m.expBits) (hp : 1 ≤ m.fracBits) (dir : BitVec 2) (v : ℤ)
    (h0 : (v : ℝ) ≠ 0) : roundedOnce m dir (v : ℝ) (fromInt m dir v) := by
  rw [fromInt, if_neg (Int.cast_ne_zero.mp h0)]
  exact roundTo_exact hE hp (by rw [zpow_zero, mul_one]; exact int_eq_signOf v) h0

theorem real_negate (f n : Bool) (s : ℕ) (e : ℤ) :
    ((FpValue.fin n s e).negate f).real = signOf f * (FpValue.fin n s e).real := by
  rw [FpValue.negate, real_fin, real_fin, signOf_xor]
  ring

theorem fused_rounded {m : FpFormat} (hE : 2 ≤ m.expBits) (hp : 1 ≤ m.fracBits) (dir : BitVec 2)
    (f g n1 n2 n3 : Bool) (s1 s2 s3 : ℕ) (e1 e2 e3 : ℤ)
    (h0 : signOf f * ((FpValue.fin n1 s1 e1).real * (FpValue.fin n2 s2 e2).real) + signOf g * (FpValue.fin n3 s3 e3).real
      ≠ 0) :
    roundedOnce m dir
      (signOf f * ((FpValue.fin n1 s1 e1).real * (FpValue.fin n2 s2 e2).real) + signOf g * (FpValue.fin n3 s3 e3).real)
      (fusedResult m dir f g (.fin n1 s1 e1) (.fin n2 s2 e2) (.fin n3 s3 e3)) := by
  have hexact : signOf f * ((FpValue.fin n1 s1 e1).real * (FpValue.fin n2 s2 e2).real)
      + signOf g * (FpValue.fin n3 s3 e3).real =
      ((FpValue.fin ((n1 ^^ n2) ^^ f) (s1 * s2) (e1 + e2)).real + (FpValue.fin (n3 ^^ g) s3 e3).real) * (2 : ℝ) ^ (0 : ℤ) := by
    rw [zpow_zero, mul_one, product_real, ← real_negate g n3, real_fin ((n1 ^^ n2) ^^ f)]
    rfl
  rw [hexact] at h0 ⊢
  exact sum_rounded hE hp dir _ _ _ _ _ _ 0 h0

/-! ## Quotients and square roots: a quotient or a root cut off, and what is left -/

/-- A quotient of natural numbers lies from its integer part to the next, at it exactly without a remainder. -/
theorem div_bounds (a : ℕ) {b : ℕ} (hb : 0 < b) :
    ((a / b : ℕ) : ℝ) ≤ (a : ℝ) / b ∧ (a : ℝ) / b < ((a / b : ℕ) : ℝ) + 1 ∧
      (a % b ≠ 0 ↔ (a : ℝ) / b ≠ ((a / b : ℕ) : ℝ)) := by
  have hb' : (0 : ℝ) < b := Nat.cast_pos.mpr hb
  have hdiv : (a : ℝ) = b * ((a / b : ℕ) : ℝ) + ((a % b : ℕ) : ℝ) := by
    exact_mod_cast (Nat.div_add_mod a b).symm
  have hmod : ((a % b : ℕ) : ℝ) < b := Nat.cast_lt.mpr (Nat.mod_lt a hb)
  have hmod0 : (0 : ℝ) ≤ ((a % b : ℕ) : ℝ) := Nat.cast_nonneg _
  refine ⟨(le_div_iff₀ hb').mpr (by linarith), (div_lt_iff₀ hb').mpr (by linarith), not_congr ?_⟩
  rw [div_eq_iff hb'.ne', ← Nat.cast_eq_zero (R := ℝ)]
  constructor <;> intro h <;> linarith

/-- Rounding a value `|x| = ρ * 2 ^ exp`, given by the integer part `sig` of `ρ` and whether there is more. -/
theorem roundTo_floor {m : FpFormat} (hE : 2 ≤ m.expBits) (hp : 1 ≤ m.fracBits) {dir : BitVec 2} {neg : Bool} {sig : ℕ}
    {exp : ℤ} {sticky : Bool} {ρ : ℝ} (hlog : 2 ^ (m.fracBits + 4) ≤ sig) (lo : sig ≤ ρ) (hi : ρ < sig + 1)
    (hst : sticky = true ↔ ρ ≠ sig) :
    roundedOnce m dir (signOf neg * (ρ * (2 : ℝ) ^ exp)) (roundTo m dir neg sig exp sticky) := by
  have hsig : 0 < sig := (Nat.two_pow_pos _).trans_le hlog
  have hρ : 0 < ρ := (Nat.cast_pos.mpr hsig).trans_le lo
  have hexp : (0 : ℝ) < (2 : ℝ) ^ exp := zpow_pos two_pos exp
  have hx : |signOf neg * (ρ * (2 : ℝ) ^ exp)| = ρ * (2 : ℝ) ^ exp := by
    rw [abs_mul, abs_signOf, one_mul, abs_of_pos (mul_pos hρ hexp)]
  apply roundTo_roundedOnce hE hp hsig
  case lo =>
    rw [hx]
    exact mul_le_mul_of_nonneg_right lo hexp.le
  case hi =>
    rw [hx]
    exact mul_lt_mul_of_pos_right hi hexp
  case hst =>
    rw [hx, hst, ne_eq, ne_eq, mul_left_inj' hexp.ne']
  case hw =>
    intro _
    exact (Nat.le_add_right _ 2).trans ((Nat.le_log2 hsig.ne').mpr hlog)
  case hneg =>
    have hpos := mul_pos hρ hexp
    cases neg
    · simp only [Bool.false_eq_true, false_iff, not_lt, signOf, if_false, one_mul]
      exact hpos.le
    · simp only [true_iff, signOf, if_true, neg_mul, one_mul, Left.neg_neg_iff]
      exact hpos

theorem quotient_rounded {m : FpFormat} (hE : 2 ≤ m.expBits) (hp : 1 ≤ m.fracBits) (dir : BitVec 2) (n1 n2 : Bool)
    (s1 s2 : ℕ) (e1 e2 : ℤ) (hy : (FpValue.fin n2 s2 e2).real ≠ 0)
    (h0 : (FpValue.fin n1 s1 e1).real / (FpValue.fin n2 s2 e2).real ≠ 0) :
    roundedOnce m dir ((FpValue.fin n1 s1 e1).real / (FpValue.fin n2 s2 e2).real)
      (quotientResult m dir (.fin n1 s1 e1) (.fin n2 s2 e2)) := by
  have hs2 : s2 ≠ 0 := by
    rintro rfl
    rw [real_fin, Nat.cast_zero, zero_mul, mul_zero] at hy
    exact hy rfl
  have hs1 : s1 ≠ 0 := by
    rintro rfl
    rw [real_fin n1, Nat.cast_zero, zero_mul, mul_zero, zero_div] at h0
    exact h0 rfl
  rw [quotientResult, if_neg hs2, if_neg hs1]
  set k := m.fracBits + 4 + Nat.log2 s2 + 1 with hk
  have hquot : (FpValue.fin n1 s1 e1).real / (FpValue.fin n2 s2 e2).real =
      signOf (n1 ^^ n2) * (((s1 * 2 ^ k : ℕ) : ℝ) / s2 * (2 : ℝ) ^ (e1 - e2 - k)) := by
    have hsign : signOf n1 / signOf n2 = signOf n1 * signOf n2 := by
      cases n1 <;> cases n2 <;> norm_num [signOf]
    rw [real_fin, real_fin, signOf_xor, ← hsign, zpow_sub₀ two_ne_zero, zpow_sub₀ two_ne_zero, zpow_natCast]
    push_cast
    have hs2' : (s2 : ℝ) ≠ 0 := Nat.cast_ne_zero.mpr hs2
    field_simp
  have hlog : 2 ^ (m.fracBits + 4) ≤ s1 * 2 ^ k / s2 := by
    rw [Nat.le_div_iff_mul_le (Nat.pos_of_ne_zero hs2)]
    calc
      2 ^ (m.fracBits + 4) * s2 ≤ 2 ^ (m.fracBits + 4) * 2 ^ (Nat.log2 s2 + 1) :=
        Nat.mul_le_mul_left _ Nat.lt_log2_self.le
      _ = 2 ^ k := (pow_add _ _ _).symm
      _ ≤ s1 * 2 ^ k := Nat.le_mul_of_pos_left _ (Nat.pos_of_ne_zero hs1)
  obtain ⟨lo, hi, hst⟩ := div_bounds (s1 * 2 ^ k) (Nat.pos_of_ne_zero hs2)
  rw [hquot]
  exact roundTo_floor hE hp hlog lo hi (decide_eq_true_iff.trans hst)

/-- The root of a natural number lies from its integer part to the next, at it exactly for a square. -/
theorem sqrt_bounds {n r : ℕ} (h1 : r * r ≤ n) (h2 : n < (r + 1) * (r + 1)) :
    (r : ℝ) ≤ Real.sqrt n ∧ Real.sqrt n < r + 1 ∧ (r * r ≠ n ↔ Real.sqrt n ≠ r) := by
  refine ⟨Real.le_sqrt_of_sq_le ?_, (Real.sqrt_lt' (by positivity)).mpr ?_, not_congr ?_⟩
  · rw [sq]
    exact_mod_cast h1
  · rw [sq]
    exact_mod_cast h2
  · rw [Real.sqrt_eq_iff_mul_self_eq (Nat.cast_nonneg n) (Nat.cast_nonneg r)]
    exact_mod_cast eq_comm

theorem sqrtFloor_bounds (n : ℕ) : sqrtFloor n (Nat.log2 n / 2 + 1) * sqrtFloor n (Nat.log2 n / 2 + 1) ≤ n ∧
    n < (sqrtFloor n (Nat.log2 n / 2 + 1) + 1) * (sqrtFloor n (Nat.log2 n / 2 + 1) + 1) := by
  apply sqrtFloor_spec
  calc
    n < 2 ^ (Nat.log2 n + 1) := Nat.lt_log2_self
    _ ≤ 2 ^ (2 * (Nat.log2 n / 2 + 1)) := Nat.pow_le_pow_right two_pos (by omega)
    _ = 4 ^ (Nat.log2 n / 2 + 1) := pow_mul 2 2 _

theorem sqrt_rounded {m : FpFormat} (hE : 2 ≤ m.expBits) (hp : 1 ≤ m.fracBits) (dir : BitVec 2) (n : Bool)
    (s : ℕ) (e : ℤ) (hx : 0 < (FpValue.fin n s e).real) :
    roundedOnce m dir (Real.sqrt (FpValue.fin n s e).real) (sqrtResult m dir (.fin n s e)) := by
  have hs : s ≠ 0 := by
    rintro rfl
    rw [real_fin, Nat.cast_zero, zero_mul, mul_zero] at hx
    exact lt_irrefl _ hx
  have hn : n = false := by
    by_contra hneg
    rw [Bool.not_eq_false] at hneg
    have : (0 : ℝ) < s * (2 : ℝ) ^ e := mul_pos (Nat.cast_pos.mpr (Nat.pos_of_ne_zero hs)) (zpow_pos two_pos e)
    rw [real_fin, hneg, signOf, if_pos rfl] at hx
    linarith
  subst hn
  rw [sqrtResult, if_neg hs, if_neg Bool.false_ne_true]
  set N := s * 2 ^ (2 * (m.fracBits + 4) + (e % 2).toNat) with hN
  set r := sqrtFloor N (Nat.log2 N / 2 + 1) with hr
  obtain ⟨h1, h2⟩ := sqrtFloor_bounds N
  obtain ⟨lo, hi, hst⟩ := sqrt_bounds h1 h2
  have hlog : 2 ^ (m.fracBits + 4) ≤ r := by
    have hbig : 2 ^ (m.fracBits + 4) * 2 ^ (m.fracBits + 4) ≤ N := by
      rw [← pow_add, ← two_mul]
      calc
        2 ^ (2 * (m.fracBits + 4)) ≤ 2 ^ (2 * (m.fracBits + 4) + (e % 2).toNat) :=
          Nat.pow_le_pow_right two_pos (Nat.le_add_right _ _)
        _ ≤ N := Nat.le_mul_of_pos_left _ (Nat.pos_of_ne_zero hs)
    exact Nat.lt_succ_iff.mp (Nat.mul_self_lt_mul_self_iff.mp (hbig.trans_lt h2))
  have hroot : Real.sqrt (FpValue.fin false s e).real =
      signOf false * (Real.sqrt N * (2 : ℝ) ^ ((e - e % 2) / 2 - (m.fracBits + 4 : ℤ))) := by
    have hexp : (e - e % 2) / 2 - (m.fracBits + 4 : ℤ) + ((e - e % 2) / 2 - (m.fracBits + 4 : ℤ))
        + ((2 * (m.fracBits + 4) + (e % 2).toNat : ℕ) : ℤ) = e := by
      push_cast
      omega
    have hsq : (FpValue.fin false s e).real = N * ((2 : ℝ) ^ ((e - e % 2) / 2 - (m.fracBits + 4 : ℤ))) ^ 2 := by
      rw [real_fin, hN, Nat.cast_mul, Nat.cast_pow, Nat.cast_ofNat, sq, ← zpow_add₀ two_ne_zero, mul_assoc,
        ← zpow_natCast, ← zpow_add₀ two_ne_zero, add_comm (_ : ℤ) (_ + _), hexp]
      exact one_mul _
    rw [hsq, Real.sqrt_mul (Nat.cast_nonneg N), Real.sqrt_sq (zpow_pos two_pos _).le]
    exact (one_mul _).symm
  rw [hroot]
  exact roundTo_floor hE hp hlog lo hi (decide_eq_true_iff.trans hst)

/-! ## The formats of the machine -/

theorem format_bounds : ∀ m ∈ [FpFormat.single, .double, .quad], 2 ≤ m.expBits ∧ 1 ≤ m.fracBits := by
  decide

/-- On finite numbers every operation's exact result that is not 0 is rounded once. -/
theorem finite_rounded : ∀ m ∈ [FpFormat.single, .double, .quad],
    ∀ (dir : BitVec 2) (n1 n2 n3 f g : Bool) (s1 s2 s3 : Nat) (e1 e2 e3 scale v : Int),
    let x := FpValue.fin n1 s1 e1
    let y := FpValue.fin n2 s2 e2
    let z := FpValue.fin n3 s3 e3
    let rounded (exact : ℝ) (r : FpResult) : Prop := exact ≠ 0 → roundedOnce m dir exact r
    rounded ((x.real + y.real) * (2 : ℝ) ^ scale) (sumResult m dir scale x y) ∧
    rounded (signOf f * (x.real * y.real)) (productResult m dir f x y) ∧
    (y.real ≠ 0 → rounded (x.real / y.real) (quotientResult m dir x y)) ∧
    (0 < x.real → rounded (Real.sqrt x.real) (sqrtResult m dir x)) ∧
    rounded x.real (convertResult m dir x) ∧ rounded (v : ℝ) (fromInt m dir v) ∧
    rounded (signOf f * (x.real * y.real) + signOf g * z.real) (fusedResult m dir f g x y z) := by
  intro m hm dir n1 n2 n3 f g s1 s2 s3 e1 e2 e3 scale v
  obtain ⟨hE, hp⟩ := format_bounds m hm
  exact ⟨sum_rounded hE hp dir n1 n2 s1 s2 e1 e2 scale, product_rounded hE hp dir f n1 n2 s1 s2 e1 e2,
    quotient_rounded hE hp dir n1 n2 s1 s2 e1 e2, fun hx _ => sqrt_rounded hE hp dir n1 s1 e1 hx,
    convert_rounded hE hp dir n1 s1 e1, fromInt_rounded hE hp dir v,
    fused_rounded hE hp dir f g n1 n2 n3 s1 s2 s3 e1 e2 e3⟩

/-- Settles O53: each row ends as its result says, and each finite exact result is rounded once. -/
theorem floatArithmetic : Obligations.FloatArithmetic := by
  refine ⟨?_, finite_rounded⟩
  intro s rd rs1 rs2 rs3 hfpu standard ends
  refine ⟨?_, ?_, ?_, ?_⟩
  · intro r hr hq hnumber a b
    rcases exec_fpBinaryRows rd rs1 rs2 s r hr with h | h
    · exact h ▸ fpBinary_ends hfpu hq r.2.2.2.2 r.2.2.2.1
    · exact absurd (hnumber h.instr) (Nat.not_lt.mpr h.number)
  · intro r hr hq
    rcases fpUnaryRows_kind r hr with h | ⟨toFormat, h⟩
    · exact unary_root hfpu h hq
    · exact unary_conversion hfpu h hq
  · intro r hr hq
    exact endsAs_of_complete (exec_fpFromIntRows hfpu rd rs2 r hr hq) (even_of_usable hq (by simp))
  · intro r hr
    obtain ⟨hp, h⟩ := exec_fpFusedRows rd rs1 rs2 rs3 s r hr
    exact h ▸ fpFused_ends hfpu hp rd rs1 rs2 rs3 r.2.2.2.2 r.2.2.1 r.2.2.2.1

end Sys2Proof.Machine
end

section
/-!
PROOF. The lane-wise VIS instructions: what the model does in a lane is the lane function of its rule.
-/

namespace Sys2Proof.Machine

open Sys2Proof

/-! ## Lane functions -/

theorem wrapLane_add (w : Nat) : wrapLane w (· + ·) = fun a b => a + b := by
  funext a b
  rw [wrapLane, BitVec.ofInt_add, BitVec.ofInt_toInt, BitVec.ofInt_toInt]

theorem wrapLane_sub (w : Nat) : wrapLane w (· - ·) = fun a b => a - b := by
  funext a b
  rw [wrapLane, Int.sub_eq_add_neg, BitVec.ofInt_add, BitVec.ofInt_neg, BitVec.ofInt_toInt, BitVec.ofInt_toInt,
    BitVec.sub_eq_add_neg]

theorem clip_eq {lo hi : Int} (h : lo ≤ hi) (x : Int) : clip lo hi x = max lo (min hi x) := by
  rw [clip]
  omega

theorem signedSat_eq (w : Nat) (x : Int) : signedSat w x = BitVec.ofInt w (clampSigned w x) := by
  have h : (0 : Int) < 2 ^ (w - 1) := by positivity
  rw [signedSat, clampSigned, clip_eq (by omega)]

theorem unsignedSat_eq (w : Nat) (x : Int) : unsignedSat w x = BitVec.ofInt w (clampUnsigned w x) := by
  have h : (0 : Int) < 2 ^ w := by positivity
  rw [unsignedSat, clampUnsigned, clip_eq (by omega)]

theorem satLane_add (w : Nat) : satLane w (· + ·) = addSat := by
  funext a b
  exact (signedSat_eq w _).symm

theorem satLane_sub (w : Nat) : satLane w (· - ·) = subSat := by
  funext a b
  exact (signedSat_eq w _).symm

theorem usatLane_add (w : Nat) : usatLane w (· + ·) = addUsat := by
  funext a b
  exact (unsignedSat_eq w _).symm

theorem usatLane_sub (w : Nat) : usatLane w (· - ·) = subUsat := by
  funext a b
  exact (unsignedSat_eq w _).symm

theorem maxSigned_eq (w : Nat) :
    (fun a b : BitVec w => if b.toInt ≤ a.toInt then a else b) = pickMax BitVec.slt := by
  funext a b
  simp only [pickMax, BitVec.slt, decide_eq_true_iff, ← not_le, ite_not]

theorem maxUnsigned_eq (w : Nat) :
    (fun a b : BitVec w => if b.toNat ≤ a.toNat then a else b) = pickMax BitVec.ult := by
  funext a b
  simp only [pickMax, BitVec.ult, decide_eq_true_iff, ← not_le, ite_not]

theorem minSigned_eq (w : Nat) :
    (fun a b : BitVec w => if a.toInt ≤ b.toInt then a else b) = pickMin BitVec.slt := by
  funext a b
  rcases lt_trichotomy a.toInt b.toInt with h | h | h
  · simp only [pickMin, BitVec.slt, decide_eq_true h, if_pos h.le, if_true]
  · rw [BitVec.toInt_inj.mp h]
    simp only [pickMin, ite_self]
  · simp only [pickMin, BitVec.slt, decide_eq_false h.not_gt, if_neg h.not_ge, Bool.false_eq_true, if_false]

theorem minUnsigned_eq (w : Nat) :
    (fun a b : BitVec w => if a.toNat ≤ b.toNat then a else b) = pickMin BitVec.ult := by
  funext a b
  rcases lt_trichotomy a.toNat b.toNat with h | h | h
  · simp only [pickMin, BitVec.ult, decide_eq_true h, if_pos h.le, if_true]
  · rw [BitVec.eq_of_toNat_eq h]
    simp only [pickMin, ite_self]
  · simp only [pickMin, BitVec.ult, decide_eq_false h.not_gt, if_neg h.not_ge, Bool.false_eq_true, if_false]

theorem shiftBy_left (w : Nat) :
    shiftBy w (fun a n => BitVec.ofNat w (a.toNat * 2 ^ n)) = shiftLane (fun a n => a <<< n) := by
  funext a b
  apply BitVec.eq_of_toNat_eq
  rw [shiftBy, shiftLane, BitVec.toNat_ofNat, BitVec.toNat_shiftLeft, Nat.shiftLeft_eq]

theorem shiftBy_right (w : Nat) :
    shiftBy w (fun a n => BitVec.ofNat w (a.toNat / 2 ^ n)) = shiftLane (fun a n => a >>> n) := by
  funext a b
  apply BitVec.eq_of_toNat_eq
  rw [shiftBy, shiftLane, BitVec.toNat_ofNat, BitVec.toNat_ushiftRight, Nat.shiftRight_eq_div_pow]
  exact Nat.mod_eq_of_lt ((Nat.div_le_self _ _).trans_lt a.isLt)

theorem shiftBy_arithmetic (w : Nat) :
    shiftBy w (fun a n => BitVec.ofInt w (a.toInt / 2 ^ n)) = shiftLane BitVec.sshiftRight := by
  funext a b
  exact (sshiftRight_eq_ofInt a _).symm

theorem shiftBy_saturated (w : Nat) :
    shiftBy w (fun a n => BitVec.ofInt w (clampSigned w (a.toInt * 2 ^ n))) = shiftLane shiftLeftSat := by
  funext a b
  exact (signedSat_eq w _).symm

/-! ## Rows that write F registers -/

/-- A row whose instruction writes a double, lane by lane. -/
structure LaneFD (r : LaneRow) (f : Word64 → Word64 → Word64) : Prop where
  runs : ∀ rd rs1 rs2 s, exec (r.make rd rs1 rs2) s = fd2 f rd rs1 rs2 s
  lanes : ∀ a b k, k < 64 / r.width → lane r.width k (f a b) = r.op (lane r.width k a) (lane r.width k b)

/-- A row whose instruction writes a single, lane by lane. -/
structure LaneFS (r : LaneRow) (f : Word32 → Word32 → Word32) : Prop where
  runs : ∀ rd rs1 rs2 s, exec (r.make rd rs1 rs2) s = fs2 f rd rs1 rs2 s
  lanes : ∀ a b k, k < 32 / r.width → lane r.width k (f a b) = r.op (lane r.width k a) (lane r.width k b)

/-- The one lane that is the whole word. -/
theorem lane_whole {n k : Nat} (h : k < n / n) (x : BitVec n) : lane n k x = x := by
  have hk : k = 0 := by
    rcases Nat.eq_zero_or_pos n with rfl | hn
    · exact absurd h (Nat.not_lt_zero k)
    · rw [Nat.div_self hn] at h
      exact Nat.lt_one_iff.mp h
  subst hk
  exact field_self x

theorem laneFD_of_zip {make : Three} {w : Nat} {op g : BitVec w → BitVec w → BitVec w} (hop : op = g)
    (hw : 64 % w = 0) (hruns : ∀ rd rs1 rs2 s, exec (make rd rs1 rs2) s = fd2 (zipLanes w g) rd rs1 rs2 s) :
    ∃ f, LaneFD ⟨make, w, op⟩ f := by
  subst hop
  exact ⟨_, hruns, fun a b k hk => lane_zipLanes hw op a b hk⟩

theorem laneFS_of_zip {make : Three} {w : Nat} {op g : BitVec w → BitVec w → BitVec w} (hop : op = g)
    (hw : 32 % w = 0) (hruns : ∀ rd rs1 rs2 s, exec (make rd rs1 rs2) s = fs2 (zipLanes w g) rd rs1 rs2 s) :
    ∃ f, LaneFS ⟨make, w, op⟩ f := by
  subst hop
  exact ⟨_, hruns, fun a b k hk => lane_zipLanes hw op a b hk⟩

theorem laneFD_of_whole {make : Three} {op : Word64 → Word64 → Word64}
    (hruns : ∀ rd rs1 rs2 s, exec (make rd rs1 rs2) s = fd2 op rd rs1 rs2 s) : ∃ f, LaneFD ⟨make, 64, op⟩ f :=
  ⟨op, hruns, fun a b k hk => by rw [lane_whole hk, lane_whole hk, lane_whole hk]⟩

theorem laneFS_of_whole {make : Three} {op : Word32 → Word32 → Word32}
    (hruns : ∀ rd rs1 rs2 s, exec (make rd rs1 rs2) s = fs2 op rd rs1 rs2 s) : ∃ f, LaneFS ⟨make, 32, op⟩ f :=
  ⟨op, hruns, fun a b k hk => by rw [lane_whole hk, lane_whole hk, lane_whole hk]⟩

theorem laneRows_lanes : ∀ r ∈ laneRows, ∃ f, LaneFD r f := by
  have zip {make : Three} {w : Nat} {op g : BitVec w → BitVec w → BitVec w} := @laneFD_of_zip make w op g
  have whole {make : Three} {op : Word64 → Word64 → Word64} := @laneFD_of_whole make op
  simp only [laneRows, List.forall_mem_cons]
  exact ⟨zip (wrapLane_add _) rfl fun _ _ _ _ => rfl, zip (wrapLane_add _) rfl fun _ _ _ _ => rfl,
    zip (wrapLane_add _) rfl fun _ _ _ _ => rfl, zip (wrapLane_add _) rfl fun _ _ _ _ => rfl,
    zip (wrapLane_sub _) rfl fun _ _ _ _ => rfl, zip (wrapLane_sub _) rfl fun _ _ _ _ => rfl,
    zip (wrapLane_sub _) rfl fun _ _ _ _ => rfl, zip (wrapLane_sub _) rfl fun _ _ _ _ => rfl,
    zip (satLane_add _) rfl fun _ _ _ _ => rfl, zip (satLane_add _) rfl fun _ _ _ _ => rfl,
    zip (satLane_add _) rfl fun _ _ _ _ => rfl, zip (satLane_sub _) rfl fun _ _ _ _ => rfl,
    zip (satLane_sub _) rfl fun _ _ _ _ => rfl, zip (satLane_sub _) rfl fun _ _ _ _ => rfl,
    zip (usatLane_add _) rfl fun _ _ _ _ => rfl, zip (usatLane_add _) rfl fun _ _ _ _ => rfl,
    zip (usatLane_sub _) rfl fun _ _ _ _ => rfl, zip (usatLane_sub _) rfl fun _ _ _ _ => rfl,
    zip (maxSigned_eq _) rfl fun _ _ _ _ => rfl, zip (maxSigned_eq _) rfl fun _ _ _ _ => rfl,
    zip (maxSigned_eq _) rfl fun _ _ _ _ => rfl, zip (maxUnsigned_eq _) rfl fun _ _ _ _ => rfl,
    zip (maxUnsigned_eq _) rfl fun _ _ _ _ => rfl, zip (maxUnsigned_eq _) rfl fun _ _ _ _ => rfl,
    zip (minSigned_eq _) rfl fun _ _ _ _ => rfl, zip (minSigned_eq _) rfl fun _ _ _ _ => rfl,
    zip (minSigned_eq _) rfl fun _ _ _ _ => rfl, zip (minUnsigned_eq _) rfl fun _ _ _ _ => rfl,
    zip (minUnsigned_eq _) rfl fun _ _ _ _ => rfl, zip (minUnsigned_eq _) rfl fun _ _ _ _ => rfl,
    zip rfl rfl fun _ _ _ _ => rfl, zip rfl rfl fun _ _ _ _ => rfl, zip rfl rfl fun _ _ _ _ => rfl,
    zip rfl rfl fun _ _ _ _ => rfl, zip (shiftBy_left _) rfl fun _ _ _ _ => rfl,
    zip (shiftBy_left _) rfl fun _ _ _ _ => rfl, zip (shiftBy_right _) rfl fun _ _ _ _ => rfl,
    zip (shiftBy_right _) rfl fun _ _ _ _ => rfl, zip (shiftBy_arithmetic _) rfl fun _ _ _ _ => rfl,
    zip (shiftBy_arithmetic _) rfl fun _ _ _ _ => rfl, zip (shiftBy_saturated _) rfl fun _ _ _ _ => rfl,
    zip (shiftBy_saturated _) rfl fun _ _ _ _ => rfl, whole fun _ _ _ _ => rfl, whole fun _ _ _ _ => rfl,
    whole fun _ _ _ _ => rfl, whole fun _ _ _ _ => rfl, whole fun _ _ _ _ => rfl, whole fun _ _ _ _ => rfl,
    whole fun _ _ _ _ => rfl, whole fun _ _ _ _ => rfl, whole fun _ _ _ _ => rfl, whole fun _ _ _ _ => rfl, fun _ h => absurd h List.not_mem_nil⟩

theorem laneSRows_lanes : ∀ r ∈ laneSRows, ∃ f, LaneFS r f := by
  have zip {make : Three} {w : Nat} {op g : BitVec w → BitVec w → BitVec w} := @laneFS_of_zip make w op g
  have whole {make : Three} {op : Word32 → Word32 → Word32} := @laneFS_of_whole make op
  simp only [laneSRows, List.forall_mem_cons]
  exact ⟨zip (wrapLane_add _) rfl fun _ _ _ _ => rfl, zip (wrapLane_add _) rfl fun _ _ _ _ => rfl,
    zip (wrapLane_sub _) rfl fun _ _ _ _ => rfl, zip (wrapLane_sub _) rfl fun _ _ _ _ => rfl,
    zip (satLane_add _) rfl fun _ _ _ _ => rfl, zip (satLane_add _) rfl fun _ _ _ _ => rfl,
    zip (satLane_sub _) rfl fun _ _ _ _ => rfl, zip (satLane_sub _) rfl fun _ _ _ _ => rfl,
    whole fun _ _ _ _ => rfl, whole fun _ _ _ _ => rfl, whole fun _ _ _ _ => rfl, whole fun _ _ _ _ => rfl,
    whole fun _ _ _ _ => rfl, whole fun _ _ _ _ => rfl, whole fun _ _ _ _ => rfl, whole fun _ _ _ _ => rfl,
    whole fun _ _ _ _ => rfl, whole fun _ _ _ _ => rfl, fun _ h => absurd h List.not_mem_nil⟩

/-! ## Rows that write a bit of R[rd] for each lane -/

/-- The value of a row of lanes fits in their widths. -/
theorem foldLanes_lt {w : Nat} (g : Nat → BitVec w) (l : List Nat) :
    l.foldr (fun k acc => (g k).toNat + 2 ^ w * acc) 0 < 2 ^ (w * l.length) := by
  induction l with
  | nil => exact Nat.two_pow_pos _
  | cons k l ih =>
    rw [List.foldr_cons, List.length_cons, Nat.mul_succ, Nat.add_comm (w * _), pow_add]
    calc
      _ < 2 ^ w + 2 ^ w * l.foldr (fun k acc => (g k).toNat + 2 ^ w * acc) 0 := Nat.add_lt_add_right (g k).isLt _
      _ = 2 ^ w * (l.foldr (fun k acc => (g k).toNat + 2 ^ w * acc) 0 + 1) := by rw [Nat.mul_succ, Nat.add_comm]
      _ ≤ 2 ^ w * 2 ^ (w * l.length) := Nat.mul_le_mul_left _ ih

/-- Lanes in a wider word have zeros above them. -/
theorem buildLanes_wider (n : Nat) {w count : Nat} (g : Nat → BitVec w) :
    buildLanes n w count g = (buildLanes (w * count) w count g).setWidth n := by
  have hlt := foldLanes_lt g (List.range count)
  rw [List.length_range] at hlt
  apply BitVec.eq_of_toNat_eq
  rw [buildLanes, buildLanes, BitVec.toNat_setWidth, BitVec.toNat_ofNat, BitVec.toNat_ofNat, Nat.mod_eq_of_lt hlt]

theorem bit_compareLanes {w : Nat} (cmp : BitVec w → BitVec w → Bool) (a b : Word64) (k : Nat) :
    bit (compareLanes w cmp a b) k = (decide (k < 64 / w) && cmp (lane w k a) (lane w k b)) := by
  have hle : 64 / w ≤ 64 := Nat.div_le_self 64 w
  rw [compareLanes, buildLanes_wider, bit, BitVec.getLsbD_setWidth]
  by_cases hk : k < 64 / w
  · have hbit := bit_buildLanes_one (64 / w) (fun j => cmp (lane w j a) (lane w j b)) hk
    rw [decide_eq_true hk, decide_eq_true (hk.trans_le hle), Bool.true_and, Bool.true_and, ← hbit, Nat.one_mul]
    rfl
  · rw [decide_eq_false hk, Bool.false_and, BitVec.getLsbD_of_ge _ _ (by omega), Bool.and_false]

/-- A row whose instruction compares lane by lane. -/
structure LaneCompare (r : CompareRow) (cmp : BitVec r.width → BitVec r.width → Bool) : Prop where
  runs : ∀ rd rs1 rs2 s, exec (r.make rd rs1 rs2) s = fdToR (compareLanes r.width cmp) rd rs1 rs2 s
  test : r.test = cmp

theorem bne_eq (w : Nat) : (fun a b : BitVec w => decide (a ≠ b)) = fun a b => a != b := by
  funext a b
  exact decide_not

theorem laneCompareRows_lanes : ∀ r ∈ laneCompareRows, ∃ cmp, LaneCompare r cmp := by
  have row {make : Three} {w : Nat} {test cmp : BitVec w → BitVec w → Bool} (htest : test = cmp)
      (hruns : ∀ rd rs1 rs2 s, exec (make rd rs1 rs2) s = fdToR (compareLanes w cmp) rd rs1 rs2 s) :
      ∃ cmp, LaneCompare ⟨make, w, test⟩ cmp := ⟨cmp, hruns, htest⟩
  simp only [laneCompareRows, List.forall_mem_cons]
  exact ⟨row rfl fun _ _ _ _ => rfl, row rfl fun _ _ _ _ => rfl,
    row rfl fun _ _ _ _ => rfl, row rfl fun _ _ _ _ => rfl,
    row rfl fun _ _ _ _ => rfl, row rfl fun _ _ _ _ => rfl,
    row rfl fun _ _ _ _ => rfl, row rfl fun _ _ _ _ => rfl,
    row rfl fun _ _ _ _ => rfl, row (bne_eq _) fun _ _ _ _ => rfl,
    row (bne_eq _) fun _ _ _ _ => rfl, row (bne_eq _) fun _ _ _ _ => rfl,
    row rfl fun _ _ _ _ => rfl, row rfl fun _ _ _ _ => rfl,
    row rfl fun _ _ _ _ => rfl, row rfl fun _ _ _ _ => rfl,
    row rfl fun _ _ _ _ => rfl, row rfl fun _ _ _ _ => rfl, fun _ h => absurd h List.not_mem_nil⟩

/-- Settles O55: each row works lane by lane. -/
theorem laneInstructions : Obligations.LaneInstructions := by
  intro s rd rs1 rs2 hfpu
  refine ⟨fun r hr => ?_, fun r hr => ?_, fun r hr => ?_⟩
  · obtain ⟨f, h⟩ := laneRows_lanes r hr
    refine ⟨f (readFD s rs1) (readFD s rs2), ?_, h.lanes _ _⟩
    rw [h.runs, fd2, toFD_eq, if_pos hfpu]
    exact nextWithFD_writeFD (advance s) rd _
  · obtain ⟨f, h⟩ := laneSRows_lanes r hr
    refine ⟨f (readFS s rs1) (readFS s rs2), ?_, h.lanes _ _⟩
    rw [h.runs, fs2, toFS_eq, if_pos hfpu]
    exact nextWithFS_writeFS (advance s) rd _
  · obtain ⟨cmp, h⟩ := laneCompareRows_lanes r hr
    refine ⟨compareLanes r.width cmp (readFD s rs1) (readFD s rs2), ?_, fun k => ?_⟩
    · rw [h.runs, fdToR, toR_eq, if_pos hfpu]
      exact nextWithR_advance s rd _
    · rw [bit_compareLanes, h.test]

end Sys2Proof.Machine
end
section
/-!
PROOF. The other VIS instructions: the values of the model are those of the rules, byte by byte or as numbers.
-/

namespace Sys2Proof.Machine

open Sys2Proof

/-! ## Words and their lanes -/

theorem buildLanes_congr {n w count : Nat} {g h : Nat → BitVec w} (heq : ∀ k < count, g k = h k) :
    buildLanes n w count g = buildLanes n w count h := by
  have hfold : ∀ l : List Nat, (∀ k ∈ l, k < count) → l.foldr (fun k acc => (g k).toNat + 2 ^ w * acc) 0 =
      l.foldr (fun k acc => (h k).toNat + 2 ^ w * acc) 0 := by
    intro l hl
    induction l with
    | nil => rfl
    | cons k l ih =>
      rw [List.forall_mem_cons] at hl
      rw [List.foldr_cons, List.foldr_cons, ih hl.2, heq k hl.1]
  exact congrArg (BitVec.ofNat n) (hfold _ fun k hk => List.mem_range.mp hk)

/-- A word is the row of its lanes. -/
theorem eq_of_lanes {w count : Nat} (hw : 0 < w) {x y : BitVec (w * count)}
    (h : ∀ k < count, lane w k x = lane w k y) : x = y := by
  apply BitVec.eq_of_getLsbD_eq
  intro i hi
  have hk : i / w < count := Nat.div_lt_of_lt_mul hi
  have hbit := congrArg (fun z => z.getLsbD (i % w)) (h (i / w) hk)
  simp only [lane, field, BitVec.getLsbD_extractLsb', Nat.mod_lt i hw, decide_true, Bool.true_and,
    Nat.div_add_mod] at hbit
  exact hbit

theorem buildLanes_lane {w count : Nat} (hw : 0 < w) {g : Nat → BitVec w} {x : BitVec (w * count)}
    (h : ∀ k < count, g k = lane w k x) : buildLanes (w * count) w count g = x :=
  eq_of_lanes hw fun k hk => (lane_buildLanes rfl g hk).trans (h k hk)

/-! ## Values -/

/-- Eight bytes from byte `k` of two doubles on. -/
theorem alignBytes_eq (hi lo : Word64) {k : Nat} (hk : k < 8) :
    alignBytes hi lo k = buildLanes 64 8 8 fun j => byteOf hi lo (7 - j + k) := by
  refine (buildLanes_lane (w := 8) (count := 8) (by decide) fun j hj => ?_).symm
  rw [byteOf, alignBytes, lane, field_field _ (by omega)]
  congr 1
  omega

theorem toNat_lowBits (v : Word64) : (field v 0 3).toNat = v.toNat % 8 :=
  (toNat_field v 0 3).trans (by rw [pow_zero, Nat.div_one]; rfl)

theorem expandBytes_eq (x : Word32) :
    expandBytes x = buildLanes 64 16 4 fun k => BitVec.ofNat 16 (16 * (lane 8 k x).toNat) := by
  refine buildLanes_congr fun k _ => BitVec.eq_of_toNat_eq ?_
  have hlt := (lane 8 k x).isLt
  rw [BitVec.toNat_shiftLeft, BitVec.toNat_setWidth, Nat.shiftLeft_eq, BitVec.toNat_ofNat,
    Nat.mod_eq_of_lt (hlt.trans (by decide)), Nat.mul_comm]

/-- The bytes of a halfword. -/
theorem field_lane {n : Nat} (x : BitVec n) (j : Nat) :
    field (lane 16 j x) 8 8 = lane 8 (2 * j + 1) x ∧ field (lane 16 j x) 0 8 = lane 8 (2 * j) x := by
  rw [lane, lane, lane, field_field _ (by decide), field_field _ (by decide)]
  constructor
  · congr 1
    omega
  · congr 1
    omega

theorem toNat_multiplyAdd (a b c : Word64) : (multiplyAdd a b c).toNat = a.toNat * b.toNat + c.toNat := by
  have ha := a.isLt
  have hb := b.isLt
  have hc := c.isLt
  have hmul : a.toNat * b.toNat ≤ (2 ^ 64 - 1) * (2 ^ 64 - 1) := Nat.mul_le_mul (by omega) (by omega)
  rw [multiplyAdd, BitVec.toNat_add, BitVec.toNat_mul, BitVec.toNat_setWidth, BitVec.toNat_setWidth,
    BitVec.toNat_setWidth, Nat.mod_eq_of_lt (a := a.toNat) (by omega), Nat.mod_eq_of_lt (a := b.toNat) (by omega),
    Nat.mod_eq_of_lt (a := c.toNat) (by omega), Nat.mod_eq_of_lt (a := a.toNat * b.toNat) (by omega),
    Nat.mod_eq_of_lt (by omega)]

/-- A field of a word as a number. -/
theorem field_eq_ofNat {n : Nat} (x : BitVec n) (lo len : Nat) :
    field x lo len = BitVec.ofNat len (x.toNat / 2 ^ lo) := by
  apply BitVec.eq_of_toNat_eq
  rw [toNat_field, BitVec.toNat_ofNat]

theorem field_zero_eq_ofNat {n : Nat} (x : BitVec n) (len : Nat) : field x 0 len = BitVec.ofNat len x.toNat := by
  rw [field_eq_ofNat, pow_zero, Nat.div_one]

/-! ## Rows -/

theorem exec_visDoubleRows (rd rs1 rs2 rs3 : BitVec 5) (s : State) :
    ∀ r ∈ visDoubleRows, exec (r.1 rd rs1 rs2 rs3) s = toFD rd (r.2 s rd rs1 rs2 rs3) s := by
  have value {x y : Word64} (h : x = y) : toFD rd x s = toFD rd y s := congrArg (toFD rd · s) h
  simp only [visDoubleRows, List.forall_mem_cons]
  refine ⟨rfl, value (alignBytes_eq _ _ s.gsr.align.isLt), value ?_, value (expandBytes_eq _), rfl, rfl, rfl, value ?_,
    value ?_, rfl, rfl, rfl, value ?_, value ?_, rfl, rfl, rfl, rfl, rfl, rfl, rfl,
    fun _ h => absurd h List.not_mem_nil⟩
  · rw [toNat_lowBits]
    exact alignBytes_eq _ _ (Nat.mod_lt _ (by decide))
  · refine buildLanes_congr fun j _ => ?_
    rw [(field_lane _ j).1]
    rfl
  · refine buildLanes_congr fun j _ => ?_
    rw [(field_lane _ j).2]
  · rw [field_zero_eq_ofNat, toNat_multiplyAdd]
  · rw [field_eq_ofNat, toNat_multiplyAdd]

theorem exec_visSingleRows (rd rs1 rs2 : BitVec 5) (s : State) :
    ∀ r ∈ visSingleRows, exec (r.1 rd rs1 rs2) s = toFS rd (r.2 s rs1 rs2) s := by
  simp only [visSingleRows, List.forall_mem_cons]
  exact ⟨rfl, rfl, rfl, rfl, rfl, rfl, rfl, rfl, congrArg (toFS rd · s) (field_zero_eq_ofNat _ _),
    fun _ h => absurd h List.not_mem_nil⟩

theorem exec_visIntRows (rd rs1 rs2 : BitVec 5) (s : State) :
    ∀ r ∈ visIntRows, exec (r.1 rd rs1 rs2) s = toR rd (r.2 s rs1 rs2) s := by
  simp only [visIntRows, List.forall_mem_cons]
  exact ⟨rfl, congrArg (toR rd · s) (zext64_eq_ofNat _), rfl, rfl, fun _ h => absurd h List.not_mem_nil⟩

/-! ## GSR -/

/-- Clearing the low three bits of an address. -/
theorem and_not_seven (v : Word64) : v &&& ~~~7 = BitVec.ofNat 64 (v.toNat / 8 * 8) := by
  apply BitVec.eq_of_getLsbD_eq
  intro i hi
  have hseven : (7 : Word64).getLsbD i = decide (i < 3) := by
    exact Nat.testBit_two_pow_sub_one 3 i
  have hshift : (v.toNat / 8 * 8).testBit i = (decide (3 ≤ i) && v.toNat.testBit (i - 3 + 3)) := by
    rw [← Nat.testBit_div_two_pow]
    exact Nat.testBit_mul_two_pow _ i 3
  rw [BitVec.getLsbD_and, BitVec.getLsbD_not, hseven, BitVec.getLsbD_ofNat, decide_eq_true hi, hshift]
  by_cases h : i < 3
  · rw [decide_eq_true h, decide_eq_false (Nat.not_le.mpr h), Bool.not_true, Bool.and_false, Bool.and_false,
      Bool.false_and, Bool.and_false]
  · rw [decide_eq_false h, decide_eq_true (Nat.not_lt.mp h), Nat.sub_add_cancel (Nat.not_lt.mp h)]
    simp only [Bool.not_false, Bool.and_true, Bool.true_and]
    rfl

theorem neg_lowBits (v : Word64) : -(field v 0 3) = BitVec.ofNat 3 (8 - v.toNat % 8) := by
  apply BitVec.eq_of_toNat_eq
  rw [BitVec.toNat_neg, toNat_lowBits, BitVec.toNat_ofNat]

/-- A CMASK instruction: each element of GSR.mask is chosen by its bit of R[rs2]. -/
theorem toMask_choose {s : State} (hfpu : fpuEnabled s = true) {w : Nat} (hw : 32 % w = 0) {f g : Nat → BitVec w}
    {ones zeros : List (BitVec w)} (v : Word64) (hones : ∀ j < 32 / w, f j = ones.getD j 0)
    (hzeros : ∀ j < 32 / w, g j = zeros.getD j 0) :
    ∃ m, toMask (chooseMask w f g v) s = .next { advance s with gsr := { s.gsr with mask := m } } ∧
      ∀ j, j < 32 / w → lane w j m = (if bit v j then ones else zeros).getD j 0 := by
  refine ⟨chooseMask w f g v, ?_, fun j hj => ?_⟩
  · rw [toMask_eq, if_pos hfpu]
    rfl
  · rw [chooseMask, lane_buildLanes (by rw [Nat.mul_div_cancel' (Nat.dvd_of_mod_eq_zero hw)]) _ hj]
    split
    · exact hones j hj
    · exact hzeros j hj

/-- An instruction that writes R[rd] and GSR. -/
theorem nextWithR_gsr {s : State} (hfpu : fpuEnabled s = true) (rd : Reg) {x v : Word64} {gsr gsr' : Gsr} (hv : x = v)
    (hgsr : gsr = gsr') : nextWithR (toRGsr rd x gsr s) { advance s with gsr := gsr' } rd v := by
  subst hv hgsr
  rw [toRGsr_eq, if_pos hfpu]
  refine nextWithR_files (s := s) rfl rfl rfl rfl ?_
  rw [writeR_shape]
  rfl

/-- Settles O56: each row writes its value, and the instructions on GSR set align and mask. -/
theorem visResults : Obligations.VisResults := by
  refine ⟨fun s rd rs1 rs2 rs3 hfpu => ⟨fun r hr => ?_, fun r hr => ?_, fun r hr => ?_⟩,
    fun s rd rs1 rs2 hfpu => ⟨?_, ?_, ?_, ?_, ?_, ?_⟩⟩
  · rw [exec_visDoubleRows rd rs1 rs2 rs3 s r hr, toFD_eq, if_pos hfpu]
    exact nextWithFD_writeFD (advance s) rd _
  · rw [exec_visSingleRows rd rs1 rs2 s r hr, toFS_eq, if_pos hfpu]
    exact nextWithFS_writeFS (advance s) rd _
  · rw [exec_visIntRows rd rs1 rs2 s r hr, toR_eq, if_pos hfpu]
    exact nextWithR_advance s rd _
  · exact nextWithR_gsr hfpu rd (and_not_seven _) (field_zero_eq_ofNat _ 3 ▸ rfl)
  · exact nextWithR_gsr hfpu rd (and_not_seven _) (neg_lowBits _ ▸ rfl)
  · exact nextWithR_gsr hfpu rd rfl (field_zero_eq_ofNat _ 32 ▸ rfl)
  · exact toMask_choose hfpu (by decide) _ (by decide) (by decide)
  · exact toMask_choose hfpu (by decide) _ (by decide) (by decide)
  · exact toMask_choose hfpu (by decide) _ (by decide) (by decide)

end Sys2Proof.Machine
end
section
/-!
PROOF. The EDGE and ARRAY instructions: masks and blocked addresses, bit by bit.
-/

namespace Sys2Proof.Machine

open Sys2Proof

/-! ## Edge masks -/

/-- A run of ones from bit `lo` up to bit `hi`. -/
theorem testBit_ones {lo hi : Nat} (h : lo ≤ hi) (k : Nat) :
    (2 ^ hi - 2 ^ lo).testBit k = true ↔ lo ≤ k ∧ k < hi := by
  have hfactor : 2 ^ hi - 2 ^ lo = (2 ^ (hi - lo) - 1) * 2 ^ lo := by
    rw [Nat.sub_mul, ← pow_add, Nat.sub_add_cancel h, Nat.one_mul]
  rw [hfactor, Nat.testBit_mul_two_pow, Nat.testBit_two_pow_sub_one, Bool.and_eq_true, decide_eq_true_iff,
    decide_eq_true_iff]
  omega

/-- The number of the pixel that bit `k` of an edge mask belongs to. -/
def pixelOf (size : Nat) (little : Bool) (k : Nat) : Nat := if little then k else 64 / size - 1 - k

theorem testBit_leftMask {size : Nat} {little : Bool} {v : Word64} {e : Nat} (he : v.toNat % 8 / (size / 8) = e)
    (hlt : e < 64 / size) (k : Nat) :
    (leftMask size little v).testBit k = true ↔ k < 64 / size ∧ e ≤ pixelOf size little k := by
  rw [leftMask, he]
  cases little
  · rw [if_neg Bool.false_ne_true, Nat.testBit_two_pow_sub_one, decide_eq_true_iff, pixelOf, if_neg Bool.false_ne_true]
    omega
  · rw [if_pos rfl, testBit_ones hlt.le, pixelOf, if_pos rfl, and_comm]

theorem testBit_rightMask {size : Nat} {little : Bool} {v : Word64} {e : Nat} (he : v.toNat % 8 / (size / 8) = e)
    (hlt : e < 64 / size) (k : Nat) :
    (rightMask size little v).testBit k = true ↔ k < 64 / size ∧ pixelOf size little k ≤ e := by
  rw [rightMask, he]
  cases little
  · rw [if_neg Bool.false_ne_true, testBit_ones (by omega), pixelOf, if_neg Bool.false_ne_true]
    omega
  · rw [if_pos rfl, Nat.testBit_two_pow_sub_one, decide_eq_true_iff, pixelOf, if_pos rfl]
    omega

/-- Two addresses lie in one doubleword. -/
theorem sameDouble_iff (am : Bool) (a b : Word64) :
    (if am then field a 3 29 == field b 3 29 else field a 3 61 == field b 3 61) = true ↔
      if am then a.toNat % 2 ^ 32 / 8 = b.toNat % 2 ^ 32 / 8 else a.toNat / 8 = b.toNat / 8 := by
  have ha := a.isLt
  have hb := b.isLt
  cases am
  · rw [if_neg Bool.false_ne_true, if_neg Bool.false_ne_true, beq_iff_eq, ← BitVec.toNat_inj, toNat_field, toNat_field]
    omega
  · rw [if_pos rfl, if_pos rfl, beq_iff_eq, ← BitVec.toNat_inj, toNat_field, toNat_field]
    omega

/-- The bits of an edge mask (R362). -/
theorem bit_edgeMask {size : Nat} {little am : Bool} {a1 a2 : Word64} {e1 e2 : Nat} (hsize : 64 / size ≤ 8)
    (h1 : a1.toNat % 8 / (size / 8) = e1) (h2 : a2.toNat % 8 / (size / 8) = e2) (hlt1 : e1 < 64 / size)
    (hlt2 : e2 < 64 / size) (k : Nat) :
    bit (edgeMask size little am a1 a2) k = true ↔ k < 64 / size ∧ e1 ≤ pixelOf size little k ∧
      ((if am then a1.toNat % 2 ^ 32 / 8 = a2.toNat % 2 ^ 32 / 8 else a1.toNat / 8 = a2.toNat / 8) →
        pixelOf size little k ≤ e2) := by
  rw [← sameDouble_iff, edgeMask, bit, BitVec.getLsbD_ofNat, Bool.and_eq_true, decide_eq_true_iff]
  generalize (if am then field a1 3 29 == field a2 3 29 else field a1 3 61 == field a2 3 61) = same
  cases same
  · rw [if_neg Bool.false_ne_true, testBit_leftMask h1 hlt1]
    simp only [Bool.false_eq_true, false_implies, and_true]
    omega
  · rw [if_pos rfl, Nat.testBit_and, Bool.and_eq_true, testBit_leftMask h1 hlt1, testBit_rightMask h2 hlt2]
    simp only [forall_const]
    omega

/-- A row of `edgeRows`: its instructions, and the sizes of its mask. -/
structure EdgeRow (r : Three × Three × Nat × Bool) : Prop where
  plain : ∀ rd rs1 rs2 s, exec (r.1 rd rs1 rs2) s = edge r.2.2.1 r.2.2.2 rd rs1 rs2 s
  codes : ∀ rd rs1 rs2 s, exec (r.2.1 rd rs1 rs2) s = edgeCc r.2.2.1 r.2.2.2 rd rs1 rs2 s
  narrow : 64 / r.2.2.1 ≤ 8
  element : ∀ a, a % 8 / (r.2.2.1 / 8) < 64 / r.2.2.1

theorem edgeRows_masks : ∀ r ∈ edgeRows, EdgeRow r := by
  have small {size : Nat} (hsize : size = 8 ∨ size = 16 ∨ size = 32) :
      64 / size ≤ 8 ∧ ∀ a, a % 8 / (size / 8) < 64 / size := by
    rcases hsize with rfl | rfl | rfl
    all_goals exact ⟨by decide, fun a => by omega⟩
  have row {r : Three × Three × Nat × Bool} (hsize : r.2.2.1 = 8 ∨ r.2.2.1 = 16 ∨ r.2.2.1 = 32)
      (h1 : ∀ rd rs1 rs2 s, exec (r.1 rd rs1 rs2) s = edge r.2.2.1 r.2.2.2 rd rs1 rs2 s)
      (h2 : ∀ rd rs1 rs2 s, exec (r.2.1 rd rs1 rs2) s = edgeCc r.2.2.1 r.2.2.2 rd rs1 rs2 s) : EdgeRow r :=
    ⟨h1, h2, (small hsize).1, (small hsize).2⟩
  simp only [edgeRows, List.forall_mem_cons]
  exact ⟨row (by decide) (fun _ _ _ _ => rfl) fun _ _ _ _ => rfl, row (by decide) (fun _ _ _ _ => rfl) fun _ _ _ _ => rfl,
    row (by decide) (fun _ _ _ _ => rfl) fun _ _ _ _ => rfl, row (by decide) (fun _ _ _ _ => rfl) fun _ _ _ _ => rfl,
    row (by decide) (fun _ _ _ _ => rfl) fun _ _ _ _ => rfl, row (by decide) (fun _ _ _ _ => rfl) fun _ _ _ _ => rfl,
    fun _ h => absurd h List.not_mem_nil⟩

/-! ## Blocked addresses -/

/-- The bits of a number made of its low `n` bits and the rest. -/
theorem testBit_low_high (x y n i : Nat) :
    (x % 2 ^ n + 2 ^ n * y).testBit i = if i < n then x.testBit i else y.testBit (i - n) := by
  rw [Nat.add_comm, Nat.testBit_two_pow_mul_add _ (Nat.mod_lt x (Nat.two_pow_pos n))]
  split
  next h => rw [Nat.testBit_mod_two_pow, decide_eq_true h, Bool.true_and]
  next => rfl

theorem testBit_field (a : Word64) (lo len i : Nat) :
    (field a lo len).toNat.testBit i = (decide (i < len) && bit a (lo + i)) := by
  rw [BitVec.testBit_toNat, field, BitVec.getLsbD_extractLsb']
  rfl

/-- The bit of R[rs1] that bit `i` of a blocked address comes from (R354). -/
def blockedSource (a : Word64) (n i : Nat) : Bool :=
  if i < 2 then bit a (11 + i) else if i < 4 then bit a (31 + i) else if i = 4 then bit a 55
  else if i < 9 then bit a (8 + i) else if i < 13 then bit a (26 + i) else if i < 17 then bit a (43 + i)
  else if i < 17 + n then bit a i else if i < 17 + 2 * n then bit a (22 + i - n)
  else if i < 21 + 2 * n then bit a (43 + i - 2 * n) else false

theorem blockedAddress_eq (a : Word64) (n : Nat) : blockedAddress a n =
    let x := (field a 11 11).toNat
    let y := (field a 33 11).toNat
    let z := (field a 55 9).toNat
    BitVec.ofNat 64 (x % 2 ^ 2 + 2 ^ 2 * (y % 2 ^ 2 + 2 ^ 2 * (z % 2 ^ 1 + 2 ^ 1 * (x / 2 ^ 2 % 2 ^ 4 + 2 ^ 4 *
      (y / 2 ^ 2 % 2 ^ 4 + 2 ^ 4 * (z / 2 ^ 1 % 2 ^ 4 + 2 ^ 4 * (x / 2 ^ 6 % 2 ^ n + 2 ^ n * (y / 2 ^ 6 % 2 ^ n + 2 ^ n *
        (z / 2 ^ 5))))))))) := by
  rw [blockedAddress]
  simp only
  congr 1
  rw [pow_add 2 17 n, show 17 + 2 * n = 17 + n + n by omega, pow_add, pow_add]
  ring_nf

theorem bit_blockedAddress (a : Word64) {n : Nat} (hn : n ≤ 5) {i : Nat} (hi : i < 64) :
    bit (blockedAddress a n) i = blockedSource a n i := by
  have inField {len k j j' : Nat} (hk : k < len) (hj : j = j') : (decide (k < len) && bit a j) = bit a j' := by
    rw [decide_eq_true hk, Bool.true_and, hj]
  rw [blockedAddress_eq, bit, BitVec.getLsbD_ofNat, decide_eq_true hi, Bool.true_and]
  simp only [testBit_low_high, Nat.testBit_div_two_pow, testBit_field, blockedSource]
  refine ite_congr rfl (fun _ => inField (by omega) (by omega)) fun h2 => ?_
  refine ite_congr (propext (by omega)) (fun _ => inField (by omega) (by omega)) fun h4 => ?_
  refine ite_congr (propext (by omega)) (fun _ => inField (by omega) (by omega)) fun h5 => ?_
  refine ite_congr (propext (by omega)) (fun _ => inField (by omega) (by omega)) fun h9 => ?_
  refine ite_congr (propext (by omega)) (fun _ => inField (by omega) (by omega)) fun h13 => ?_
  refine ite_congr (propext (by omega)) (fun _ => inField (by omega) (by omega)) fun h17 => ?_
  refine ite_congr (propext (by omega)) (fun _ => inField (by omega) (by omega)) fun hx => ?_
  refine ite_congr (propext (by omega)) (fun _ => inField (by omega) (by omega)) fun hy => ?_
  split
  · exact inField (by omega) (by omega)
  · rw [decide_eq_false (by omega), Bool.false_and]

theorem exec_arrayRows (rd rs1 rs2 : Reg) (s : State) : ∀ r ∈ arrayRows,
    ∃ shift, r.2 = 2 ^ shift ∧ exec (r.1 rd rs1 rs2) s = arrayAddress shift rd rs1 rs2 s := by
  have row {r : Three × Nat} (shift : Nat) (h : r.2 = 2 ^ shift)
      (hexec : exec (r.1 rd rs1 rs2) s = arrayAddress shift rd rs1 rs2 s) :
      ∃ shift, r.2 = 2 ^ shift ∧ exec (r.1 rd rs1 rs2) s = arrayAddress shift rd rs1 rs2 s := ⟨shift, h, hexec⟩
  rw [arrayRows]
  exact List.forall_mem_cons.mpr ⟨row 0 rfl rfl, List.forall_mem_cons.mpr ⟨row 1 rfl rfl,
    List.forall_mem_cons.mpr ⟨row 2 rfl rfl, fun _ h => absurd h List.not_mem_nil⟩⟩⟩

/-- Settles O57: edge masks and blocked addresses have the bits that the rules name. -/
theorem edgesAndArrays : Obligations.EdgesAndArrays := by
  refine ⟨fun s rd rs1 rs2 r hr => ?_, fun s rd rs1 rs2 r hr => ⟨fun hn => ?_, fun hn => ?_⟩⟩
  · have h := edgeRows_masks r hr
    refine ⟨edgeMask r.2.2.1 r.2.2.2 s.pstate.am (readR s rs1) (readR s rs2), ?_, ?_,
      bit_edgeMask h.narrow rfl rfl (h.element _) (h.element _)⟩
    · rw [h.plain]
      exact nextWithR_result s rd _
    · rw [h.codes, edgeCc, subFlags_eq]
      exact nextWithR_resultCc s rd _ _
  · obtain ⟨shift, hshift, hexec⟩ := exec_arrayRows rd rs1 rs2 s r hr
    refine ⟨blockedAddress (readR s rs1) (readR s rs2).toNat, fun i hi => bit_blockedAddress _ hn hi, ?_⟩
    rw [hexec, arrayAddress]
    simp only [if_pos hn]
    rw [shiftLeft_eq_ofNat, hshift, Nat.mul_comm]
    exact nextWithR_result s rd _
  · obtain ⟨shift, -, hexec⟩ := exec_arrayRows rd rs1 rs2 s r hr
    refine ⟨freeValue s, ?_⟩
    rw [hexec, arrayAddress]
    simp only [if_neg (Nat.not_le.mpr hn)]
    exact nextWithR_result (drawn s) rd _

end Sys2Proof.Machine
end

section
/-!
PROOF. The cryptographic and hash instructions: their checks, their destinations, and the words their operands are
cut into.
-/

namespace Sys2Proof.Machine

open Sys2Proof

/-! ## Instructions on one destination -/

/-- The checks and the completion of a cryptographic instruction on one destination. -/
def ChecksThenFD (o : Out) (s : State) (rd : DReg) (bitNo : Nat) (v : Word64) : Prop :=
  (bit s.par.cfr bitNo = false → o = takeTrap .compatibilityFeature s) ∧
  (bit s.par.cfr bitNo = true → fpuEnabled s = false → o = takeTrap .fpDisabled s) ∧
  (bit s.par.cfr bitNo = true → fpuEnabled s = true → nextWithFD o (advance s) rd v)

theorem cryptoResult_checks (bitNo : Nat) (rd : DReg) (v : Word64) (s : State) :
    ChecksThenFD (cryptoResult bitNo rd v s) s rd bitNo v := by
  rw [ChecksThenFD, cryptoResult_eq]
  refine ⟨fun h => ?_, fun h hfpu => ?_, fun h hfpu => ?_⟩
  · rw [h]; rfl
  · rw [h, hfpu]; rfl
  · rw [if_pos h, if_pos hfpu]
    exact nextWithFD_writeFD (advance s) rd v

theorem exec_cryptoRows (rd rs1 rs2 rs3 : BitVec 5) (s : State) : ∀ r ∈ cryptoRows, exec (r.1 rd rs1 rs2 rs3) s =
    cryptoResult r.2.1 rd (r.2.2 (readFD s rs1) (readFD s rs2) (readFD s rs3) rs3) s := by
  simp only [cryptoRows, List.forall_mem_cons]
  exact ⟨rfl, rfl, rfl, rfl, rfl, rfl, rfl, rfl, rfl, rfl, rfl, rfl, rfl, rfl, rfl, rfl, rfl,
    fun _ h => absurd h List.not_mem_nil⟩

theorem exec_CRC32C (rd rs1 rs2 : DReg) (s : State) : exec (.CRC32C rd rs1 rs2) s =
    cryptoResult 11 rd (crcResult (crcStep s.par) (readFD s rs1) (readFD s rs2)) s := rfl

theorem crcStep_iscsi {par : Config.Params} (h : par.crc32cFn = .iscsi) : crcStep par = crc32c := by
  funext iv data
  rw [crcStep, h]

theorem crcStep_other {par : Config.Params} (h : par.crc32cFn = .other) : crcStep par = Config.otherCrc32c := by
  funext iv data
  rw [crcStep, h]

theorem exec_DES_KEXPAND (rd rs1 : DReg) (imm5 : BitVec 5) (s : State) : exec (.DES_KEXPAND rd rs1 imm5) s =
    if imm5.toNat ≤ 3 then cryptoResult 1 rd (desKeyExpand imm5 (readFD s rs1)) s else takeTrap .illegalInstruction s := by
  refine (finish_require s _ _ _).trans ?_
  by_cases h : imm5.toNat ≤ 3
  · rw [if_pos h, if_pos (decide_eq_true h)]
    rfl
  · rw [if_neg h, if_neg (by simpa using h)]

theorem desKeyExpand_checks (rd rs1 : DReg) (s : State) {imm5 : BitVec 5} (h : imm5.toNat ≤ 3) :
    ChecksThenFD (exec (.DES_KEXPAND rd rs1 imm5) s) s rd 1 (desKeyExpand imm5 (readFD s rs1)) := by
  rw [exec_DES_KEXPAND, if_pos h]
  exact cryptoResult_checks 1 rd _ s

/-! ## Runs of double registers -/

theorem readRun_eq (s : State) (first n : Nat) :
    readRun s (2 * first) n = (List.range n).map fun k => readFD s (BitVec.ofNat 5 (first + k)) := by
  refine List.map_congr_left fun k _ => ?_
  rw [dreg, ← Nat.mul_add, Nat.mul_div_cancel_left _ two_pos]

theorem dreg_double (k : Nat) : dreg (2 * k) = BitVec.ofNat 5 k := by
  rw [dreg, Nat.mul_div_cancel_left _ two_pos]

theorem ofNat_five_inj {i k : Nat} (hi : i < 32) (hk : k < 32) (h : BitVec.ofNat 5 i = BitVec.ofNat 5 k) : i = k := by
  have := congrArg BitVec.toNat h
  rwa [BitVec.toNat_ofNat, BitVec.toNat_ofNat, Nat.mod_eq_of_lt hi, Nat.mod_eq_of_lt hk] at this

theorem advance_writeRun (n : Nat) (vs : List Word64) (s : State) :
    advance (writeRun n vs s) = writeRun n vs (advance s) := by
  induction vs generalizing n s with
  | nil => rfl
  | cons v vs ih => exact ih (n + 2) (writeFD s (dreg n) v)

/-- What a run of double registers from number `i` on holds after it was written. -/
theorem readFD_writeRun (vs : List Word64) {i k : Nat} (hi : i + vs.length ≤ 32) (hk : k < 32) (s : State) :
    readFD (writeRun (2 * i) vs s) (BitVec.ofNat 5 k) =
      if i ≤ k ∧ k < i + vs.length then vs.getD (k - i) 0 else readFD s (BitVec.ofNat 5 k) := by
  induction vs generalizing i s with
  | nil => rw [if_neg (by simp)]; rfl
  | cons v vs ih =>
    rw [List.length_cons] at hi ⊢
    rw [writeRun, show 2 * i + 2 = 2 * (i + 1) by ring, ih (by omega), dreg_double, readFD_writeFD]
    by_cases hki : k = i
    · subst hki
      rw [if_neg (by omega), if_pos rfl, if_pos (by omega), Nat.sub_self]
      rfl
    · rw [if_neg fun h => hki (ofNat_five_inj hk (by omega) h)]
      by_cases h : i ≤ k ∧ k < i + (vs.length + 1)
      · rw [if_pos h, if_pos (by omega), show k - i = (k - (i + 1)) + 1 by omega]
        rfl
      · rw [if_neg h, if_neg (by omega)]

theorem writeRun_shape (vs : List Word64) {i : Nat} (hi : i + vs.length ≤ 16) (s : State) :
    writeRun (2 * i) vs s = { s with
      f := (writeRun (2 * i) vs s).f, fprs := if vs = [] then s.fprs else { s.fprs with dl := true } } := by
  induction vs generalizing i s with
  | nil => rfl
  | cons v vs ih =>
    rw [List.length_cons] at hi
    have hlow : decide (16 ≤ (dreg (2 * i)).toNat) = false := by
      rw [dreg_double, BitVec.toNat_ofNat, Nat.mod_eq_of_lt (by omega)]
      exact decide_eq_false (by omega)
    have hdirty : (writeFD s (dreg (2 * i)) v).fprs = { s.fprs with dl := true } := by
      change s.fprs.dirty _ = _
      rw [hlow, Fprs.dirty, Bool.or_false, Bool.not_false, Bool.or_true]
    rw [writeRun, show 2 * i + 2 = 2 * (i + 1) by ring, ih (by omega), hdirty, if_neg (List.cons_ne_nil v vs), ite_self]
    rfl

/-- A run of values written from F_D[0] on. -/
theorem nextWithRun_writeRun (u : State) {vs : List Word64} (hpos : vs ≠ []) (hlen : vs.length ≤ 16) :
    nextWithRun (.next (writeRun 0 vs u)) u vs := by
  have hshape := writeRun_shape vs (i := 0) (by omega) u
  rw [Nat.mul_zero, if_neg hpos] at hshape
  refine ⟨_, rfl, fun k hk => ?_, fun k hk => ?_, ?_, hshape⟩
  · have hread := readFD_writeRun vs (i := 0) (k := k) (by omega) (by omega) u
    rw [if_pos (by omega)] at hread
    exact hread
  · have hread := readFD_writeRun vs (i := 0) (k := k.toNat) (by omega) k.isLt u
    rw [if_neg (by omega), ofNat_toNat_self] at hread
    exact hread
  · rw [hshape]
    exact fun _ => rfl

theorem hashResult_next {s : State} {bitNo : Nat} (hbit : bit s.par.cfr bitNo = true) (hfpu : fpuEnabled s = true)
    {vs : List Word64} (hpos : vs ≠ []) (hlen : vs.length ≤ 16) :
    nextWithRun (hashResult bitNo vs s) (advance s) vs := by
  rw [hashResult_eq, if_pos hbit, if_pos hfpu, advance_writeRun]
  exact nextWithRun_writeRun (advance s) hpos hlen

/-! ## Words joined and split -/

/-- The number that a list of words makes, the first word the most significant. -/
def joined {w : Nat} (l : List (BitVec w)) : Nat := l.foldl (fun acc x => acc * 2 ^ w + x.toNat) 0

theorem joined_append_singleton {w : Nat} (l : List (BitVec w)) (x : BitVec w) :
    joined (l ++ [x]) = joined l * 2 ^ w + x.toNat := by
  rw [joined, List.foldl_append]
  rfl

theorem joined_lt {w : Nat} (l : List (BitVec w)) : joined l < 2 ^ (w * l.length) := by
  induction l using List.reverseRecOn with
  | nil => exact Nat.two_pow_pos _
  | append_singleton l x ih =>
    rw [joined_append_singleton, List.length_append, List.length_singleton, Nat.mul_succ, pow_add]
    calc
      _ < joined l * 2 ^ w + 2 ^ w := Nat.add_lt_add_left x.isLt _
      _ = (joined l + 1) * 2 ^ w := (Nat.succ_mul _ _).symm
      _ ≤ 2 ^ (w * l.length) * 2 ^ w := Nat.mul_le_mul_right _ ih

/-- A word of a list of words. -/
theorem joined_word {w : Nat} (l : List (BitVec w)) {i : Nat} (hi : i < l.length) :
    joined l / 2 ^ (w * (l.length - 1 - i)) % 2 ^ w = l[i].toNat := by
  induction l using List.reverseRecOn with
  | nil => exact absurd hi (Nat.not_lt_zero i)
  | append_singleton l x ih =>
    rw [joined_append_singleton]
    simp only [List.length_append, List.length_singleton, Nat.add_sub_cancel] at hi ⊢
    by_cases h : i = l.length
    · subst h
      rw [Nat.sub_self, Nat.mul_zero, pow_zero, Nat.div_one, Nat.mul_add_mod_self_right, Nat.mod_eq_of_lt x.isLt]
      simp
    · have hlt : i < l.length := by omega
      have hdiv : (joined l * 2 ^ w + x.toNat) / 2 ^ w = joined l := by
        rw [Nat.add_comm, Nat.add_mul_div_right _ _ (Nat.two_pow_pos w), Nat.div_eq_of_lt x.isLt, Nat.zero_add]
      rw [List.getElem_append_left hlt, ← ih hlt, show l.length - i = l.length - 1 - i + 1 by omega, Nat.mul_succ,
        Nat.add_comm (w * _) w, pow_add, ← Nat.div_div_eq_div_mul, hdiv]

/-- A word of joined words, as a field. -/
theorem field_joinWords {w n : Nat} (l : List (BitVec w)) (hn : n = w * l.length) {i : Nat} (hi : i < l.length) :
    field (joinWords n l) (w * (l.length - 1 - i)) w = l[i] := by
  have hlt := joined_lt l
  apply BitVec.eq_of_toNat_eq
  rw [toNat_field, ← joined_word l hi, joinWords, BitVec.toNat_ofNat, hn]
  exact congrArg (· / _ % _) (Nat.mod_eq_of_lt hlt)

/-- The 32-bit words of joined doublewords are their halves. -/
theorem splitWords_joinWords (g : Nat → Word64) (m : Nat) {count : Nat} (hcount : count ≤ 2 * m) {n : Nat}
    (hn : n = 64 * m) :
    splitWords 32 count (joinWords n ((List.range m).map g)) =
      (List.range count).map fun k => if k % 2 = 0 then field (g (k / 2)) 32 32 else field (g (k / 2)) 0 32 := by
  subst hn
  refine List.map_congr_left fun k hk => ?_
  rw [List.mem_range] at hk
  have hlen : ((List.range m).map g).length = m := by rw [List.length_map, List.length_range]
  have hword := field_joinWords (n := 64 * m) ((List.range m).map g) (by rw [hlen]) (i := k / 2) (by omega)
  rw [List.getElem_map, List.getElem_range, hlen] at hword
  rcases Nat.mod_two_eq_zero_or_one k with h | h
  · rw [if_pos h, ← hword, field_field _ (by decide)]
    congr 1
    omega
  · rw [if_neg (by omega), ← hword, field_field _ (by decide)]
    congr 1
    omega

/-! ## Hash instructions -/

theorem exec_MD5 (s : State) : exec .MD5 s = hashResult 4 (splitWords 64 2
    (md5Block (md5Order s.par.md5WordOrder) (joinWords 128 (readRun s 0 2)) (hashData s))) s := rfl

theorem exec_SHA256 (s : State) : exec .SHA256 s = hashResult 6 (splitWords 64 4 (joinWords 256
    (sha2Block sha256Functions sha256Constants (splitWords 32 8 (joinWords 256 (readRun s 0 4)))
      (splitWords 32 16 (hashData s))))) s := rfl

theorem exec_SHA512 (s : State) : exec .SHA512 s =
    hashResult 7 (sha2Block sha512Functions sha512Constants (readRun s 0 8) (readRun s 16 16)) s := rfl

theorem exec_SHA1 (s : State) : exec .SHA1 s = finish s (do
    cryptoChecks s 5
    .ok (advance (writeRun 0 (splitWords 64 3
      (sha1Block (joinWords 160 (splitWords 32 5 (joinWords 192 (readRun s 0 3)))) (hashData s) ++ field (freeValue s) 0 32))
        (drawn s)))) := rfl

theorem length_splitWords {n : Nat} (w count : Nat) (x : BitVec n) : (splitWords w count x).length = count := by
  rw [splitWords, List.length_map, List.length_range]

theorem ne_nil_of_length {α : Type} {l : List α} {n : Nat} (h : l.length = n) (hn : 0 < n) : l ≠ [] :=
  List.ne_nil_of_length_pos (h ▸ hn)

theorem length_sha2Steps {w : Nat} (fs : Sha2Functions) (ks m : List (BitVec w)) (v : Sha2Vars w) :
    (sha2Steps fs ks m v).length = 8 := by
  induction ks generalizing m v with
  | nil => rfl
  | cons k ks ih => exact ih _ _

theorem length_sha2Block {w : Nat} (fs : Sha2Functions) (ks h m : List (BitVec w)) :
    (sha2Block fs ks h m).length = min h.length 8 := by
  rw [sha2Block, List.length_zipWith, length_sha2Steps]

/-- The results of the hash instructions. -/
theorem hash_results (s : State) (hfpu : fpuEnabled s = true) :
    let words32 (n : Nat) : List Word32 :=
      (List.range n).map fun k => if k % 2 = 0 then field (readFD s (BitVec.ofNat 5 (k / 2))) 32 32
        else field (readFD s (BitVec.ofNat 5 (k / 2))) 0 32
    let words64 (first n : Nat) : List Word64 := (List.range n).map fun k => readFD s (BitVec.ofNat 5 (first + k))
    let data : BitVec 512 := joinWords 512 (words64 4 8)
    (bit s.par.cfr 4 = true → nextWithRun (exec .MD5 s) (advance s)
      (splitWords 64 2 (md5Block (md5Order s.par.md5WordOrder) (joinWords 128 (words64 0 2)) data))) ∧
    (bit s.par.cfr 5 = true → ∃ free : Word32,
      nextWithRun (exec .SHA1 s) { advance s with freeCount := s.freeCount + 1 }
        (splitWords 64 3 (sha1Block (joinWords 160 (words32 5)) data ++ free))) ∧
    (bit s.par.cfr 6 = true → nextWithRun (exec .SHA256 s) (advance s)
      (splitWords 64 4 (joinWords 256
        (sha2Block sha256Functions sha256Constants (words32 8) (splitWords 32 16 data))))) ∧
    (bit s.par.cfr 7 = true → nextWithRun (exec .SHA512 s) (advance s)
      (sha2Block sha512Functions sha512Constants (words64 0 8) (words64 8 16))) := by
  intro words32 words64 data
  have hrun (first n : Nat) : readRun s (2 * first) n = words64 first n := readRun_eq s first n
  have hdata : hashData s = data := congrArg (joinWords 512) (hrun 4 8)
  have hwords (m count : Nat) (hcount : count ≤ 2 * m) {n : Nat} (hn : n = 64 * m) :
      splitWords 32 count (joinWords n (readRun s 0 m)) = words32 count := by
    rw [← Nat.mul_zero 2, readRun_eq, splitWords_joinWords _ m hcount hn]
    simp only [Nat.zero_add]
    rfl
  refine ⟨fun hbit => ?_, fun hbit => ⟨field (freeValue s) 0 32, ?_⟩, fun hbit => ?_, fun hbit => ?_⟩
  · rw [exec_MD5, hdata]
    have hlen := length_splitWords 64 2
      (md5Block (md5Order s.par.md5WordOrder) (joinWords 128 (readRun s 0 2)) data)
    exact hrun 0 2 ▸ hashResult_next hbit hfpu (ne_nil_of_length hlen (by decide)) (hlen.trans_le (by decide))
  · rw [exec_SHA1, hdata, hwords 3 5 (by decide) rfl, finish_cryptoChecks, if_pos hbit, if_pos hfpu, finish_ok,
      advance_writeRun]
    have hlen := length_splitWords 64 3 (sha1Block (joinWords 160 (words32 5)) data ++ field (freeValue s) 0 32)
    exact nextWithRun_writeRun (advance (drawn s)) (ne_nil_of_length hlen (by decide)) (hlen.trans_le (by decide))
  · rw [exec_SHA256, hdata, hwords 4 8 (by decide) rfl]
    exact hashResult_next hbit hfpu (ne_nil_of_length (length_splitWords _ _ _) (by decide))
      ((length_splitWords _ _ _).trans_le (by decide))
  · rw [exec_SHA512, ← hrun 0 8, ← hrun 8 16]
    have hlen : (sha2Block sha512Functions sha512Constants (readRun s 0 8) (readRun s 16 16)).length = 8 := by
      rw [length_sha2Block, readRun, List.length_map, List.length_range, min_self]
    exact hashResult_next hbit hfpu (ne_nil_of_length hlen (by decide)) (hlen.trans_le (by decide))

/-- What stops a hash instruction. -/
theorem hash_stops (s : State) : ∀ r ∈ [(Instr.MD5, 4), (.SHA1, 5), (.SHA256, 6), (.SHA512, 7)],
    (bit s.par.cfr r.2 = false → exec r.1 s = takeTrap .compatibilityFeature s) ∧
    (bit s.par.cfr r.2 = true → fpuEnabled s = false → exec r.1 s = takeTrap .fpDisabled s) := by
  have stops (bitNo : Nat) (k : Unit → Eff State) :
      (bit s.par.cfr bitNo = false → finish s (cryptoChecks s bitNo >>= k) = takeTrap .compatibilityFeature s) ∧
      (bit s.par.cfr bitNo = true → fpuEnabled s = false →
        finish s (cryptoChecks s bitNo >>= k) = takeTrap .fpDisabled s) := by
    rw [finish_cryptoChecks]
    exact ⟨fun h => by rw [h]; rfl, fun h hfpu => by rw [h, hfpu]; rfl⟩
  simp only [List.forall_mem_cons]
  exact ⟨stops 4 _, stops 5 _, stops 6 _, stops 7 _, fun _ h => absurd h List.not_mem_nil⟩

/-- Settles O58: each instruction checks its CFR bit and the FPU and writes the value of its function. -/
theorem cryptoResults : Obligations.CryptoResults := by
  refine ⟨fun s rd rs1 rs2 rs3 => ⟨fun r hr => ?_, fun h => ?_, fun h => ?_, ?_, ?_, ?_, ?_, fun imm5 h => ?_⟩,
    hash_results, hash_stops⟩
  · rw [exec_cryptoRows rd rs1 rs2 rs3 s r hr]
    exact cryptoResult_checks r.2.1 rd _ s
  · rw [exec_CRC32C, crcStep_iscsi h]
    exact cryptoResult_checks 11 rd _ s
  · rw [exec_CRC32C, crcStep_other h]
    exact cryptoResult_checks 11 rd _ s
  · exact desKeyExpand_checks rd rs1 s (imm5 := 0) (by decide)
  · exact desKeyExpand_checks rd rs1 s (imm5 := 1) (by decide)
  · exact desKeyExpand_checks rd rs1 s (imm5 := 2) (by decide)
  · exact desKeyExpand_checks rd rs1 s (imm5 := 3) (by decide)
  · rw [exec_DES_KEXPAND, if_neg (Nat.not_le.mpr h)]

end Sys2Proof.Machine
end
section
/-!
PROOF. The multiple-precision instructions: the places of their operands share no storage, so what is written to them
is read back, and nothing else changes.
-/

namespace Sys2Proof.Machine

open Sys2Proof

/-! ## Places -/

/-- The place is an F register, or a register that has storage in the windows. -/
def MpPlace.windowed : MpPlace → Bool
  | .reg _ n => decide (8 ≤ n.toNat)
  | .freg _ => true

/-- The storage of a place, numbered as from window 0. -/
def MpPlace.key : MpPlace → Nat
  | .reg back n => (windowSlot (0 - back) n).val
  | .freg k => 128 + k.toNat

/-- Whether two windowed registers share storage does not depend on the current window. -/
theorem windowSlot_sub_eq_iff (cwp b b' : BitVec 3) {m n : Reg} (hm : 8 ≤ m.toNat) (hn : 8 ≤ n.toNat) :
    windowSlot (cwp - b) m = windowSlot (cwp - b') n ↔ windowSlot (0 - b) m = windowSlot (0 - b') n := by
  have hsame (c c' : BitVec 3) : (c - b = c - b' ↔ c' - b = c' - b') ∧ (c - b' = c - b + 1 ↔ c' - b' = c' - b + 1) ∧
      (c - b = c - b' + 1 ↔ c' - b = c' - b' + 1) := by
    exact ⟨by bv_omega, by bv_omega, by bv_omega⟩
  obtain ⟨h1, h2, h3⟩ := hsame cwp 0
  rw [windowSlot_eq_iff _ _ hm hn, windowSlot_eq_iff _ _ hm hn, h1, h2, h3]

theorem read_reg (s : State) (back : BitVec 3) {n : Reg} (hn : 8 ≤ n.toNat) :
    (MpPlace.reg back n).read s = s.w[windowSlot (s.cwp - back) n] := by
  rw [MpPlace.read, readR, if_neg (by omega), if_neg (by omega)]

theorem write_reg (s : State) (v : Word64) (back : BitVec 3) {n : Reg} (hn : 8 ≤ n.toNat) :
    (MpPlace.reg back n).write s v = { s with w := s.w.set (windowSlot (s.cwp - back) n) v } := by
  rw [MpPlace.write, writeR, if_neg (by omega), if_neg (by omega)]

theorem key_reg_eq_iff (cwp b b' : BitVec 3) {m n : Reg} (hm : 8 ≤ m.toNat) (hn : 8 ≤ n.toNat) :
    (MpPlace.reg b m).key = (MpPlace.reg b' n).key ↔ windowSlot (cwp - b) m = windowSlot (cwp - b') n := by
  rw [windowSlot_sub_eq_iff cwp b b' hm hn, Fin.ext_iff]
  rfl

/-- What a place holds after a write to any place. -/
theorem read_write {p q : MpPlace} (hp : p.windowed = true) (hq : q.windowed = true) (s : State) (v : Word64) :
    q.read (p.write s v) = if p.key = q.key then v else q.read s := by
  cases p with
  | reg b m =>
    have hm := of_decide_eq_true hp
    rw [write_reg s v b hm]
    cases q with
    | reg b' n =>
      have hn := of_decide_eq_true hq
      rw [read_reg _ b' hn, read_reg s b' hn, getFin_set]
      exact if_congr (key_reg_eq_iff s.cwp b b' hm hn).symm rfl rfl
    | freg k =>
      rw [if_neg fun h => by have := (windowSlot (0 - b) m).isLt; simp only [MpPlace.key] at h; omega]
      rfl
  | freg j =>
    cases q with
    | reg b' n =>
      rw [if_neg fun h => by have := (windowSlot (0 - b') n).isLt; simp only [MpPlace.key] at h; omega]
      rfl
    | freg k =>
      refine (readFD_writeFD s j v k).trans (if_congr ?_ rfl rfl)
      rw [MpPlace.key, MpPlace.key, Nat.add_left_cancel_iff, BitVec.toNat_inj, eq_comm]

theorem write_cwp {p : MpPlace} (s : State) (v : Word64) : (p.write s v).cwp = s.cwp := by
  cases p <;> rfl

/-! ## Lists of places -/

theorem writePlaces_cwp (ps : List MpPlace) (v : Nat) (s : State) : (writePlaces ps v s).cwp = s.cwp := by
  induction ps generalizing v s with
  | nil => rfl
  | cons p ps ih => rw [writePlaces, ih, write_cwp]

theorem read_writePlaces_other {ps : List MpPlace} (hps : ∀ p ∈ ps, p.windowed = true) {q : MpPlace}
    (hq : q.windowed = true) (hkey : q.key ∉ ps.map MpPlace.key) (v : Nat) (s : State) :
    q.read (writePlaces ps v s) = q.read s := by
  induction ps generalizing v s with
  | nil => rfl
  | cons p ps ih =>
    rw [List.forall_mem_cons] at hps
    rw [List.map_cons, List.mem_cons, not_or] at hkey
    rw [writePlaces, ih hps.2 hkey.2, read_write hps.1 hq, if_neg (Ne.symm hkey.1)]

theorem wordsAt_writePlaces_other {ps qs : List MpPlace} (hps : ∀ p ∈ ps, p.windowed = true)
    (hqs : ∀ q ∈ qs, q.windowed = true) (hkey : ∀ q ∈ qs, q.key ∉ ps.map MpPlace.key) (v : Nat) (s : State) :
    wordsAt (writePlaces ps v s) qs = wordsAt s qs :=
  List.map_congr_left fun q hq => by rw [read_writePlaces_other hps (hqs q hq) (hkey q hq)]

theorem joinNat_cons (x : Nat) (l : List Nat) : joinNat (x :: l) = x + 2 ^ 64 * joinNat l := rfl

/-- What is written to places that share no storage is read back. -/
theorem readPlaces_writePlaces {ps : List MpPlace} (hps : ∀ p ∈ ps, p.windowed = true)
    (hkeys : (ps.map MpPlace.key).Nodup) (v : Nat) (s : State) :
    readPlaces (writePlaces ps v s) ps = v % 2 ^ (64 * ps.length) := by
  induction ps generalizing v s with
  | nil => exact (Nat.mod_one v).symm
  | cons p ps ih =>
    rw [List.forall_mem_cons] at hps
    rw [List.map_cons, List.nodup_cons] at hkeys
    have hrest := ih hps.2 hkeys.2 (v / 2 ^ 64) (p.write s (BitVec.ofNat 64 v))
    rw [readPlaces, wordsAt] at hrest
    rw [readPlaces, wordsAt, List.map_cons, joinNat_cons, writePlaces, hrest,
      read_writePlaces_other hps.2 hps.1 hkeys.1, read_write hps.1 hps.1, if_pos rfl, BitVec.toNat_ofNat,
      List.length_cons, Nat.mul_succ, Nat.add_comm (64 * _) 64, pow_add, ← Nat.mod_mul]

theorem joinNat_lt {l : List Nat} (h : ∀ x ∈ l, x < 2 ^ 64) : joinNat l < 2 ^ (64 * l.length) := by
  induction l with
  | nil => exact Nat.one_pos
  | cons x l ih =>
    rw [List.forall_mem_cons] at h
    have hl := ih h.2
    rw [joinNat_cons, List.length_cons, Nat.mul_succ, Nat.add_comm (64 * _) 64, pow_add]
    calc
      _ < 2 ^ 64 + 2 ^ 64 * joinNat l := Nat.add_lt_add_right h.1 _
      _ = 2 ^ 64 * (joinNat l + 1) := by ring
      _ ≤ 2 ^ 64 * 2 ^ (64 * l.length) := Nat.mul_le_mul_left _ hl

theorem readPlaces_lt (s : State) (ps : List MpPlace) : readPlaces s ps < 2 ^ (64 * ps.length) := by
  have h := joinNat_lt (l := wordsAt s ps) fun x hx => by
    obtain ⟨p, -, rfl⟩ := List.mem_map.mp hx
    exact (p.read s).isLt
  rwa [wordsAt, List.length_map] at h

/-! ## What the writes leave -/

theorem writePlaces_w {ps : List MpPlace} (hps : ∀ p ∈ ps, p.windowed = true) (v : Nat) (s : State) {i : Fin 128}
    (hi : ∀ back m, .reg back m ∈ ps → i ≠ windowSlot (s.cwp - back) m) : (writePlaces ps v s).w[i] = s.w[i] := by
  induction ps generalizing v s with
  | nil => rfl
  | cons p ps ih =>
    rw [List.forall_mem_cons] at hps
    rw [writePlaces, ih hps.2 _ _ fun back m hm => write_cwp s _ ▸ hi back m (List.mem_cons_of_mem p hm)]
    cases p with
    | reg b m =>
      rw [write_reg s _ b (of_decide_eq_true hps.1)]
      exact (getFin_set _ _ _ _).trans (if_neg (Ne.symm (hi b m List.mem_cons_self)))
    | freg k => rfl

/-- The halves of the F registers that a place reaches (R35). -/
def placeReaches (upper : Bool) : MpPlace → Bool
  | .freg k => decide (16 ≤ k.toNat) == upper
  | .reg _ _ => false

theorem reachesHalf_eq (upper : Bool) (ps : List MpPlace) : reachesHalf upper ps = ps.any (placeReaches upper) := by
  refine congrArg ps.any (funext fun p => ?_)
  cases p <;> rfl

theorem write_shape {p : MpPlace} (hp : p.windowed = true) (s : State) (v : Word64) :
    p.write s v = { s with
      w := (p.write s v).w
      f := (p.write s v).f
      fprs := { s.fprs with dl := s.fprs.dl || placeReaches false p, du := s.fprs.du || placeReaches true p } } := by
  cases p with
  | reg b m =>
    rw [write_reg s v b (of_decide_eq_true hp), placeReaches, placeReaches, Bool.or_false, Bool.or_false]
  | freg k =>
    rw [placeReaches, placeReaches, beq_false, beq_true]
    rfl

theorem writePlaces_shape {ps : List MpPlace} (hps : ∀ p ∈ ps, p.windowed = true) (v : Nat) (s : State) :
    writePlaces ps v s = { s with
      w := (writePlaces ps v s).w
      f := (writePlaces ps v s).f
      fprs := { s.fprs with dl := s.fprs.dl || reachesHalf false ps, du := s.fprs.du || reachesHalf true ps } } := by
  simp only [reachesHalf_eq]
  induction ps generalizing v s with
  | nil => simp only [writePlaces, List.any_nil, Bool.or_false]
  | cons p ps ih =>
    rw [List.forall_mem_cons] at hps
    rw [writePlaces, ih hps.2, write_shape hps.1]
    simp only [List.any_cons, Bool.or_assoc]

end Sys2Proof.Machine
end
section
/-!
PROOF. MPMUL, XMPMUL and the Montgomery instructions: checks, results and frame.
-/

namespace Sys2Proof.Machine

open Sys2Proof

/-! ## The lists of places of the machine -/

theorem mpProduct_windowed : ∀ p ∈ mpProduct, p.windowed = true := by decide

theorem mpProduct_keys : (mpProduct.map MpPlace.key).Nodup := by decide

theorem mpMontgomery_windowed : ∀ p ∈ mpMontM ++ mpMultiplicand, p.windowed = true := by decide

theorem mpMontgomery_keys : ((mpMontM ++ mpMultiplicand).map MpPlace.key).Nodup := by decide

/-! ## Checks -/

theorem maxSavable_eq : maxSavable = 6 := by decide

theorem multiChecks_stops (s : State) (bitNo : Nat) (k : Unit → Eff State) :
    multiStops (finish s (multiChecks s bitNo >>= k)) s bitNo := by
  rw [multiStops, finish_multiChecks, maxSavable_eq, ← fillTrap_eq]
  refine ⟨fun h => ?_, fun h hfpu => ?_, fun h hfpu hwin => ?_⟩
  · rw [h]; rfl
  · rw [h, hfpu]; rfl
  · rw [if_pos h, if_pos hfpu, if_neg fun heq => hwin (beq_iff_eq.mp heq)]

theorem multiChecks_pass {s : State} {bitNo : Nat} (h : bit s.par.cfr bitNo = true) (hfpu : fpuEnabled s = true)
    (hwin : s.canrestore = 6) (k : Unit → Eff State) : finish s (multiChecks s bitNo >>= k) = finish s (k ()) := by
  rw [finish_multiChecks, maxSavable_eq, if_pos h, if_pos hfpu, if_pos (beq_iff_eq.mpr hwin)]

/-! ## Products -/

theorem xorMul_lt {a m : Nat} (ha : a < 2 ^ m) (b n : Nat) : xorMul a b n < 2 ^ (m + n) := by
  induction n with
  | zero => exact Nat.two_pow_pos _
  | succ n ih =>
    refine Nat.xor_lt_two_pow (ih.trans_le (Nat.pow_le_pow_right two_pos (by omega))) ?_
    split
    · rw [Nat.shiftLeft_eq, ← Nat.add_assoc]
      calc
        a * 2 ^ n < 2 ^ m * 2 ^ n := Nat.mul_lt_mul_of_pos_right ha (Nat.two_pow_pos n)
        _ = 2 ^ (m + n) := (pow_add 2 m n).symm
        _ ≤ 2 ^ (m + n + 1) := Nat.pow_le_pow_right two_pos (Nat.le_succ _)
    · exact Nat.two_pow_pos _

theorem wideMul_lt (carry : Bool) {a b n : Nat} (ha : a < 2 ^ n) (hb : b < 2 ^ n) : wideMul carry n a b < 2 ^ (n + n) := by
  cases carry
  · exact xorMul_lt ha b n
  · rw [pow_add]
    exact Nat.mul_lt_mul_of_lt_of_lt ha hb

theorem forall_mem_take {α : Type} {p : α → Prop} {l : List α} (h : ∀ x ∈ l, p x) (n : Nat) : ∀ x ∈ l.take n, p x :=
  fun x hx => h x (List.mem_of_mem_take hx)

/-- No place of a product is an F register. -/
theorem mpProduct_regs : ∀ upper : Bool, ∀ p ∈ mpProduct, placeReaches upper p = false := by decide

theorem mpProduct_not_freg : ∀ p ∈ mpProduct, (match p with | .freg _ => false | .reg _ _ => true) = true := by decide

/-- Writes to R registers leave the F registers. -/
theorem writePlaces_f {ps : List MpPlace} (hps : ∀ p ∈ ps, p.windowed = true) (hregs : ∀ k, .freg k ∉ ps) (v : Nat)
    (s : State) : (writePlaces ps v s).f = s.f := by
  induction ps generalizing v s with
  | nil => rfl
  | cons p ps ih =>
    rw [List.forall_mem_cons] at hps
    rw [writePlaces, ih hps.2 fun k hk => hregs k (List.mem_cons_of_mem p hk)]
    cases p with
    | reg b m => rw [write_reg s _ b (of_decide_eq_true hps.1)]
    | freg k => exact absurd List.mem_cons_self (hregs k)

theorem mpProduct_freg (k : DReg) : .freg k ∉ mpProduct := fun h => Bool.false_ne_true (mpProduct_not_freg _ h)

/-- The state after a product was written. -/
theorem mpProduct_shape (n v : Nat) (s : State) :
    writePlaces (mpProduct.take n) v s = { s with w := (writePlaces (mpProduct.take n) v s).w } := by
  have hwin := forall_mem_take mpProduct_windowed n
  have hhalf (upper : Bool) : reachesHalf upper (mpProduct.take n) = false := by
    rw [reachesHalf_eq, List.any_eq_false]
    exact fun p hp => Bool.not_eq_true _ ▸ forall_mem_take (mpProduct_regs upper) n p hp
  have hshape := writePlaces_shape hwin v s
  rwa [hhalf, hhalf, Bool.or_false, Bool.or_false,
    writePlaces_f hwin (fun k hk => mpProduct_freg k (List.mem_of_mem_take hk))] at hshape

theorem multiMultiply_completes (carry : Bool) (bitNo : Nat) (imm5 : BitVec 5) (s : State)
    (h : bit s.par.cfr bitNo = true) (hfpu : fpuEnabled s = true) (hwin : s.canrestore = 6) :
    let n := imm5.toNat + 1
    ∃ t, multiMultiply carry bitNo imm5 s = .next t ∧
      readPlaces t (mpProduct.take (2 * n)) = wideMul carry (64 * n) (readPlaces s (mpMultiplier.take n))
        (readPlaces s (mpMultiplicand.take n)) ∧
      (∀ i : Fin 128, (∀ back m, .reg back m ∈ mpProduct.take (2 * n) → i ≠ windowSlot (s.cwp - back) m) →
        t.w[i] = s.w[i]) ∧
      t = { advance s with w := t.w } := by
  intro n
  have hn : n ≤ 32 := imm5.isLt
  set p := wideMul carry (64 * n) (readPlaces s (mpMultiplier.take n)) (readPlaces s (mpMultiplicand.take n)) with hp
  have hwindowed := forall_mem_take mpProduct_windowed (2 * n)
  have hkeys : ((mpProduct.take (2 * n)).map MpPlace.key).Nodup :=
    mpProduct_keys.sublist ((List.take_sublist _ _).map _)
  have hbound : p < 2 ^ (64 * n + 64 * n) := by
    have ha := readPlaces_lt s (mpMultiplier.take n)
    have hb := readPlaces_lt s (mpMultiplicand.take n)
    rw [List.length_take_of_le hn] at ha hb
    exact wideMul_lt carry ha hb
  refine ⟨advance (writePlaces (mpProduct.take (2 * n)) p s), multiChecks_pass h hfpu hwin _, ?_,
    fun i hi => writePlaces_w hwindowed p s hi, congrArg advance (mpProduct_shape (2 * n) p s)⟩
  refine (readPlaces_writePlaces hwindowed hkeys p s).trans (Nat.mod_eq_of_lt (hbound.trans_le ?_))
  rw [List.length_take_of_le (Nat.mul_le_mul_left 2 hn)]
  exact Nat.pow_le_pow_right two_pos (by omega)

/-- Settles O59: the product is below the size of its places, which share no storage. -/
theorem wideMultiply : Obligations.WideMultiply := by
  intro s imm5 n a b multiplied
  exact ⟨⟨multiChecks_stops s 8 _, multiMultiply_completes true 8 imm5 s⟩,
    ⟨multiChecks_stops s 12 _, multiMultiply_completes false 12 imm5 s⟩⟩

/-! ## Montgomery multiplication -/

/-- The state after M and X were written, and FSR.fcc3 cleared. -/
def montgomeryState (s : State) (n m x : Nat) : State :=
  let t := writePlaces (mpMultiplicand.take n) x (writePlaces (mpMontM.take n) m s)
  advance { t with fsr := { t.fsr with fcc3 := 0 } }

theorem wordsAt_montgomeryState (s : State) (n m x : Nat) (ps : List MpPlace) :
    wordsAt (montgomeryState s n m x) ps =
      wordsAt (writePlaces (mpMultiplicand.take n) x (writePlaces (mpMontM.take n) m s)) ps :=
  List.map_congr_left fun p _ => by cases p <;> rfl

/-- The places of M and X, for operands of `n` words, share no storage. -/
theorem written_keys (n : Nat) : ((mpMontM.take n ++ mpMultiplicand.take n).map MpPlace.key).Nodup :=
  mpMontgomery_keys.sublist (((List.take_sublist _ _).append (List.take_sublist _ _)).map _)

theorem montgomeryState_results (s : State) {n : Nat} (hn : n ≤ 32) (m x : Nat) :
    readPlaces (montgomeryState s n m x) (mpMontM.take n) = m % 2 ^ (64 * n) ∧
      readPlaces (montgomeryState s n m x) (mpMultiplicand.take n) = x % 2 ^ (64 * n) := by
  have hwindowed := List.forall_mem_append.mp mpMontgomery_windowed
  have hm := forall_mem_take hwindowed.1 n
  have hx := forall_mem_take hwindowed.2 n
  have hkeys := written_keys n
  rw [List.map_append, List.nodup_append] at hkeys
  obtain ⟨hmkeys, hxkeys, hdisjoint⟩ := hkeys
  rw [readPlaces, readPlaces, wordsAt_montgomeryState, wordsAt_montgomeryState]
  constructor
  · rw [wordsAt_writePlaces_other hx hm fun q hq hmem =>
      hdisjoint _ (List.mem_map_of_mem hq) _ hmem rfl]
    refine (readPlaces_writePlaces hm hmkeys m s).trans ?_
    rw [List.length_take_of_le hn]
  · refine (readPlaces_writePlaces hx hxkeys x _).trans ?_
    rw [List.length_take_of_le hn]

/-- An F register that is not among the places shares no storage with them. -/
theorem freg_key_not_mem {k : DReg} {ps : List MpPlace} (h : .freg k ∉ ps) :
    (MpPlace.freg k).key ∉ ps.map MpPlace.key := by
  intro hmem
  obtain ⟨p, hp, hkey⟩ := List.mem_map.mp hmem
  cases p with
  | reg b m =>
    have := (windowSlot (0 - b) m).isLt
    simp only [MpPlace.key] at hkey
    omega
  | freg j =>
    rw [MpPlace.key, MpPlace.key, Nat.add_left_cancel_iff, BitVec.toNat_inj] at hkey
    exact h (hkey ▸ hp)

/-- Two runs of writes to windows and F registers make one. -/
theorem shape_trans {s t u : State} {a b c d : Bool}
    (h1 : t = { s with w := t.w, f := t.f, fprs := { s.fprs with dl := s.fprs.dl || a, du := s.fprs.du || b } })
    (h2 : u = { t with w := u.w, f := u.f, fprs := { t.fprs with dl := t.fprs.dl || c, du := t.fprs.du || d } }) :
    u = { s with w := u.w, f := u.f, fprs := { s.fprs with dl := s.fprs.dl || a || c, du := s.fprs.du || b || d } } := by
  generalize t.w = w at h1
  generalize t.f = f at h1
  subst h1
  exact h2

theorem fcc3_shape {s u : State} {x : Fprs} (h : u = { s with w := u.w, f := u.f, fprs := x }) :
    advance { u with fsr := { u.fsr with fcc3 := 0 } } =
      { advance s with w := u.w, f := u.f, fprs := x, fsr := { s.fsr with fcc3 := 0 } } := by
  generalize u.w = w at h ⊢
  generalize u.f = f at h ⊢
  subst h
  rfl

theorem montgomeryState_frame (s : State) (n m x : Nat) :
    let t := montgomeryState s n m x
    let written := mpMontM.take n ++ mpMultiplicand.take n
    (∀ i : Fin 128, (∀ back m, .reg back m ∈ written → i ≠ windowSlot (s.cwp - back) m) → t.w[i] = s.w[i]) ∧
    (∀ k : DReg, .freg k ∉ written → readFD t k = readFD s k) ∧
    t = { advance s with
      w := t.w
      f := t.f
      fprs := { s.fprs with dl := s.fprs.dl || reachesHalf false written
                            du := s.fprs.du || reachesHalf true written }
      fsr := { s.fsr with fcc3 := 0 } } := by
  intro t written
  have hwindowed := List.forall_mem_append.mp mpMontgomery_windowed
  have hm := forall_mem_take hwindowed.1 n
  have hx := forall_mem_take hwindowed.2 n
  refine ⟨fun i hi => ?_, fun k hk => ?_, ?_⟩
  · have hfirst := writePlaces_w hm m s fun back r hr => hi back r (List.mem_append_left _ hr)
    refine (writePlaces_w hx x (writePlaces (mpMontM.take n) m s) fun back r hr => ?_).trans hfirst
    rw [writePlaces_cwp]
    exact hi back r (List.mem_append_right _ hr)
  · have hkey {ps : List MpPlace} := @freg_key_not_mem k ps
    have hfirst := read_writePlaces_other hm (q := .freg k) rfl
      (hkey fun h => hk (List.mem_append_left _ h)) m s
    exact (read_writePlaces_other hx (q := .freg k) rfl (hkey fun h => hk (List.mem_append_right _ h)) x _).trans hfirst
  · have h1 := writePlaces_shape hm m s
    have h2 := writePlaces_shape hx x (writePlaces (mpMontM.take n) m s)
    have hhalf (upper : Bool) : reachesHalf upper written =
        (reachesHalf upper (mpMontM.take n) || reachesHalf upper (mpMultiplicand.take n)) := List.any_append
    rw [hhalf, hhalf, ← Bool.or_assoc, ← Bool.or_assoc]
    exact fcc3_shape (shape_trans h1 h2)

/-- How a Montgomery instruction that passes its checks ends. -/
def MontgomeryEnds (o : Out) (s : State) (carry square : Bool) (imm5 : BitVec 5) : Prop :=
  let n := imm5.toNat + 1
  let a := wordsAt s (mpMultiplicand.take n)
  let part := if square then squarePart carry imm5.toNat a
    else productPart carry imm5.toNat a (wordsAt s (mpMontB.take n))
  let out := montgomeryResult carry part (wordsAt s (mpModulus.take n)) (readFD s 30).toNat imm5.toNat
  let written := mpMontM.take n ++ mpMultiplicand.take n
  ∃ t, o = .next t ∧
    readPlaces t (mpMontM.take n) = joinNat out.1 % 2 ^ (64 * n) ∧
    readPlaces t (mpMultiplicand.take n) = out.2 % 2 ^ (64 * n) ∧
    (∀ i : Fin 128, (∀ back m, .reg back m ∈ written → i ≠ windowSlot (s.cwp - back) m) → t.w[i] = s.w[i]) ∧
    (∀ k : DReg, .freg k ∉ written → readFD t k = readFD s k) ∧
    t = { advance s with
      w := t.w
      f := t.f
      fprs := { s.fprs with dl := s.fprs.dl || reachesHalf false written
                            du := s.fprs.du || reachesHalf true written }
      fsr := { s.fsr with fcc3 := 0 } }

theorem montgomery_ends (carry square : Bool) (bitNo : Nat) (imm5 : BitVec 5) (s : State)
    (h : bit s.par.cfr bitNo = true) (hfpu : fpuEnabled s = true) (hwin : s.canrestore = 6) :
    MontgomeryEnds (montgomery carry square bitNo imm5 s) s carry square imm5 := by
  obtain ⟨hm, hx⟩ := montgomeryState_results s (n := imm5.toNat + 1) imm5.isLt _ _
  exact ⟨montgomeryState s (imm5.toNat + 1) _ _, multiChecks_pass h hfpu hwin _, hm, hx,
    montgomeryState_frame s (imm5.toNat + 1) _ _⟩

/-- Settles O60: M and X are written to places that share no storage, and the rest of the state is kept. -/
theorem montgomeryProducts : Obligations.MontgomeryProducts := by
  intro s imm5
  simp only [montgomeryRows, List.forall_mem_cons]
  exact ⟨⟨multiChecks_stops s 9 _, montgomery_ends true false 9 imm5 s⟩,
    ⟨multiChecks_stops s 10 _, montgomery_ends true true 10 imm5 s⟩,
    ⟨multiChecks_stops s 13 _, montgomery_ends false false 13 imm5 s⟩,
    ⟨multiChecks_stops s 14 _, montgomery_ends false true 14 imm5 s⟩, fun _ h => absurd h List.not_mem_nil⟩

end Sys2Proof.Machine
end

section
/-!
PROOF. Memory accesses: what ends one, and the integer loads and stores.
-/

namespace Sys2Proof.Machine

open Sys2Proof

/-! ## How an access ends -/

/-- The outcome is that of an access: the checks give a place, and the access there leaves a state; with an ASI of the
implementation the access leaves `u`. -/
def Accesses (o : Out) (u s : State) (p : Eff Place) (after : Place → State) : Prop :=
  o = finishOpen u s (p >>= fun x => .ok (advance (after x)))

theorem Accesses.stops {o : Out} {u s : State} {p : Eff Place} {after : Place → State} (h : Accesses o u s p after) :
    stopsAs o s p :=
  ⟨fun e he => by rw [h, he]; rfl, fun f hf => by rw [h, hf]; rfl⟩

theorem Accesses.next {o : Out} {u s : State} {p : Eff Place} {after : Place → State} (h : Accesses o u s p after)
    {x : Place} (hx : p = .ok x) : o = .next (advance (after x)) := by
  rw [h, hx]
  rfl

theorem Accesses.opens {o : Out} {u s : State} {p : Eff Place} {after : Place → State} (h : Accesses o u s p after)
    (hp : p = .error .implementation) : o = .next (advance u) := by
  rw [h, hp]
  rfl

/-- The ASIs of the implementation are none of the memory ones and none of the register ones. -/
theorem asiImplementation_apart : ∀ asi ∈ asiImplementation, asiSpace asi = none ∧ asi ∉ asiRegister := by
  decide

theorem accessAsi_opens {s : State} {asi : BitVec 8} (h : opensAsi s asi) (valid : List (BitVec 8)) (ea : Word64)
    (size : Nat) (kind : AccessKind) : accessAsi s asi valid ea size kind = .error .implementation := by
  obtain ⟨himpl, hpar, hpriv⟩ := h
  have hspace := (asiImplementation_apart asi himpl).1
  have himplAsi : implAsi s.par asi = true := by
    rw [implAsi, decide_eq_true himpl, Bool.true_and, List.contains_iff_mem]
    exact hpar
  rw [accessAsi, hpriv, hspace, himplAsi]
  rfl

theorem aligned_iff (ea : Word64) (n : Nat) : aligned ea n = true ↔ ea.toNat % n = 0 := beq_iff_eq

theorem placeAsi_opens {s : State} {asi : BitVec 8} (h : opensAsi s asi) (valid : List (BitVec 8)) {ea : Word64}
    {n : Nat} (hea : ea.toNat % n = 0) (kind : AccessKind) :
    placeAsi s asi valid ea n kind = .error .implementation := by
  rw [placeAsi, checkAlignAsi, (aligned_iff ea n).mpr hea, accessAsi_opens h]
  rfl

/-! ## Loaded values -/

theorem two_pow_eight_mul (n : Nat) : 2 ^ (8 * n) = 256 ^ n := by
  rw [pow_mul]
  norm_num

theorem unsignedBytes_mod (n v : Nat) : unsignedBytes n v = BitVec.ofNat 64 (v % 256 ^ n) := by
  rw [unsignedBytes, zext64_eq_ofNat, BitVec.toNat_ofNat, two_pow_eight_mul]

theorem unsignedBytes_of_lt {n v : Nat} (h : v < 256 ^ n) : unsignedBytes n v = BitVec.ofNat 64 v := by
  rw [unsignedBytes_mod, Nat.mod_eq_of_lt h]

/-- How a load extends its value. -/
def extendOf (signed : Bool) : Nat → Nat → Word64 := if signed then signedBytes else unsignedBytes

theorem extendOf_eq (signed : Bool) {n v : Nat} (h : v < 256 ^ n) : extendOf signed n v = extended signed n v := by
  cases signed
  · exact unsignedBytes_of_lt h
  · rfl

/-- Only the low bytes of a free value count. -/
theorem extendOf_mod (signed : Bool) (n v : Nat) : extendOf signed n v = extended signed n (v % 256 ^ n) := by
  cases signed
  · exact unsignedBytes_mod n v
  · have hlow : BitVec.ofNat (8 * n) (v % 256 ^ n) = BitVec.ofNat (8 * n) v := by
      apply BitVec.eq_of_toNat_eq
      rw [BitVec.toNat_ofNat, BitVec.toNat_ofNat, two_pow_eight_mul, Nat.mod_mod]
    rw [extended, hlow]
    rfl

/-! ## Integer loads -/

/-- A row of `loadRows`: both forms of a load. -/
structure LoadRow (r : ArithForm × (Reg → Reg → AltOperand → Instr) × Nat × Bool) : Prop where
  plain : ∀ rd rs1 op2 s, exec (r.1 rd rs1 op2) s = loadImplicit r.2.2.1 (extendOf r.2.2.2) rd rs1 op2 s
  alternate : ∀ rd rs1 addr s, (r.2.2.1 ≠ 8 ∨ altAsi s addr ∉ asiRegister) →
    exec (r.2.1 rd rs1 addr) s = loadAlternate r.2.2.1 (extendOf r.2.2.2) rd rs1 addr s

theorem exec_LDXA_memory {s : State} {addr : AltOperand} (h : altAsi s addr ∉ asiRegister) (rd rs1 : Reg) :
    exec (.LDXA rd rs1 addr) s = loadAlternate 8 unsignedBytes rd rs1 addr s :=
  (if_neg h : (if altAsi s addr ∈ asiRegister then _ else _) = _)

theorem loadRows_loads : ∀ r ∈ loadRows, LoadRow r := by
  have row {r : ArithForm × (Reg → Reg → AltOperand → Instr) × Nat × Bool}
      (h1 : ∀ rd rs1 op2 s, exec (r.1 rd rs1 op2) s = loadImplicit r.2.2.1 (extendOf r.2.2.2) rd rs1 op2 s)
      (h2 : ∀ rd rs1 addr s, exec (r.2.1 rd rs1 addr) s = loadAlternate r.2.2.1 (extendOf r.2.2.2) rd rs1 addr s) :
      LoadRow r := ⟨h1, fun rd rs1 addr s _ => h2 rd rs1 addr s⟩
  simp only [loadRows, List.forall_mem_cons]
  exact ⟨row (fun _ _ _ _ => rfl) fun _ _ _ _ => rfl, row (fun _ _ _ _ => rfl) fun _ _ _ _ => rfl,
    row (fun _ _ _ _ => rfl) fun _ _ _ _ => rfl, row (fun _ _ _ _ => rfl) fun _ _ _ _ => rfl,
    row (fun _ _ _ _ => rfl) fun _ _ _ _ => rfl, row (fun _ _ _ _ => rfl) fun _ _ _ _ => rfl,
    ⟨fun _ _ _ _ => rfl, fun rd rs1 _ _ h => exec_LDXA_memory (h.resolve_left fun h8 => h8 rfl) rd rs1⟩,
    fun _ h => absurd h List.not_mem_nil⟩

theorem loadImplicit_accesses (n : Nat) (extend : Nat → Nat → Word64) (rd rs1 : Reg) (op2 : RegImm 13) (s : State) :
    Accesses (loadImplicit n extend rd rs1 op2 s) s s (placeImplicit s (readR s rs1 + operand2 s op2) n .load)
      fun x => writeR s rd (extend n (loadValue s x n)) := rfl

theorem loadAlternate_accesses (n : Nat) (extend : Nat → Nat → Word64) (rd rs1 : Reg) (addr : AltOperand) (s : State) :
    Accesses (loadAlternate n extend rd rs1 addr s) (openR s n extend rd) s
      (placeAsi s (altAsi s addr) (asiLoad ++ asiMonitor) (altAddr s rs1 addr) n .load)
      fun x => armMonitor s (altAsi s addr) x (writeR s rd (extend n (loadValue s x n))) := rfl

theorem nextWithR_armMonitor (s : State) (asi : BitVec 8) (x : Place) (rd : Reg) (v : Word64) :
    nextWithR (.next (advance (armMonitor s asi x (writeR s rd v))))
      { advance s with monitor := if asi ∈ asiMonitor then some (lineOf s x.ra) else s.monitor } rd v := by
  refine nextWithR_files (s := s) rfl rfl rfl rfl ?_
  rw [armMonitor, writeR_shape]
  split <;> rfl

theorem not_register_of_opens {s : State} {asi : BitVec 8} (h : opensAsi s asi) : asi ∉ asiRegister :=
  (asiImplementation_apart asi h.1).2

/-- A load with an ASI of the implementation writes a free value. -/
theorem nextWithR_openR (s : State) (signed : Bool) (n : Nat) (rd : Reg) :
    nextWithR (.next (advance (openR s n (extendOf signed) rd))) { advance s with freeCount := s.freeCount + 1 } rd
      (extended signed n ((Config.freeWord s.freeCount).toNat % 256 ^ n)) := by
  rw [openR, extendOf_mod]
  exact nextWithR_advance (drawn s) rd _

/-- Settles O37: each row is a load through the checks of its form. -/
theorem integerLoads : Obligations.IntegerLoads := by
  intro s rd rs1 op2 addr r hr n asi plain alternate
  have hrow := loadRows_loads r hr
  have hplain := loadImplicit_accesses n (extendOf r.2.2.2) rd rs1 op2 s
  have halt := loadAlternate_accesses n (extendOf r.2.2.2) rd rs1 addr s
  rw [← hrow.plain] at hplain
  refine ⟨fun x hx => ?_, hplain.stops.1, fun hreg => ?_, fun hopen hea => ?_⟩
  · rw [hplain.next hx, extendOf_eq _ (loadValue_lt s x n)]
    exact nextWithR_advance s rd _
  · rw [← hrow.alternate rd rs1 addr s hreg] at halt
    refine ⟨fun x hx => ?_, halt.stops.1⟩
    rw [halt.next hx, extendOf_eq _ (loadValue_lt s x n)]
    exact nextWithR_armMonitor s asi x rd _
  · rw [← hrow.alternate rd rs1 addr s (.inr (not_register_of_opens hopen))] at halt
    rw [halt.opens (placeAsi_opens hopen _ hea _)]
    exact nextWithR_openR s r.2.2.2 n rd

end Sys2Proof.Machine
end
section
/-!
PROOF. Integer stores: the bytes stored, and what a block-initialising store leaves.
-/

namespace Sys2Proof.Machine

open Sys2Proof

/-! ## Block-initialising stores -/

/-- Bytes outside the line, and those of the store itself, are not scrambled. -/
theorem read_scramble {s : State} (h : s.mem.wf = true) (first lo hi count : Nat) {a : Nat}
    (ha : a < first ∨ first + count ≤ a ∨ (lo ≤ a ∧ a < hi)) :
    (scramble s first lo hi count).mem.read a = s.mem.read a := by
  induction count with
  | zero => rfl
  | succ count ih =>
    rw [scramble]
    dsimp only
    split
    next => exact ih (by omega)
    next hout =>
      have hread := Memory.read_write (wf_scramble h first lo hi count) (first + count)
        (field (freeValue (scramble s first lo hi count)) 0 8) a
      rw [if_neg (by omega)] at hread
      exact hread.trans (ih (by omega))

theorem scramble_shape (s : State) (first lo hi count : Nat) : scramble s first lo hi count =
    { s with mem := (scramble s first lo hi count).mem, freeCount := (scramble s first lo hi count).freeCount } := by
  induction count with
  | zero => rfl
  | succ count ih =>
    rw [scramble]
    dsimp only
    split
    · exact ih
    · rw [ih]
      rfl

theorem stbiEffect_shape (s : State) (asi : BitVec 8) (x : Place) (n : Nat) (t : State) :
    stbiEffect s asi x n t =
      { t with mem := (stbiEffect s asi x n t).mem, freeCount := (stbiEffect s asi x n t).freeCount } := by
  rw [stbiEffect]
  split
  · exact scramble_shape t _ _ _ _
  · rfl

/-- The bytes of the store are not touched by its effect on the line. -/
theorem read_stbiEffect_in {t : State} (h : t.mem.wf = true) (s : State) (asi : BitVec 8) {x : Place} {n a : Nat}
    (ha : x.ra ≤ a ∧ a < x.ra + n) : (stbiEffect s asi x n t).mem.read a = t.mem.read a := by
  rw [stbiEffect]
  split
  · exact read_scramble h _ _ _ _ (.inr (.inr ha))
  · rfl

/-- The bytes that a block-initialising store leaves. -/
theorem read_stbiEffect_out {t : State} (h : t.mem.wf = true) (s : State) {asi : BitVec 8} {x : Place} {n a : Nat}
    (ha : asi ∉ asiStbi ++ asiStbiX ∨ s.par.stbiLineEffect = .unchanged ∨ a < lineOf s x.ra ∨
      lineOf s x.ra + s.par.cacheLine ≤ a) : (stbiEffect s asi x n t).mem.read a = t.mem.read a := by
  rw [stbiEffect]
  split
  next hasi =>
    obtain ⟨hmem, hline⟩ := hasi
    rcases ha with hno | hno | hlow | hhigh
    · exact absurd hmem hno
    · rw [hline] at hno
      cases hno
    · exact read_scramble h _ _ _ _ (.inl hlow)
    · exact read_scramble h _ _ _ _ (.inr (.inl hhigh))
  next => rfl

/-- A store of `n` bytes with its effect on the line. -/
theorem nextStoredAsi_stbi {s : State} (h : s.mem.wf = true) (asi : BitVec 8) (x : Place) (n v : Nat) :
    nextStoredAsi (.next (advance (stbiEffect s asi x n (storeValue s x n v)))) (advance s) asi x n v := by
  have hwf := wf_storeValue h x n v
  refine ⟨_, rfl, fun k hk => ?_, fun a hout hline => ?_, congrArg advance (stbiEffect_shape s asi x n _)⟩
  · exact (read_stbiEffect_in hwf s asi ⟨Nat.le_add_right _ _, Nat.add_lt_add_left hk _⟩).trans
      (read_storeValue_in h x n v k hk)
  · exact (read_stbiEffect_out hwf s hline).trans (read_storeValue_out h x n v a hout)

/-! ## Integer stores -/

/-- A row of `storeRows`: both forms of a store. -/
structure StoreRow (r : ArithForm × (Reg → Reg → AltOperand → Instr) × Nat) : Prop where
  plain : ∀ rd rs1 op2 s, exec (r.1 rd rs1 op2) s = storeImplicit r.2.2 rd rs1 op2 s
  alternate : ∀ rd rs1 addr s, (r.2.2 ≠ 8 ∨ altAsi s addr ∉ asiRegister) →
    Accesses (exec (r.2.1 rd rs1 addr) s) s s
      (placeAsi s (altAsi s addr) (storeAsis r.2.2) (altAddr s rs1 addr) r.2.2 .store)
      fun x => stbiEffect s (altAsi s addr) x r.2.2 (storeValue s x r.2.2 (readR s rd).toNat)

theorem exec_STXA_memory {s : State} {addr : AltOperand} (h : altAsi s addr ∉ asiRegister) (rd rs1 : Reg) :
    Accesses (exec (.STXA rd rs1 addr) s) s s
      (placeAsi s (altAsi s addr) (asiStore ++ asiStbiX) (altAddr s rs1 addr) 8 .store)
      fun x => stbiEffect s (altAsi s addr) x 8 (storeValue s x 8 (readR s rd).toNat) :=
  (if_neg h : (if altAsi s addr ∈ asiRegister then _ else _) = _)

theorem storeRows_stores : ∀ r ∈ storeRows, StoreRow r := by
  simp only [storeRows, List.forall_mem_cons]
  exact ⟨⟨fun _ _ _ _ => rfl, fun _ _ _ _ _ => rfl⟩, ⟨fun _ _ _ _ => rfl, fun _ _ _ _ _ => rfl⟩,
    ⟨fun _ _ _ _ => rfl, fun _ _ _ _ _ => rfl⟩,
    ⟨fun _ _ _ _ => rfl, fun rd rs1 _ _ h => exec_STXA_memory (h.resolve_left fun h8 => h8 rfl) rd rs1⟩,
    fun _ h => absurd h List.not_mem_nil⟩

theorem storeImplicit_accesses (n : Nat) (rd rs1 : Reg) (op2 : RegImm 13) (s : State) :
    Accesses (storeImplicit n rd rs1 op2 s) s s (placeImplicit s (readR s rs1 + operand2 s op2) n .store)
      fun x => storeValue s x n (readR s rd).toNat := rfl

/-- Settles O38: each row is a store through the checks of its form. -/
theorem integerStores : Obligations.IntegerStores := by
  intro s rd rs1 op2 addr hwf r hr n asi plain alternate
  have hrow := storeRows_stores r hr
  have hplain := storeImplicit_accesses n rd rs1 op2 s
  rw [← hrow.plain] at hplain
  refine ⟨fun x hx => ?_, hplain.stops.1, fun hreg => ?_, fun hopen hea => ?_⟩
  · rw [hplain.next hx]
    exact nextStored_storeValue (u := advance s) hwf x n _
  · have halt := hrow.alternate rd rs1 addr s hreg
    refine ⟨fun x hx => ?_, halt.stops.1⟩
    rw [halt.next hx]
    exact nextStoredAsi_stbi hwf asi x n _
  · have halt := hrow.alternate rd rs1 addr s (.inr (not_register_of_opens hopen))
    exact halt.opens (placeAsi_opens hopen _ hea _)

end Sys2Proof.Machine
end
section
/-!
PROOF. Twin loads and stores, and the atomic load-stores.
-/

namespace Sys2Proof.Machine

open Sys2Proof

/-! ## Even registers -/

theorem bit_zero_eq (n : Reg) : bit n 0 = decide (n.toNat % 2 = 1) := by
  rw [bit, ← BitVec.testBit_toNat, Nat.testBit_zero]

/-- A twin access with an even register goes on. -/
theorem finishOpen_needEven {rd : Reg} (h : rd.toNat % 2 = 0) (u s : State) (k : Unit → Eff State) :
    finishOpen u s (needEven rd >>= k) = finishOpen u s (k ()) := by
  rw [needEven, finishOpen_require, bit_zero_eq, decide_eq_false (by omega)]
  rfl

/-- A twin access with an odd register is illegal (R14). -/
theorem finishOpen_needEven_odd {rd : Reg} (h : rd.toNat % 2 = 1) (u s : State) (k : Unit → Eff State) :
    finishOpen u s (needEven rd >>= k) = takeTrap .illegalInstruction s := by
  rw [needEven, finishOpen_require, bit_zero_eq, decide_eq_true h]
  rfl

/-- The register above an even one. -/
theorem toNat_or_one {rd : Reg} (h : rd.toNat % 2 = 0) : (rd ||| 1).toNat = rd.toNat + 1 := by
  have hbv : rd ||| 1 = rd + 1 := by
    revert rd
    decide
  have hlt := rd.isLt
  rw [hbv, BitVec.toNat_add]
  exact Nat.mod_eq_of_lt (by change rd.toNat + 1 < 32; omega)

/-! ## Two registers written -/

theorem registersKept_trans {s t u : State} {l1 l2 : List Reg} (h1 : registersKept s t l1) (h2 : registersKept t u l2)
    (hgl : t.gl = s.gl) (hcwp : t.cwp = s.cwp) : registersKept s u (l1 ++ l2) := by
  obtain ⟨hg1, hw1⟩ := h1
  obtain ⟨hg2, hw2⟩ := h2
  constructor
  · intro i hi
    rw [List.forall_mem_append] at hi
    rw [hg2 i (hgl ▸ hi.2), hg1 i hi.1]
  · intro i hi
    rw [List.forall_mem_append] at hi
    rw [hw2 i (hcwp ▸ hi.2), hw1 i hi.1]

theorem nextWithPair_writeR (u : State) {rd : Reg} (h : rd.toNat % 2 = 0) (v1 v2 : Word64) :
    nextWithPair (.next (writeR (writeR u rd v1) (rd ||| 1) v2)) u rd v1 v2 := by
  have hodd := toNat_or_one h
  have hne : rd ≠ rd ||| 1 := fun heq => by
    have := congrArg BitVec.toNat heq
    omega
  have hne0 : rd ||| 1 ≠ 0 := fun heq => by
    rw [heq] at hodd
    exact absurd hodd (Nat.succ_ne_zero _).symm
  refine ⟨_, rfl, ?_, ?_, ?_, ?_, ?_⟩
  · rw [readR_writeR_ne _ hne, readR_writeR]
    by_cases h0 : rd = 0
    · rw [if_neg fun hc => hc.2 h0, if_pos h0, h0]
      rfl
    · rw [if_pos ⟨rfl, h0⟩, if_neg h0]
  · rw [readR_writeR, if_pos ⟨rfl, hne0⟩]
  · refine registersKept_trans (registersKept_writeR u rd v1) (registersKept_writeR (writeR u rd v1) (rd ||| 1) v2) ?_ ?_
    · rw [writeR_shape]
    · rw [writeR_shape]
  · intro a
    rw [writeR_shape, writeR_shape u]
  · rw [writeR_shape, writeR_shape u]

/-! ## Twin loads -/

theorem advance_loadTwin (s : State) (x : Place) (n : Nat) (rd : Reg) : advance (loadTwin s x n rd) =
    writeR (writeR (advance s) rd (BitVec.ofNat 64 (loadValue s x n))) (rd ||| 1)
      (BitVec.ofNat 64 (loadValue s (x.plus n) n)) := by
  rw [loadTwin, unsignedBytes_of_lt (loadValue_lt _ _ _), unsignedBytes_of_lt (loadValue_lt _ _ _), advance_writeR,
    advance_writeR]

/-- A twin load, through the checks that give its place. -/
theorem twinLoad_ends {o : Out} {u s : State} {p : Eff Place} {n : Nat} {rd : Reg} (hrd : rd.toNat % 2 = 0)
    (h : o = finishOpen u s (needEven rd >>= fun _ => p >>= fun x => .ok (advance (loadTwin s x n rd)))) :
    Accesses o u s p (fun x => loadTwin s x n rd) ∧ stopsAs o s p ∧ ∀ x, p = .ok x →
      nextWithPair o (advance s) rd (BitVec.ofNat 64 (loadValue s x n)) (BitVec.ofNat 64 (loadValue s (x.plus n) n)) := by
  have hacc : Accesses o u s p (fun x => loadTwin s x n rd) := h.trans (finishOpen_needEven hrd u s _)
  refine ⟨hacc, hacc.stops, fun x hx => ?_⟩
  rw [hacc.next hx, advance_loadTwin]
  exact nextWithPair_writeR (advance s) hrd _ _

theorem drawn_writeR (s : State) (rd : Reg) (v : Word64) : drawn (writeR s rd v) = writeR (drawn s) rd v := by
  rw [writeR_congr (s := s) (u := drawn s) rfl rfl rfl rfl, writeR_shape]
  rfl

theorem unsignedBytes_four (v : Word64) : unsignedBytes 4 v.toNat = (field v 0 32).setWidth 64 := by
  rw [field_zero_eq_ofNat]
  rfl

/-- LDTWA with an ASI of the implementation writes two free words. -/
theorem advance_openTwin (s : State) (rd : Reg) :
    advance (openR (openR s 4 unsignedBytes rd) 4 unsignedBytes (rd ||| 1)) =
      writeR (writeR { advance s with freeCount := s.freeCount + 2 } rd
        ((field (Config.freeWord s.freeCount) 0 32).setWidth 64)) (rd ||| 1)
        ((field (Config.freeWord (s.freeCount + 1)) 0 32).setWidth 64) := by
  have hcount : (openR s 4 unsignedBytes rd).freeCount = s.freeCount + 1 := by
    rw [openR, writeR_shape]
    rfl
  rw [openR, freeValue, hcount, openR, drawn_writeR, advance_writeR, advance_writeR, unsignedBytes_four, freeValue,
    unsignedBytes_four]
  rfl

/-! ## Twin stores -/

/-- The two words of a twin store. -/
theorem storeTwin_spec {s : State} (hwf : s.mem.wf = true) (x : Place) (rd : Reg) :
    (bytesStored (storeTwin s x rd) x 4 (readR s rd).toNat ∧
      bytesStored (storeTwin s x rd) (x.plus 4) 4 (readR s (rd ||| 1)).toNat) ∧
    ∀ a, a < x.ra ∨ x.ra + 8 ≤ a → (storeTwin s x rd).mem.read a = s.mem.read a := by
  have hfirst := wf_storeValue hwf x 4 (readR s rd).toNat
  refine ⟨⟨fun k hk => ?_, fun k hk => read_storeValue_in hfirst (x.plus 4) 4 _ k hk⟩, fun a ha => ?_⟩
  · exact (read_storeValue_out hfirst (x.plus 4) 4 _ _ (.inl (Nat.add_lt_add_left hk x.ra))).trans
      (read_storeValue_in hwf x 4 _ k hk)
  · have hplus : (x.plus 4).ra = x.ra + 4 := rfl
    exact (read_storeValue_out hfirst (x.plus 4) 4 _ a (by omega)).trans (read_storeValue_out hwf x 4 _ a (by omega))

/-- Settles O39: twin accesses check the register, then the place, and access both words. -/
theorem twinAccesses : Obligations.TwinAccesses := by
  intro s rd rs1 rs2 op2 addr asi hwf ea loaded stored plain alternate
  refine ⟨fun hodd => ?_, fun heven => ?_⟩
  · simp only [List.forall_mem_cons]
    exact ⟨finishOpen_needEven_odd hodd _ _ _, finishOpen_needEven_odd hodd _ _ _, finishOpen_needEven_odd hodd _ _ _,
      finishOpen_needEven_odd hodd _ _ _, finishOpen_needEven_odd hodd _ _ _, fun _ h => absurd h List.not_mem_nil⟩
  · have hplain : Accesses (exec (.STTW rd rs1 op2) s) s s plain (fun x => storeTwin s x rd) :=
      finishOpen_needEven heven s s _
    have halt : Accesses (exec (.STTWA rd rs1 addr) s) s s alternate
        (fun x => stbiEffect s (altAsi s addr) x 8 (storeTwin s x rd)) := finishOpen_needEven heven s s _
    obtain ⟨hopenLoad, hload⟩ := twinLoad_ends heven (o := exec (.LDTWA rd rs1 addr) s) rfl
    refine ⟨(twinLoad_ends heven rfl).2, hload, (twinLoad_ends heven rfl).2, hplain.stops, fun x hx => ?_, halt.stops,
      fun x hx => ?_, fun hopen hea => ⟨?_, halt.opens (placeAsi_opens hopen _ hea _)⟩⟩
    · obtain ⟨hstored, hkept⟩ := storeTwin_spec hwf x rd
      exact ⟨_, hplain.next hx, hstored, hkept, rfl⟩
    · obtain ⟨⟨h1, h2⟩, hkept⟩ := storeTwin_spec hwf x rd
      have hwf' := wf_storeTwin hwf x rd
      have hplus : (x.plus 4).ra = x.ra + 4 := rfl
      refine ⟨_, halt.next hx, ⟨fun k hk => ?_, fun k hk => ?_⟩, fun a hout hline => ?_,
        congrArg advance (stbiEffect_shape s (altAsi s addr) x 8 _)⟩
      · exact (read_stbiEffect_in hwf' s _ (by omega)).trans (h1 k hk)
      · exact (read_stbiEffect_in hwf' s _ (by omega)).trans (h2 k hk)
      · exact (read_stbiEffect_out hwf' s hline).trans (hkept a hout)
    · rw [hopenLoad.opens (placeAsi_opens hopen _ hea _), advance_openTwin]
      exact nextWithPair_writeR _ heven _ _

end Sys2Proof.Machine
end
section
/-!
PROOF. Atomic load-stores: the old value to R[rd], the new one to memory.
-/

namespace Sys2Proof.Machine

open Sys2Proof

/-- An exchange: R[rd] takes the old value, and `n` bytes of `v` are stored. -/
def Exchanged (o : Out) (s : State) (rd : Reg) (x : Place) (n v : Nat) : Prop :=
  ∃ m, nextWithR o { advance s with mem := m } rd (BitVec.ofNat 64 (loadValue s x n)) ∧
    bytesStored { s with mem := m } x n v ∧ memoryKeptOutside s { s with mem := m } x.ra n

theorem exchanged_storeValue {s : State} (hwf : s.mem.wf = true) (rd : Reg) (x : Place) (n v : Nat) :
    Exchanged (.next (advance (writeR (storeValue s x n v) rd (unsignedBytes n (loadValue s x n))))) s rd x n v := by
  refine ⟨(storeValue s x n v).mem, ?_, bytesStored_storeValue hwf x n v, memoryKeptOutside_storeValue hwf x n v⟩
  rw [unsignedBytes_of_lt (loadValue_lt s x n)]
  exact nextWithR_advance (storeValue s x n v) rd _

/-- LDSTUB and SWAP, through the checks that give their place. -/
theorem exchange_ends {s u : State} (hwf : s.mem.wf = true) {o : Out} {p : Eff Place} {rd : Reg} {n v : Nat}
    (h : Accesses o u s p fun x => writeR (storeValue s x n v) rd (unsignedBytes n (loadValue s x n))) :
    stopsAs o s p ∧ ∀ x, p = .ok x → Exchanged o s rd x n v :=
  ⟨h.stops, fun x hx => h.next hx ▸ exchanged_storeValue hwf rd x n v⟩

/-- An exchange with an ASI of the implementation writes a free value. -/
theorem exchange_opens {s : State} {o : Out} {p : Eff Place} {rd : Reg} {n : Nat} {after : Place → State}
    (h : Accesses o (openR s n unsignedBytes rd) s p after) (hp : p = .error .implementation) :
    nextWithR o { advance s with freeCount := s.freeCount + 1 } rd
      (BitVec.ofNat 64 ((Config.freeWord s.freeCount).toNat % 256 ^ n)) := by
  rw [h.opens hp]
  exact nextWithR_openR s false n rd

/-- The state after a compare and swap. -/
def casState (s : State) (n : Nat) (rd rs2 : Reg) (x : Place) : State :=
  writeR (if loadValue s x n = (readR s rs2).toNat % 256 ^ n then storeValue s x n (readR s rd).toNat else s) rd
    (unsignedBytes n (loadValue s x n))

theorem compareSwap_accesses (n : Nat) (rd rs1 rs2 : Reg) (source : AsiSource) (s : State) :
    Accesses (compareSwap n rd rs1 rs2 source s) (openR s n unsignedBytes rd) s
      (placeAsi s (casAsi s source) asiAtomic (readR s rs1) n .atomic) (casState s n rd rs2) := rfl

/-- CASA and CASXA, through the checks that give their place. -/
theorem compareSwap_ends {s u : State} (hwf : s.mem.wf = true) {o : Out} {p : Eff Place} {rd rs2 : Reg} {n : Nat}
    (h : Accesses o u s p (casState s n rd rs2)) :
    stopsAs o s p ∧ ∀ x, p = .ok x →
      (loadValue s x n = (readR s rs2).toNat % 256 ^ n → Exchanged o s rd x n (readR s rd).toNat) ∧
      (loadValue s x n ≠ (readR s rs2).toNat % 256 ^ n →
        nextWithR o (advance s) rd (BitVec.ofNat 64 (loadValue s x n))) := by
  refine ⟨h.stops, fun x hx => ⟨fun heq => ?_, fun hne => ?_⟩⟩
  · rw [h.next hx, casState, if_pos heq]
    exact exchanged_storeValue hwf rd x n _
  · rw [h.next hx, casState, if_neg hne, unsignedBytes_of_lt (loadValue_lt s x n)]
    exact nextWithR_advance s rd _

/-- Settles O40: each atomic access exchanges, or compares and exchanges, at the place of its checks. -/
theorem atomicAccesses : Obligations.AtomicAccesses := by
  intro s rd rs1 rs2 op2 addr source hwf ea exchanged exchanges compares place casPlace
  have hldstub : Accesses (exec (.LDSTUBA rd rs1 addr) s) (openR s 1 unsignedBytes rd) s (place 1)
    fun x => writeR (storeValue s x 1 0xFF) rd (unsignedBytes 1 (loadValue s x 1)) := rfl
  have hswap : Accesses (exec (.SWAPA rd rs1 addr) s) (openR s 4 unsignedBytes rd) s (place 4)
    fun x => writeR (storeValue s x 4 (readR s rd).toNat) rd (unsignedBytes 4 (loadValue s x 4)) := rfl
  have hcas := compareSwap_accesses 4 rd rs1 rs2 source s
  have hcasx := compareSwap_accesses 8 rd rs1 rs2 source s
  refine ⟨exchange_ends hwf (u := s) rfl, exchange_ends hwf hldstub, exchange_ends hwf (u := s) rfl,
    exchange_ends hwf hswap, compareSwap_ends hwf hcas, compareSwap_ends hwf hcasx, fun hopen => ?_, fun hopen => ?_⟩
  · exact ⟨exchange_opens hldstub (placeAsi_opens hopen _ (Nat.mod_one _) _),
      fun hea => exchange_opens hswap (placeAsi_opens hopen _ hea _)⟩
  · exact ⟨fun hea => exchange_opens hcas (placeAsi_opens hopen _ hea _),
      fun hea => exchange_opens hcasx (placeAsi_opens hopen _ hea _)⟩

end Sys2Proof.Machine
end
section
/-!
PROOF. Barriers, FLUSH and the prefetches.
-/

namespace Sys2Proof.Machine

open Sys2Proof

/-- FLUSH without the MMU drops every copy (R221). -/
theorem exec_FLUSH_all {s : State} (h : s.par.flushUsesMmu = false) (rs1 : Reg) (op2 : RegImm 13) :
    exec (.FLUSH rs1 op2) s = .next (advance { s with code := [] }) := by
  change finish s (if s.par.flushUsesMmu = true then _ else _) = _
  rw [h]
  rfl

/-- FLUSH through the MMU drops the copies of its doubleword (R221). -/
theorem exec_FLUSH_translated {s : State} (h : s.par.flushUsesMmu = true) (rs1 : Reg) (op2 : RegImm 13) :
    Accesses (exec (.FLUSH rs1 op2) s) s s
      (locate s (implicitAsi s) ((asiSpace (implicitAsi s)).getD .primary)
        (BitVec.ofNat 64 ((readR s rs1 + operand2 s op2).toNat / 8 * 8)) ⟨false, false, false⟩)
      fun x => dropCode s x.ra := by
  rw [← and_not_seven]
  exact congrArg (finish s) (if_pos h)

theorem mem_dropCode (s : State) (ra : Nat) (c : CodeCopy) :
    c ∈ (dropCode s ra).code ↔ c ∈ s.code ∧ c.ra / 8 ≠ ra / 8 := by
  rw [dropCode, List.mem_filter, bne_iff_ne]

/-- A reserved prefetch function is illegal (R244). -/
theorem finish_needPrefetchFcn_reserved {fcn : BitVec 5} (h5 : 5 ≤ fcn.toNat) (h16 : fcn.toNat < 16) (s : State)
    (k : Unit → Eff State) : finish s (needPrefetchFcn fcn >>= k) = takeTrap .illegalInstruction s := by
  rw [finish_needPrefetchFcn, if_pos ⟨h5, by omega⟩]

theorem finish_needPrefetchFcn_defined {fcn : BitVec 5} (h : fcn.toNat < 5 ∨ 16 ≤ fcn.toNat) (s : State)
    (k : Unit → Eff State) : finish s (needPrefetchFcn fcn >>= k) = finish s (k ()) := by
  rw [finish_needPrefetchFcn, if_neg (by omega)]

/-- Settles O42: FLUSH by FLUSH_USES_MMU, and the prefetches by their function and then the checks of the ASI. -/
theorem barriersAndPrefetch : Obligations.BarriersAndPrefetch := by
  intro s rs1 op2 addr cmask mmask fcn
  refine ⟨rfl, rfl, fun h => exec_FLUSH_all h rs1 op2, fun h => ?_, fun hfcn => ⟨?_, ?_⟩, fun h5 h16 => ⟨?_, ?_⟩⟩
  · have hacc := exec_FLUSH_translated h rs1 op2
    exact ⟨hacc.stops, fun x hx => ⟨_, hacc.next hx, mem_dropCode s x.ra⟩⟩
  · exact finish_needPrefetchFcn_defined hfcn s _
  · intro asi valid o
    have ho : o = finish s (checkPrefetchAsi s asi >>= fun _ => .ok (advance s)) :=
      finish_needPrefetchFcn_defined hfcn s _
    rw [finish_checkPrefetchAsi] at ho
    have hvalid : (decide (asi ∈ asiPrefetch) && !asiAbsent s.par asi false) = true ↔ valid := by
      simp [valid]
    have hopens (hpriv : asiPrivileged s asi = false) : implAsi s.par asi = true ↔ opensAsi s asi := by
      simp [implAsi, opensAsi, hpriv]
    refine ⟨fun hnop => ?_, fun hpriv hok => ?_, fun hnop hpriv => ?_, fun hnop hpriv hinvalid hclosed => ?_⟩
    · rw [ho, if_pos hnop]
      rfl
    · have haccepted := (Bool.or_eq_true _ _).mpr (hok.imp hvalid.mpr (hopens hpriv).mpr)
      rw [ho, hpriv, if_neg Bool.false_ne_true, if_pos haccepted, ite_self]
      rfl
    · rw [ho, hnop, if_neg Bool.false_ne_true, if_pos hpriv]
    · rw [ho, hnop, hpriv, if_neg Bool.false_ne_true, if_neg Bool.false_ne_true, if_neg]
      rw [Bool.or_eq_true, hvalid, hopens hpriv]
      exact not_or.mpr ⟨hinvalid, hclosed⟩
  · exact finish_needPrefetchFcn_reserved h5 h16 s _
  · exact finish_needPrefetchFcn_reserved h5 h16 s _

end Sys2Proof.Machine
end

section
/-!
PROOF. The register ASIs: the checks, and what each register gives and takes.
-/

namespace Sys2Proof.Machine

open Sys2Proof

/-! ## Fields of the stored values -/

/-- Clearing the low `n` bits rounds down. -/
theorem and_not_low (n : Nat) (v : Word64) :
    v &&& ~~~(BitVec.ofNat 64 (2 ^ n - 1)) = BitVec.ofNat 64 (v.toNat / 2 ^ n * 2 ^ n) := by
  apply BitVec.eq_of_getLsbD_eq
  intro i hi
  rw [BitVec.getLsbD_and, BitVec.getLsbD_not, BitVec.getLsbD_ofNat, BitVec.getLsbD_ofNat,
    Nat.testBit_two_pow_sub_one, Nat.testBit_mul_two_pow, Nat.testBit_div_two_pow, decide_eq_true hi, Bool.true_and,
    Bool.true_and, Bool.true_and, BitVec.getLsbD]
  by_cases h : i < n
  · rw [decide_eq_true h, decide_eq_false (Nat.not_le.mpr h), Bool.not_true, Bool.and_false, Bool.false_and]
  · rw [decide_eq_false h, decide_eq_true (Nat.not_lt.mp h), Nat.sub_add_cancel (Nat.not_lt.mp h), Bool.not_false,
      Bool.and_true, Bool.true_and]

/-- A context register keeps the implemented low bits (R87). -/
theorem contextId_eq (par : Config.Params) (v : Word64) :
    contextId par v = BitVec.ofNat 16 (v.toNat % 2 ^ par.contextBits) := by
  apply BitVec.eq_of_getLsbD_eq
  intro i hi
  rw [contextId, field_zero_eq_ofNat, BitVec.getLsbD_and, BitVec.getLsbD_ofNat, BitVec.getLsbD_ofNat,
    BitVec.getLsbD_ofNat, Nat.testBit_two_pow_sub_one, Nat.testBit_mod_two_pow, decide_eq_true hi, Bool.true_and,
    Bool.true_and, Bool.true_and, Bool.and_comm]

/-! ## The checks -/

/-- LDXA and STXA of R[rd] with a register ASI at an address. -/
structure RegisterAccess (load store : Out) (s : State) (rd : Reg) (asi : BitVec 8) (ea : Word64) : Prop where
  load_eq : load = finish s (checkRegisterAsi s asi ea >>= fun _ => readInternal s asi ea.toNat >>= fun r =>
    .ok (advance (writeR r.2 rd r.1)))
  store_eq : store = finish s (checkRegisterAsi s asi ea >>= fun _ => writeInternal s asi ea.toNat (readR s rd) >>=
    fun t => .ok (advance t))

theorem exec_registerAccess {s : State} {addr : AltOperand} (h : altAsi s addr ∈ asiRegister) (rd rs1 : Reg) :
    RegisterAccess (exec (.LDXA rd rs1 addr) s) (exec (.STXA rd rs1 addr) s) s rd (altAsi s addr)
      (altAddr s rs1 addr) where
  load_eq := (if_pos h : (if altAsi s addr ∈ asiRegister then _ else _) = _)
  store_eq := (if_pos h : (if altAsi s addr ∈ asiRegister then _ else _) = _)

/-- The checks let the access to the register. -/
structure RegisterReached (load store : Out) (s : State) (rd : Reg) (asi : BitVec 8) (va : Nat) : Prop where
  load_eq : load = finish s (readInternal s asi va >>= fun r => .ok (advance (writeR r.2 rd r.1)))
  store_eq : store = finish s (writeInternal s asi va (readR s rd) >>= fun t => .ok (advance t))

section
variable {load store : Out} {s : State} {rd : Reg} {asi : BitVec 8} {ea : Word64}

theorem RegisterAccess.misaligned (h : RegisterAccess load store s rd asi ea) (hea : ea.toNat % 8 ≠ 0) :
    load = takeTrap .memAddressNotAligned s ∧ store = takeTrap .memAddressNotAligned s := by
  have hno : ¬aligned ea 8 = true := mt (aligned_iff ea 8).mp hea
  rw [h.load_eq, h.store_eq, finish_checkRegisterAsi, finish_checkRegisterAsi, if_neg hno, if_neg hno]
  exact ⟨rfl, rfl⟩

theorem RegisterAccess.privileged (h : RegisterAccess load store s rd asi ea) (hea : ea.toNat % 8 = 0)
    (hpriv : asiPrivileged s asi = true) :
    load = takeTrap .privilegedAction s ∧ store = takeTrap .privilegedAction s := by
  have hal := (aligned_iff ea 8).mpr hea
  rw [h.load_eq, h.store_eq, finish_checkRegisterAsi, finish_checkRegisterAsi, if_pos hal, if_pos hal, if_pos hpriv,
    if_pos hpriv]
  exact ⟨rfl, rfl⟩

theorem RegisterAccess.absent (h : RegisterAccess load store s rd asi ea) (hea : ea.toNat % 8 = 0)
    (hpriv : asiPrivileged s asi = false) (hpic : asi ≠ asiPic) (habs : asiAbsent s.par asi false = true) :
    load = takeTrap .daeInvalidAsi s ∧ store = takeTrap .daeInvalidAsi s := by
  have hal := (aligned_iff ea 8).mpr hea
  rw [h.load_eq, h.store_eq, finish_checkRegisterAsi, finish_checkRegisterAsi, if_pos hal, if_pos hal, hpriv, habs,
    decide_eq_false hpic]
  exact ⟨rfl, rfl⟩

theorem RegisterAccess.reached (h : RegisterAccess load store s rd asi ea) (hea : ea.toNat % 8 = 0)
    (hpriv : asiPrivileged s asi = false) (hhas : asi = asiPic ∨ asiAbsent s.par asi false = false) :
    RegisterReached load store s rd asi ea.toNat := by
  have hal := (aligned_iff ea 8).mpr hea
  have hok : (decide (asi = asiPic) || !asiAbsent s.par asi false) = true := by
    rw [Bool.or_eq_true, decide_eq_true_iff, Bool.not_eq_true']
    exact hhas
  constructor
  · rw [h.load_eq, finish_checkRegisterAsi, if_pos hal, hpriv, if_neg Bool.false_ne_true, if_pos hok]
  · rw [h.store_eq, finish_checkRegisterAsi, if_pos hal, hpriv, if_neg Bool.false_ne_true, if_pos hok]

variable {va : Nat} (h : RegisterReached load store s rd asi va)
include h

theorem RegisterReached.loads {x : Word64} {t : State} (hr : readInternal s asi va = .ok (x, t)) :
    nextWithR load (advance t) rd x := by
  rw [h.load_eq, hr]
  exact nextWithR_advance t rd x

theorem RegisterReached.stores {t : State} (hw : writeInternal s asi va (readR s rd) = .ok t) :
    store = .next (advance t) := by
  rw [h.store_eq, hw]
  rfl

theorem RegisterReached.load_badVa (hr : readInternal s asi va = badVa) : load = takeTrap .daeInvalidAsi s := by
  rw [h.load_eq, hr]
  rfl

theorem RegisterReached.store_badVa (hw : writeInternal s asi va (readR s rd) = badVa) :
    store = takeTrap .daeInvalidAsi s := by
  rw [h.store_eq, hw]
  rfl

theorem RegisterReached.holds {x : Word64} {t : State} (hr : readInternal s asi va = .ok (x, s))
    (hw : writeInternal s asi va (readR s rd) = .ok t) :
    nextWithR load (advance s) rd x ∧ store = .next (advance t) := ⟨h.loads hr, h.stores hw⟩

theorem RegisterReached.bad
    (hbad : readInternal s asi va = badVa ∧ writeInternal s asi va (readR s rd) = badVa) :
    load = takeTrap .daeInvalidAsi s ∧ store = takeTrap .daeInvalidAsi s :=
  ⟨h.load_badVa hbad.1, h.store_badVa hbad.2⟩

end

/-! ## The places of the registers -/

theorem scratchpadAt_eq {par : Config.Params} {i : Fin 8} (h : i.val < 4 ∨ par.scratchpad47 = true) :
    scratchpadAt par (8 * i.val) = some i := by
  have hdiv : 8 * i.val / 8 = i.val := Nat.mul_div_cancel_left _ (by decide)
  rw [scratchpadAt, dif_pos (by omega), if_pos ⟨Nat.mul_mod_right 8 _, by rwa [hdiv]⟩]
  exact congrArg some (Fin.ext hdiv)

theorem scratchpadAt_none {par : Config.Params} {va : Nat} (h : 64 ≤ va ∨ (32 ≤ va ∧ par.scratchpad47 = false)) :
    scratchpadAt par va = none := by
  rw [scratchpadAt]
  split
  · rw [if_neg]
    rintro ⟨-, hlow | hpar⟩
    · omega
    · obtain hhigh | ⟨-, hno⟩ := h
      · omega
      · exact Bool.false_ne_true (hno.symm.trans hpar)
  · rfl

theorem picAt_eq {par : Config.Params} {i : Fin 4} (h : i.val < par.picCount) : picAt par (8 * i.val) = some i := by
  have hdiv : 8 * i.val / 8 = i.val := Nat.mul_div_cancel_left _ (by decide)
  rw [picAt, dif_pos (by omega), if_pos ⟨Nat.mul_mod_right 8 _, by rwa [hdiv]⟩]
  exact congrArg some (Fin.ext hdiv)

theorem picAt_none {par : Config.Params} {va : Nat} (h : 32 ≤ va ∨ 8 * par.picCount ≤ va) : picAt par va = none := by
  rw [picAt]
  split
  · rw [if_neg (by omega)]
  · rfl

/-- The head of each queue stands at its address, and the tail 8 bytes further (R88). -/
theorem queueAt_eq : ∀ q ∈ [(0x3C0, Queue.cpuMondo), (0x3D0, .devMondo), (0x3E0, .resumable), (0x3F0, .nonresumable)],
    queueAt q.1 = some q.2 ∧ queueAt (q.1 + 8) = some q.2 ∧ q.1 % 16 = 0 ∧ (q.1 + 8) % 16 = 8 := by
  decide

theorem queueAt_none {va : Nat} (h : va < 0x3C0 ∨ 0x400 ≤ va) : queueAt va = none := by
  rw [queueAt, if_neg (by omega), if_neg (by omega), if_neg (by omega), if_neg (by omega)]

/-! ## What the registers hold -/

/-- A scratchpad register (R86). -/
theorem scratchpad_access (s : State) (v : Word64) {i : Fin 8} (h : i.val < 4 ∨ s.par.scratchpad47 = true) :
    readInternal s asiScratchpad (8 * i.val) = .ok (s.scratchpad[i], s) ∧
      writeInternal s asiScratchpad (8 * i.val) v = .ok { s with scratchpad := s.scratchpad.set i v } := by
  constructor
  · rw [readInternal, if_pos rfl, scratchpadAt_eq h]
  · rw [writeInternal, if_pos rfl, scratchpadAt_eq h]

theorem scratchpad_bad {s : State} (v : Word64) {va : Nat} (h : 64 ≤ va ∨ (32 ≤ va ∧ s.par.scratchpad47 = false)) :
    readInternal s asiScratchpad va = badVa ∧ writeInternal s asiScratchpad va v = badVa := by
  constructor
  · rw [readInternal, if_pos rfl, scratchpadAt_none h]
  · rw [writeInternal, if_pos rfl, scratchpadAt_none h]

theorem context_bad (s : State) (v : Word64) {va : Nat} (h : va ∉ [0x008, 0x010, 0x028, 0x030, 0x108, 0x110]) :
    readInternal s asiContextId va = badVa ∧ writeInternal s asiContextId va v = badVa := by
  simp only [List.mem_cons, List.not_mem_nil, or_false, not_or] at h
  obtain ⟨h08, h10, h28, h30, h108, h110⟩ := h
  constructor
  · rw [readInternal, if_neg (by decide), if_pos rfl, if_neg (by omega), if_neg (by omega), if_neg h108, if_neg h110]
  · rw [writeInternal, if_neg (by decide), if_pos rfl, if_neg h08, if_neg h10, if_neg h28, if_neg h30, if_neg h108,
      if_neg h110]

/-- A value within the maximum offset is rounded down to a multiple of 64 (R88). -/
theorem queueOffset_low {s : State} {v : Word64} (h : v.toNat ≤ s.par.queueMaxOffset) :
    queueOffset s v = BitVec.ofNat 64 (v.toNat / 64 * 64) := by
  rw [queueOffset, if_neg (Nat.not_lt.mpr h)]
  exact and_not_low 6 v

theorem queueOffset_aligned (s : State) (v : Word64) : (queueOffset s v).toNat % 64 = 0 := by
  have haligned (w : Word64) : (w &&& ~~~(0x3F : Word64)).toNat % 64 = 0 := by
    have hlow := and_not_low 6 w
    rw [show (0x3F : Word64) = BitVec.ofNat 64 (2 ^ 6 - 1) from rfl, hlow, BitVec.toNat_ofNat]
    omega
  exact haligned _

/-- A queue register takes what `queueOffset` says (R88, R488). -/
theorem queue_stores {store : Out} {s : State} {make : Word64 → State} (v : Word64)
    (h : store = .next (make (queueOffset s v))) :
    (v.toNat ≤ s.par.queueMaxOffset → store = .next (make (BitVec.ofNat 64 (v.toNat / 64 * 64)))) ∧
      (s.par.queueMaxOffset < v.toNat → ∃ w : Word64, w.toNat % 64 = 0 ∧ store = .next (make w)) :=
  ⟨fun hlow => queueOffset_low hlow ▸ h, fun _ => ⟨_, queueOffset_aligned s v, h⟩⟩

section
variable (s : State) (v : Word64) {va : Nat} {q : Queue} (hq : queueAt va = some q)
include hq

theorem queueHead_access (hva : va % 16 = 0) : readInternal s asiQueue va = .ok (s.queueHead.get q, s) ∧
    writeInternal s asiQueue va v = .ok { drawn s with queueHead := s.queueHead.set q (queueOffset s v) } := by
  constructor
  · rw [readInternal, if_neg (by decide), if_neg (by decide), if_pos rfl, hq]
    exact if_pos hva
  · rw [writeInternal, if_neg (by decide), if_neg (by decide), if_pos rfl, hq]
    exact if_pos hva

theorem queueTail_read (hva : va % 16 = 8) : readInternal s asiQueue va = .ok (s.queueTail.get q, s) := by
  rw [readInternal, if_neg (by decide), if_neg (by decide), if_pos rfl, hq]
  dsimp only
  rw [if_neg (by omega), if_pos hva]

theorem queueTail_write (hva : va % 16 = 8) : writeInternal s asiQueue va v =
    if s.par.queueTailWritable then .ok { drawn s with queueTail := s.queueTail.set q (queueOffset s v) } else badVa := by
  rw [writeInternal, if_neg (by decide), if_neg (by decide), if_pos rfl, hq]
  dsimp only
  rw [if_neg (by omega)]
  exact if_congr (and_iff_right hva) rfl rfl

end

theorem queue_bad (s : State) (v : Word64) {va : Nat} (h : va < 0x3C0 ∨ 0x400 ≤ va) :
    readInternal s asiQueue va = badVa ∧ writeInternal s asiQueue va v = badVa := by
  constructor
  · rw [readInternal, if_neg (by decide), if_neg (by decide), if_pos rfl, queueAt_none h]
  · rw [writeInternal, if_neg (by decide), if_neg (by decide), if_pos rfl, queueAt_none h]

/-- A performance counter reads as a free value (R490). -/
theorem pic_access (s : State) (v : Word64) {i : Fin 4} (h : i.val < s.par.picCount) :
    readInternal s asiPic (8 * i.val) = .ok (picValue s.par (freeValue s),
        { drawn s with pic := s.pic.set i (picValue s.par (freeValue s)) }) ∧
      writeInternal s asiPic (8 * i.val) v = .ok { s with pic := s.pic.set i (picValue s.par v) } := by
  constructor
  · rw [readInternal, if_neg (by decide), if_neg (by decide), if_neg (by decide), picAt_eq h]
  · rw [writeInternal, if_neg (by decide), if_neg (by decide), if_neg (by decide), picAt_eq h]

theorem pic_bad {s : State} (v : Word64) {va : Nat} (h : 32 ≤ va ∨ 8 * s.par.picCount ≤ va) :
    readInternal s asiPic va = badVa ∧ writeInternal s asiPic va v = badVa := by
  constructor
  · rw [readInternal, if_neg (by decide), if_neg (by decide), if_neg (by decide), picAt_none h]
  · rw [writeInternal, if_neg (by decide), if_neg (by decide), if_neg (by decide), picAt_none h]

theorem picValue_lt (par : Config.Params) (v : Word64) : (picValue par v).toNat < 2 ^ par.picBits := by
  rw [picValue, BitVec.toNat_ofNat]
  exact Nat.lt_of_le_of_lt (Nat.mod_le _ _) (Nat.mod_lt _ (Nat.two_pow_pos _))

/-! ## The accesses -/

/-- The register ASIs but the performance counters, their privilege and presence. -/
theorem registerAsi_rows {asi : BitVec 8} (h : asi ∈ [0x20, 0x21, 0x25]) (s : State) :
    asi ∈ asiRegister ∧ asi ≠ asiPic ∧ asiPrivileged s asi = !s.pstate.priv ∧
      asiAbsent s.par asi false = s.par.absentAsis.contains asi := by
  have hsmall : asi ∈ asiRegister ∧ asi ≠ asiPic ∧ ¬0x30 ≤ asi.toNat ∧ bit asi 7 = false ∧ asi ∉ asiRequired := by
    revert asi
    decide
  obtain ⟨hmem, hpic, hlow, hbit, hreq⟩ := hsmall
  refine ⟨hmem, hpic, ?_, ?_⟩
  · rw [asiPrivileged, hbit, decide_eq_false (mt And.left hlow)]
    cases s.pstate.priv <;> rfl
  · rw [asiAbsent, decide_eq_false hreq, Bool.false_and, Bool.not_false, Bool.and_true]
    exact if_neg Bool.false_ne_true

theorem asiPrivileged_pic (s : State) : asiPrivileged s asiPic = false := by
  rw [asiPrivileged]
  split <;> rfl

/-- Settles O41: the checks in their order, then the register at the address. -/
theorem registerAsis : Obligations.RegisterAsis := by
  intro s rd rs1 addr asi ea load store v id holds trap queued u
  have hasi : asi = altAsi s addr := by cases addr <;> rfl
  have hea : ea = (altAddr s rs1 addr).toNat := by cases addr <;> rfl
  have access (h : asi ∈ asiRegister) : RegisterAccess load store s rd asi (altAddr s rs1 addr) := by
    rw [hasi] at h ⊢
    exact exec_registerAccess h rd rs1
  have hid : contextId s.par v = id := contextId_eq s.par v
  have queueing (make : Word64 → State) (h : store = .next (make (queueOffset s v))) : queued make := queue_stores v h
  clear_value asi ea load store id
  subst hea
  have reached (hmem : asi ∈ [0x20, 0x21, 0x25]) (hhas : asi ∉ s.par.absentAsis)
      (hea : (altAddr s rs1 addr).toNat % 8 = 0) (hpriv : s.pstate.priv = true) :
      RegisterReached load store s rd asi (altAddr s rs1 addr).toNat := by
    obtain ⟨hreg, -, hp, ha⟩ := registerAsi_rows hmem s
    refine (access hreg).reached hea (by rw [hp, hpriv]; rfl) (.inr (ha.trans ?_))
    exact Bool.eq_false_iff.mpr (mt List.contains_iff_mem.mp hhas)
  refine ⟨fun hmem hea => (access hmem).misaligned hea, fun hmem hea hpriv => ?_, fun hmem hea hpriv habs => ?_,
    fun hhas hea hpriv => ⟨?_, ?_, ?_⟩, fun hpic hea => ?_⟩
  · obtain ⟨hreg, -, hp, -⟩ := registerAsi_rows hmem s
    exact (access hreg).privileged hea (by rw [hp, hpriv]; rfl)
  · obtain ⟨hreg, hpic, hp, ha⟩ := registerAsi_rows hmem s
    exact (access hreg).absent hea (by rw [hp, hpriv]; rfl) hpic (ha.trans (List.contains_iff_mem.mpr habs))
  · rintro rfl
    have h := reached (by decide) hhas hea hpriv
    refine ⟨fun i hi hva => ?_, fun hva => h.bad (scratchpad_bad v hva)⟩
    rw [hva] at h
    exact h.holds (scratchpad_access s v hi).1 (scratchpad_access s v hi).2
  · rintro rfl
    have h := reached (by decide) hhas hea hpriv
    subst hid
    refine ⟨?_, ?_, ?_, ?_, ?_, ?_, fun hva => h.bad (context_bad s v hva)⟩ <;> intro hva <;> rw [hva] at h <;>
      exact h.holds rfl rfl
  · rintro rfl
    have h := reached (by decide) hhas hea hpriv
    refine ⟨fun q hq => ?_, fun hva => h.bad (queue_bad s v hva)⟩
    obtain ⟨hhead, htail, h0, h8⟩ := queueAt_eq q hq
    refine ⟨fun hva => ?_, fun hva => ?_⟩
    · rw [hva] at h
      obtain ⟨hread, hwrite⟩ := queueHead_access s v hhead h0
      exact ⟨h.loads hread, queueing (fun w => { u with queueHead := s.queueHead.set q.2 w }) (h.stores hwrite)⟩
    · rw [hva] at h
      have hwrite := queueTail_write s v htail h8
      refine ⟨h.loads (queueTail_read s htail h8), fun hno => ?_, fun hyes =>
        queueing (fun w => { u with queueTail := s.queueTail.set q.2 w }) ?_⟩
      · exact h.store_badVa (hwrite.trans (if_neg (by rw [hno]; exact Bool.false_ne_true)))
      · exact h.stores (hwrite.trans (if_pos hyes))
  · subst hpic
    have h := (access (by decide)).reached hea (asiPrivileged_pic s) (.inl rfl)
    refine ⟨fun i hi hva => ?_, fun hva => h.bad (pic_bad v hva)⟩
    rw [hva] at h
    obtain ⟨hread, hwrite⟩ := pic_access s v hi
    exact ⟨h.stores hwrite, _, picValue_lt s.par _, h.loads hread⟩

end Sys2Proof.Machine
end
section
/-!
PROOF. Floating-point loads and stores: the checks that let an access, and what each load and store leaves.
-/

namespace Sys2Proof.Machine

open Sys2Proof

/-! ## The checks -/

section
variable {u s : State} {k : Unit → Eff State}

/-- A check that holds lets the access. -/
theorem finishOpen_require_ok {ok : Bool} (h : ok = true) (e : Exc) :
    finishOpen u s (require ok e >>= k) = finishOpen u s (k ()) := by
  rw [finishOpen_require, if_pos h]

/-- A check that fails raises its exception. -/
theorem finishOpen_require_trap {ok : Bool} (h : ok = false) (e : Exc) :
    finishOpen u s (require ok e >>= k) = takeTrap e s := by
  rw [finishOpen_require, h]
  rfl

theorem finishOpen_needFpu (h : fpuEnabled s = true) : finishOpen u s (needFpu s >>= k) = finishOpen u s (k ()) :=
  finishOpen_require_ok h _

theorem finishOpen_needQuad (h : s.par.hasQuad = true) : finishOpen u s (needQuad s >>= k) = finishOpen u s (k ()) :=
  finishOpen_require_ok h _

theorem finishOpen_needQuadReg {rd : DReg} (h : rd.toNat % 2 = 0) :
    finishOpen u s (needQuadReg rd >>= k) = finishOpen u s (k ()) := by
  refine finishOpen_require_ok ?_ _
  rw [bit_zero_eq, decide_eq_false (by omega)]
  rfl

theorem field_low_three (rd : DReg) : (field rd 0 3 == 0) = decide (rd.toNat % 8 = 0) := by
  revert rd
  decide

theorem finishOpen_needBlockReg {rd : DReg} (h : rd.toNat % 8 = 0) :
    finishOpen u s (needBlockReg rd >>= k) = finishOpen u s (k ()) :=
  finishOpen_require_ok ((field_low_three rd).trans (decide_eq_true h)) _

theorem finishOpen_needBlockReg_trap {rd : DReg} (h : rd.toNat % 8 ≠ 0) :
    finishOpen u s (needBlockReg rd >>= k) = takeTrap .illegalInstruction s :=
  finishOpen_require_trap ((field_low_three rd).trans (decide_eq_false h)) _

variable {ea : Word64} (exempt : Bool) (e : Exc)

/-- The two checks of the alignment of a doubleword or a quadword of `n` bytes. -/
theorem finishOpen_alignTwice {n : Nat} (hn : ea.toNat % n = 0) (h4 : ea.toNat % 4 = 0) :
    finishOpen u s ((do
        require (aligned ea 4 || exempt) .memAddressNotAligned
        require (aligned ea n || exempt) e) >>= k) = finishOpen u s (k ()) := by
  rw [(aligned_iff ea 4).mpr h4, (aligned_iff ea n).mpr hn]
  rfl

theorem finishOpen_checkAlignDouble (h : ea.toNat % 8 = 0) :
    finishOpen u s (checkAlignDouble exempt ea e >>= k) = finishOpen u s (k ()) :=
  finishOpen_alignTwice exempt e h (by omega)

theorem finishOpen_checkAlignQuad (h : ea.toNat % 16 = 0) :
    finishOpen u s (checkAlignQuad exempt ea e >>= k) = finishOpen u s (k ()) :=
  finishOpen_alignTwice exempt e h (by omega)

end

/-! ## Places -/

/-- A place of an access with the implicit ASI is aligned. -/
theorem placeImplicit_ok {s : State} {ea : Word64} {n : Nat} {kind : AccessKind} {x : Place}
    (h : placeImplicit s ea n kind = .ok x) : ea.toNat % n = 0 ∧ accessImplicit s ea n kind = .ok x := by
  rw [← aligned_iff]
  rw [placeImplicit] at h
  cases hal : aligned ea n
  · rw [hal] at h
    cases h
  · rw [hal] at h
    exact ⟨rfl, h⟩

/-- A place of an access with a valid explicit ASI is aligned. -/
theorem placeAsi_ok {s : State} {asi : BitVec 8} {valid : List (BitVec 8)} {ea : Word64} {n : Nat} {kind : AccessKind}
    {x : Place} (hvalid : asi ∈ valid) (h : placeAsi s asi valid ea n kind = .ok x) :
    ea.toNat % n = 0 ∧ accessAsi s asi valid ea n kind = .ok x := by
  rw [← aligned_iff]
  rw [placeAsi, checkAlignAsi, asiMisused, decide_eq_true hvalid, Bool.not_true, Bool.and_false, Bool.or_false] at h
  cases hal : aligned ea n
  · rw [hal] at h
    cases h
  · rw [hal] at h
    exact ⟨rfl, h⟩

/-- An aligned access goes to the place that its ASI gives. -/
theorem placeAsi_aligned {s : State} {asi : BitVec 8} {valid : List (BitVec 8)} {ea : Word64} {n : Nat}
    {kind : AccessKind} (h : ea.toNat % n = 0) : placeAsi s asi valid ea n kind = accessAsi s asi valid ea n kind := by
  rw [placeAsi, checkAlignAsi, (aligned_iff ea n).mpr h]
  rfl

/-- The ASIs of ordinary loads and those of the implementation are no block, commit or short ones. -/
theorem asiLoad_apart : ∀ asi ∈ asiLoad ++ asiImplementation, asi ∉ asiBlock ++ asiShort ∧ asi ∉ asiCommit := by
  decide

/-! ## The loads -/

/-- The checks and the access of LDDFA with no block or short ASI, after its register is checked (R266). -/
def plainLddfa (s : State) (rd : DReg) (asi : BitVec 8) (ea : Word64) : Eff State := do
  needFpu s
  checkAlignDouble (decide (asi ∈ asiTwin)) ea .lddfNotAligned
  let x ← accessAsi s asi asiLoad ea 8 .load
  .ok (advance (writeFD s rd (BitVec.ofNat 64 (loadValue s x 8))))

theorem exec_LDDFA_cases (s : State) (rd : DReg) (rs1 : Reg) {addr : AltOperand}
    (h : altAsi s addr ∉ asiBlock ++ asiShort) :
    exec (.LDDFA rd rs1 addr) s = finishOpen (writeFD (drawn s) rd (freeValue s)) s
      (if altAsi s addr ∈ asiCommit ∧ s.par.commitLoadIllegal = true then
        needBlockReg rd >>= fun _ => plainLddfa s rd (altAsi s addr) (altAddr s rs1 addr)
      else plainLddfa s rd (altAsi s addr) (altAddr s rs1 addr)) := by
  obtain ⟨hblock, hshort⟩ := not_or.mp (mt List.mem_append.mpr h)
  change finishOpen _ s (if altAsi s addr ∈ asiBlock then _ else if altAsi s addr ∈ asiShort then _ else _) = _
  rw [if_neg hblock, if_neg hshort]
  rfl

/-- LDDFA whose register the ASI accepts. -/
theorem exec_LDDFA_plain {s : State} (rd : DReg) (rs1 : Reg) {addr : AltOperand}
    (h : altAsi s addr ∉ asiBlock ++ asiShort)
    (hcommit : altAsi s addr ∈ asiCommit → rd.toNat % 8 = 0 ∨ s.par.commitLoadIllegal = false) :
    exec (.LDDFA rd rs1 addr) s = finishOpen (writeFD (drawn s) rd (freeValue s)) s
      (plainLddfa s rd (altAsi s addr) (altAddr s rs1 addr)) := by
  rw [exec_LDDFA_cases s rd rs1 h]
  split
  next hc =>
    obtain h8 | hno := hcommit hc.1
    · exact finishOpen_needBlockReg h8
    · exact absurd (hno.symm.trans hc.2) Bool.false_ne_true
  next => rfl

/-- A commit ASI may need a block register (R266, log entry 17). -/
theorem exec_LDDFA_commit {s : State} {rd : DReg} (rs1 : Reg) {addr : AltOperand} (h : altAsi s addr ∈ asiCommit)
    (hrd : rd.toNat % 8 ≠ 0) (hpar : s.par.commitLoadIllegal = true) :
    exec (.LDDFA rd rs1 addr) s = takeTrap .illegalInstruction s := by
  have happart : ∀ asi ∈ asiCommit, asi ∉ asiBlock ++ asiShort := by decide
  rw [exec_LDDFA_cases s rd rs1 (happart _ h), if_pos ⟨h, hpar⟩]
  exact finishOpen_needBlockReg_trap hrd

section
variable {s : State} (hfpu : fpuEnabled s = true) (rd rs1 : BitVec 5) (op2 : RegImm 13) (addr : AltOperand)
include hfpu

theorem exec_LDF : Accesses (exec (.LDF rd rs1 op2) s) s s (placeImplicit s (readR s rs1 + operand2 s op2) 4 .load)
    fun x => writeFS s rd (BitVec.ofNat 32 (loadValue s x 4)) := finishOpen_needFpu hfpu

theorem loadFsr_accesses (n : Nat) (update : Config.Params → Fsr → Word64 → Fsr) :
    Accesses (loadFsr n update rs1 op2 s) s s (placeImplicit s (readR s rs1 + operand2 s op2) n .load)
      fun x => { s with fsr := update s.par s.fsr (BitVec.ofNat 64 (loadValue s x n)) } := finishOpen_needFpu hfpu

theorem exec_LDDF (h : (readR s rs1 + operand2 s op2).toNat % 8 = 0) :
    Accesses (exec (.LDDF rd rs1 op2) s) s s (accessImplicit s (readR s rs1 + operand2 s op2) 8 .load)
      fun x => writeFD s rd (BitVec.ofNat 64 (loadValue s x 8)) :=
  (finishOpen_needFpu hfpu).trans (finishOpen_checkAlignDouble _ _ h)

theorem exec_LDQF (hquad : s.par.hasQuad = true) (heven : rd.toNat % 2 = 0)
    (h : (readR s rs1 + operand2 s op2).toNat % 16 = 0) :
    Accesses (exec (.LDQF rd rs1 op2) s) s s (accessImplicit s (readR s rs1 + operand2 s op2) 16 .load)
      fun x => writeFQ s rd (BitVec.ofNat 128 (loadValue s x 16)) :=
  calc exec (.LDQF rd rs1 op2) s
    _ = _ := finishOpen_needQuad hquad
    _ = _ := finishOpen_needFpu hfpu
    _ = _ := finishOpen_checkAlignQuad _ _ h
    _ = _ := finishOpen_needQuadReg heven

theorem exec_LDFA : Accesses (exec (.LDFA rd rs1 addr) s) (writeFS (drawn s) rd (field (freeValue s) 0 32)) s
    (placeAsi s (altAsi s addr) asiLoad (altAddr s rs1 addr) 4 .load)
    fun x => writeFS s rd (BitVec.ofNat 32 (loadValue s x 4)) := finishOpen_needFpu hfpu

/-- LDDFA with no block or short ASI: a commit ASI may need a block register (R266). -/
theorem exec_LDDFA (hasi : altAsi s addr ∉ asiBlock ++ asiShort)
    (hcommit : altAsi s addr ∈ asiCommit → rd.toNat % 8 = 0 ∨ s.par.commitLoadIllegal = false)
    (h : (altAddr s rs1 addr).toNat % 8 = 0) :
    Accesses (exec (.LDDFA rd rs1 addr) s) (writeFD (drawn s) rd (freeValue s)) s
      (accessAsi s (altAsi s addr) asiLoad (altAddr s rs1 addr) 8 .load)
      fun x => writeFD s rd (BitVec.ofNat 64 (loadValue s x 8)) :=
  calc exec (.LDDFA rd rs1 addr) s
    _ = _ := exec_LDDFA_plain rd rs1 hasi hcommit
    _ = _ := finishOpen_needFpu hfpu
    _ = _ := finishOpen_checkAlignDouble _ _ h

theorem exec_LDQFA (hquad : s.par.hasQuad = true) (heven : rd.toNat % 2 = 0)
    (h : (altAddr s rs1 addr).toNat % 16 = 0) :
    Accesses (exec (.LDQFA rd rs1 addr) s) (writeFQ (drawn (drawn s)) rd (freeValue s ++ freeValue (drawn s))) s
      (accessAsi s (altAsi s addr) asiLoad (altAddr s rs1 addr) 16 .load)
      fun x => writeFQ s rd (BitVec.ofNat 128 (loadValue s x 16)) :=
  calc exec (.LDQFA rd rs1 addr) s
    _ = _ := finishOpen_needQuad hquad
    _ = _ := finishOpen_needFpu hfpu
    _ = _ := finishOpen_checkAlignQuad _ _ h
    _ = _ := finishOpen_needQuadReg heven

end

/-- Settles O44: each load through its checks, and the value it writes. -/
theorem floatLoads : Obligations.FloatLoads := by
  intro s rd rs1 op2 addr hfpu ea alt asi value low wide
  have hLDF := exec_LDF hfpu rd rs1 op2
  have hlow := loadFsr_accesses hfpu rs1 op2 4 Fsr.loadLow
  have hwide := loadFsr_accesses hfpu rs1 op2 8 Fsr.loadWide
  have hextended := loadFsr_accesses hfpu rs1 op2 8 fun par x w => { x.loadWide par w with ftt := field w 14 3 }
  have hLDFA := exec_LDFA hfpu rd rs1 addr
  have hLDDFA (hasi : asi ∈ asiLoad ++ asiImplementation) :=
    exec_LDDFA hfpu rd rs1 addr (asiLoad_apart asi hasi).1 fun hc => absurd hc (asiLoad_apart asi hasi).2
  refine ⟨fun x hx => ⟨?_, hlow.next hx⟩, fun x hx => ⟨?_, hwide.next hx, hextended.next hx⟩,
    fun x hquad heven hx => ?_, fun x hx => ?_, fun x hasi hx => ?_, fun x hquad heven hasi hx => ?_, hLDF.stops,
    hlow.stops, hwide.stops, hextended.stops, hLDFA.stops,
    fun h => (exec_LDDF hfpu rd rs1 op2 h).stops, fun h hasi hc => (exec_LDDFA hfpu rd rs1 addr hasi hc h).stops,
    fun hasi hrd hpar => exec_LDDFA_commit rs1 hasi hrd hpar, fun hquad heven => ⟨fun h => ?_, fun h => ?_⟩,
    fun hopen => ⟨fun h => ?_, fun h => ?_, fun hquad heven h => ?_⟩⟩
  · rw [hLDF.next hx]
    exact nextWithFS_writeFS (advance s) rd _
  · obtain ⟨hea, hx⟩ := placeImplicit_ok hx
    rw [(exec_LDDF hfpu rd rs1 op2 hea).next hx]
    exact nextWithFD_writeFD (advance s) rd _
  · obtain ⟨hea, hx⟩ := placeImplicit_ok hx
    rw [(exec_LDQF hfpu rd rs1 op2 hquad heven hea).next hx]
    exact nextWithFQ_writeFQ (advance s) rd _ heven
  · rw [hLDFA.next hx]
    exact nextWithFS_writeFS (advance s) rd _
  · obtain ⟨hea, hx⟩ := placeAsi_ok hasi hx
    rw [(hLDDFA (List.mem_append_left _ hasi) hea).next hx]
    exact nextWithFD_writeFD (advance s) rd _
  · obtain ⟨hea, hx⟩ := placeAsi_ok hasi hx
    rw [(exec_LDQFA hfpu rd rs1 addr hquad heven hea).next hx]
    exact nextWithFQ_writeFQ (advance s) rd _ heven
  · exact (exec_LDQF hfpu rd rs1 op2 hquad heven h).stops
  · exact (exec_LDQFA hfpu rd rs1 addr hquad heven h).stops
  · rw [hLDFA.opens (placeAsi_opens hopen _ h _)]
    exact nextWithFS_writeFS (advance (drawn s)) rd _
  · rw [(hLDDFA (List.mem_append_right _ hopen.1) h).opens (accessAsi_opens hopen _ _ _ _)]
    exact nextWithFD_writeFD (advance (drawn s)) rd _
  · rw [(exec_LDQFA hfpu rd rs1 addr hquad heven h).opens (accessAsi_opens hopen _ _ _ _)]
    exact nextWithFQ_writeFQ (advance (drawn (drawn s))) rd _ heven

end Sys2Proof.Machine
end
section
/-!
PROOF. The floating-point stores.
-/

namespace Sys2Proof.Machine

open Sys2Proof

/-- The ASIs of ordinary stores and those of the implementation are no block, commit, short or partial ones. -/
theorem asiStore_apart :
    ∀ asi ∈ asiStore ++ asiImplementation, asi ∉ asiBlock ++ asiCommit ++ asiShort ++ asiPartial := by
  decide

theorem partialByAsiReg_eq_false {s : State} {addr : AltOperand} (h : altAsi s addr ∉ asiPartial) :
    partialByAsiReg s addr = false := by
  cases addr
  case immAsi => rfl
  case asiReg => exact decide_eq_false h

/-- The checks and the access of STDFA with no block, commit or short ASI, after its ASI is checked (R278). -/
def plainStdfa (s : State) (rd : DReg) (asi : BitVec 8) (ea : Word64) : Eff State := do
  needFpu s
  checkAlignDouble (decide (asi ∈ asiTwin)) ea .stdfNotAligned
  let x ← accessAsi s asi asiStore ea 8 .store
  .ok (advance (storeValue s x 8 (readFD s rd).toNat))

theorem exec_STDFA_cases (s : State) (rd : DReg) (rs1 : Reg) {addr : AltOperand}
    (h : altAsi s addr ∉ asiBlock ++ asiCommit ++ asiShort) :
    exec (.STDFA rd rs1 addr) s = finishOpen s s (require (!partialByAsiReg s addr) .illegalInstruction >>= fun _ =>
      plainStdfa s rd (altAsi s addr) (altAddr s rs1 addr)) := by
  obtain ⟨hblock, hshort⟩ := not_or.mp (mt List.mem_append.mpr h)
  change finish s (if altAsi s addr ∈ asiBlock ++ asiCommit then _ else if altAsi s addr ∈ asiShort then _ else _) = _
  rw [if_neg hblock, if_neg hshort]
  rfl

theorem exec_STDFA_plain {s : State} (rd : DReg) (rs1 : Reg) {addr : AltOperand}
    (h : altAsi s addr ∉ asiBlock ++ asiCommit ++ asiShort ++ asiPartial) :
    exec (.STDFA rd rs1 addr) s = finishOpen s s (plainStdfa s rd (altAsi s addr) (altAddr s rs1 addr)) := by
  obtain ⟨hasi, hpartial⟩ := not_or.mp (mt List.mem_append.mpr h)
  rw [exec_STDFA_cases s rd rs1 hasi, partialByAsiReg_eq_false hpartial]
  exact finishOpen_require_ok rfl _

section
variable {s : State} (hfpu : fpuEnabled s = true) (rd rs1 : BitVec 5) (op2 : RegImm 13) (addr : AltOperand)
include hfpu

theorem exec_STF : Accesses (exec (.STF rd rs1 op2) s) s s (placeImplicit s (readR s rs1 + operand2 s op2) 4 .store)
    fun x => storeValue s x 4 (readFS s rd).toNat := finishOpen_needFpu hfpu

theorem storeFsr_accesses (n : Nat) :
    Accesses (storeFsr n rs1 op2 s) s s (placeImplicit s (readR s rs1 + operand2 s op2) n .store)
      fun x => { storeValue s x n (s.fsr.bits s.par.fsrVer).toNat with fsr := { s.fsr with ftt := 0 } } :=
  finishOpen_needFpu hfpu

theorem exec_STDF (h : (readR s rs1 + operand2 s op2).toNat % 8 = 0) :
    Accesses (exec (.STDF rd rs1 op2) s) s s (accessImplicit s (readR s rs1 + operand2 s op2) 8 .store)
      fun x => storeValue s x 8 (readFD s rd).toNat :=
  (finishOpen_needFpu hfpu).trans (finishOpen_checkAlignDouble _ _ h)

theorem exec_STQF (hquad : s.par.hasQuad = true) (heven : rd.toNat % 2 = 0)
    (h : (readR s rs1 + operand2 s op2).toNat % 16 = 0) :
    Accesses (exec (.STQF rd rs1 op2) s) s s (accessImplicit s (readR s rs1 + operand2 s op2) 16 .store)
      fun x => storeValue s x 16 (readFQ s rd).toNat :=
  calc exec (.STQF rd rs1 op2) s
    _ = _ := finishOpen_needQuad hquad
    _ = _ := finishOpen_needFpu hfpu
    _ = _ := finishOpen_checkAlignQuad _ _ h
    _ = _ := finishOpen_needQuadReg heven

theorem exec_STFA : Accesses (exec (.STFA rd rs1 addr) s) s s
    (placeAsi s (altAsi s addr) (asiStore ++ asiStbi) (altAddr s rs1 addr) 4 .store)
    fun x => stbiEffect s (altAsi s addr) x 4 (storeValue s x 4 (readFS s rd).toNat) := finishOpen_needFpu hfpu

theorem exec_STDFA (hasi : altAsi s addr ∉ asiBlock ++ asiCommit ++ asiShort ++ asiPartial)
    (h : (altAddr s rs1 addr).toNat % 8 = 0) :
    Accesses (exec (.STDFA rd rs1 addr) s) s s (accessAsi s (altAsi s addr) asiStore (altAddr s rs1 addr) 8 .store)
      fun x => storeValue s x 8 (readFD s rd).toNat :=
  calc exec (.STDFA rd rs1 addr) s
    _ = _ := exec_STDFA_plain rd rs1 hasi
    _ = _ := finishOpen_needFpu hfpu
    _ = _ := finishOpen_checkAlignDouble _ _ h

theorem exec_STQFA (hquad : s.par.hasQuad = true) (heven : rd.toNat % 2 = 0)
    (h : (altAddr s rs1 addr).toNat % 16 = 0) :
    Accesses (exec (.STQFA rd rs1 addr) s) s s
      (accessAsi s (altAsi s addr) (asiStore ++ asiStbi) (altAddr s rs1 addr) 16 .store)
      fun x => stbiEffect s (altAsi s addr) x 16 (storeValue s x 16 (readFQ s rd).toNat) :=
  calc exec (.STQFA rd rs1 addr) s
    _ = _ := finishOpen_needQuad hquad
    _ = _ := finishOpen_needFpu hfpu
    _ = _ := finishOpen_checkAlignQuad _ _ h
    _ = _ := finishOpen_needQuadReg heven

end

/-- Settles O45: each store through its checks, and the bytes it stores. -/
theorem floatStores : Obligations.FloatStores := by
  intro s rd rs1 op2 addr hfpu hwf ea alt asi cleared
  have hSTF := exec_STF hfpu rd rs1 op2
  have hSTFSR := storeFsr_accesses hfpu rs1 op2 4
  have hSTXFSR := storeFsr_accesses hfpu rs1 op2 8
  have hSTFA := exec_STFA hfpu rd rs1 addr
  have hSTDFA (hasi : asi ∈ asiStore ++ asiImplementation) := exec_STDFA hfpu rd rs1 addr (asiStore_apart asi hasi)
  have hwf' : (advance s).mem.wf = true := hwf
  have hcleared : cleared.mem.wf = true := hwf
  refine ⟨fun x hx => ⟨?_, ?_⟩, fun x hx => ⟨?_, ?_⟩, fun x hquad heven hx => ?_, fun x hx => ?_, fun x hasi hx => ?_,
    fun x hquad heven hal hx => ?_, hSTF.stops, hSTFSR.stops, hSTXFSR.stops, hSTFA.stops,
    fun h => (exec_STDF hfpu rd rs1 op2 h).stops, fun h hasi => (exec_STDFA hfpu rd rs1 addr hasi h).stops,
    fun hquad heven => ⟨fun h => ?_, fun h => ?_⟩, fun hopen => ⟨fun h => ?_, fun h => ?_, fun hquad heven h => ?_⟩⟩
  · rw [hSTF.next hx]
    exact nextStored_storeValue hwf' x 4 _
  · rw [show exec (.STFSR rs1 op2) s = _ from hSTFSR.next hx]
    exact nextStored_storeValue hcleared x 4 _
  · obtain ⟨hea, hx⟩ := placeImplicit_ok hx
    rw [(exec_STDF hfpu rd rs1 op2 hea).next hx]
    exact nextStored_storeValue hwf' x 8 _
  · rw [show exec (.STXFSR rs1 op2) s = _ from hSTXFSR.next hx]
    exact nextStored_storeValue hcleared x 8 _
  · obtain ⟨hea, hx⟩ := placeImplicit_ok hx
    rw [(exec_STQF hfpu rd rs1 op2 hquad heven hea).next hx]
    exact nextStored_storeValue hwf' x 16 _
  · rw [hSTFA.next hx]
    exact nextStoredAsi_stbi hwf asi x 4 _
  · obtain ⟨hea, hx⟩ := placeAsi_ok hasi hx
    rw [(hSTDFA (List.mem_append_left _ hasi) hea).next hx]
    exact nextStored_storeValue hwf' x 8 _
  · have hea := (aligned_iff alt 16).mp hal
    rw [placeAsi_aligned hea] at hx
    rw [(exec_STQFA hfpu rd rs1 addr hquad heven hea).next hx]
    exact nextStoredAsi_stbi hwf asi x 16 _
  · exact (exec_STQF hfpu rd rs1 op2 hquad heven h).stops
  · exact (exec_STQFA hfpu rd rs1 addr hquad heven h).stops
  · exact hSTFA.opens (placeAsi_opens hopen _ h _)
  · exact (hSTDFA (List.mem_append_right _ hopen.1) h).opens (accessAsi_opens hopen _ _ _ _)
  · exact (exec_STQFA hfpu rd rs1 addr hquad heven h).opens (accessAsi_opens hopen _ _ _ _)

end Sys2Proof.Machine
end

section
/-!
PROOF. Block, short and partial floating-point accesses.
-/

namespace Sys2Proof.Machine

open Sys2Proof

/-! ## Blocks -/

/-- The place of a register in the block that starts at `rd`. -/
theorem eq_add_iff {rd k : DReg} {n : Nat} (hrd : rd.toNat % 8 = 0) (hn : n < 8) :
    k = rd + BitVec.ofNat 5 n ↔ k.toNat / 8 = rd.toNat / 8 ∧ k.toNat % 8 = n := by
  have hk := k.isLt
  have hlt := rd.isLt
  rw [← BitVec.toNat_inj, BitVec.toNat_add, BitVec.toNat_ofNat]
  omega

/-- The first `n` registers of a block hold the loaded doublewords, and the rest keep their values. -/
theorem readFD_loadBlock (s : State) (x : Place) {rd : DReg} (hrd : rd.toNat % 8 = 0) (k : DReg) {n : Nat}
    (hn : n ≤ 8) : readFD (loadBlock s x rd n) k =
      if k.toNat / 8 = rd.toNat / 8 ∧ k.toNat % 8 < n then BitVec.ofNat 64 (loadValue s (x.plus (8 * (k.toNat % 8))) 8)
      else readFD s k := by
  induction n with
  | zero => exact (if_neg fun h => Nat.not_lt_zero _ h.2).symm
  | succ n ih =>
    rw [loadBlock, readFD_writeFD, ih (Nat.le_of_succ_le hn), if_congr (eq_add_iff hrd hn) rfl rfl]
    by_cases hlast : k.toNat / 8 = rd.toNat / 8 ∧ k.toNat % 8 = n
    · rw [if_pos hlast, if_pos ⟨hlast.1, by omega⟩, hlast.2]
    · rw [if_neg hlast]
      exact if_congr (by omega) rfl rfl

theorem dirtyD_block (f : Fprs) {rd : DReg} (hrd : rd.toNat % 8 = 0) {n : Nat} (hn : n < 8) :
    dirtyD f (rd + BitVec.ofNat 5 n) = dirtyD f rd := by
  have hlt := rd.isLt
  have hsum : (rd + BitVec.ofNat 5 n).toNat = rd.toNat + n := by
    rw [BitVec.toNat_add, BitVec.toNat_ofNat]
    omega
  rw [dirtyD, hsum]
  exact if_congr (by omega) rfl rfl

theorem dirtyD_twice (f : Fprs) (rd : DReg) : dirtyD (dirtyD f rd) rd = dirtyD f rd := by
  unfold dirtyD
  split <;> rfl

theorem loadBlock_shape (s : State) (x : Place) {rd : DReg} (hrd : rd.toNat % 8 = 0) {n : Nat} (h0 : 0 < n)
    (hn : n ≤ 8) : loadBlock s x rd n = { s with f := (loadBlock s x rd n).f, fprs := dirtyD s.fprs rd } := by
  induction n, h0 using Nat.le_induction with
  | base =>
    rw [← dirtyD_block s.fprs hrd hn, ← dirty_eq]
    rfl
  | succ n h0 ih =>
    have hprev := ih (Nat.le_of_succ_le hn)
    have hfprs : (loadBlock s x rd n).fprs = dirtyD s.fprs rd := congrArg State.fprs hprev
    generalize hb : loadBlock s x rd n = b at hprev hfprs
    rw [loadBlock, hb, writeFD, dirty_eq, hfprs, dirtyD_block _ hrd hn, dirtyD_twice, hprev]

/-- A block store leaves memory canonical, holds the first `n` doublewords, and keeps the other bytes. -/
theorem storeBlock_spec {s : State} (hwf : s.mem.wf = true) (x : Place) (rd : DReg) (n : Nat) :
    (storeBlock s x rd n).mem.wf = true ∧
      (∀ j, j < n → bytesStored (storeBlock s x rd n) (x.plus (8 * j)) 8 (readFD s (rd + BitVec.ofNat 5 j)).toNat) ∧
      memoryKeptOutside s (storeBlock s x rd n) x.ra (8 * n) ∧
      storeBlock s x rd n = { s with mem := (storeBlock s x rd n).mem } := by
  induction n with
  | zero => exact ⟨hwf, fun j hj => absurd hj (Nat.not_lt_zero j), fun _ _ => rfl, rfl⟩
  | succ n ih =>
    obtain ⟨hb, hstored, hkept, hshape⟩ := ih
    refine ⟨wf_storeValue hb _ _ _, fun j hj k hk => ?_, fun a ha => ?_, ?_⟩
    · by_cases hjn : j = n
      · rw [hjn]
        exact bytesStored_storeValue hb _ _ _ k hk
      · have hout := read_storeValue_out hb (x.plus (8 * n)) 8 (readFD s (rd + BitVec.ofNat 5 n)).toNat
          ((x.plus (8 * j)).ra + k) (.inl (by change x.ra + 8 * j + k < x.ra + 8 * n; omega))
        exact hout.trans (hstored j (by omega) k hk)
    · have hout := read_storeValue_out hb (x.plus (8 * n)) 8 (readFD s (rd + BitVec.ofNat 5 n)).toNat a
        (by change a < x.ra + 8 * n ∨ x.ra + 8 * n + 8 ≤ a; omega)
      exact hout.trans (hkept a (by omega))
    · rw [storeBlock, storeValue, hshape]

/-! ## Block and short accesses, from both forms of the address -/

theorem shortBytes_eq : ∀ asi ∈ asiShort, shortBytes asi = if asi ∈ [0xD0, 0xD1, 0xD8, 0xD9] then 1 else 2 := by
  decide

/-- A short ASI is no block or commit one. -/
theorem asiShort_apart : ∀ asi ∈ asiShort, asi ∉ asiBlock ∧ asi ∉ asiBlock ++ asiCommit := by
  decide

/-- A partial-store ASI is no block, commit or short one. -/
theorem asiPartial_apart : ∀ asi ∈ asiPartial, asi ∉ asiBlock ++ asiCommit ++ asiShort := by
  decide

section
variable (u s : State) (rd : DReg) (asi : BitVec 8) (ea : Word64)

theorem blockLoad_accesses (hfpu : fpuEnabled s = true) (hrd : rd.toNat % 8 = 0) :
    Accesses (finishOpen u s (blockLoad s rd asi ea)) u s (placeAsi s asi asiBlock ea 64 .cachedLoad)
      fun x => loadBlock s x rd 8 := (finishOpen_needBlockReg hrd).trans (finishOpen_needFpu hfpu)

theorem blockStore_accesses (hfpu : fpuEnabled s = true) (hrd : rd.toNat % 8 = 0) :
    Accesses (finishOpen u s (blockStore s rd asi ea)) u s (placeAsi s asi (asiBlock ++ asiCommit) ea 64 .store)
      fun x => storeBlock s x rd 8 := (finishOpen_needBlockReg hrd).trans (finishOpen_needFpu hfpu)

theorem shortLoad_accesses (hfpu : fpuEnabled s = true) :
    Accesses (finishOpen u s (shortLoad s rd asi ea)) u s (placeAsi s asi asiShort ea (shortBytes asi) .load)
      fun x => writeFD s rd (BitVec.ofNat 64 (loadValue s x (shortBytes asi))) := finishOpen_needFpu hfpu

theorem shortStore_accesses (hfpu : fpuEnabled s = true) :
    Accesses (finishOpen u s (shortStore s rd asi ea)) u s (placeAsi s asi asiShort ea (shortBytes asi) .store)
      fun x => storeValue s x (shortBytes asi) (readFD s rd).toNat := finishOpen_needFpu hfpu

end

section
variable {s : State} (rd : DReg) (rs1 : Reg) {addr : AltOperand}

/-- LDDFA with a block ASI is LDBLOCKF (R266). -/
theorem exec_LDDFA_block (h : altAsi s addr ∈ asiBlock) :
    exec (.LDDFA rd rs1 addr) s = finishOpen (writeFD (drawn s) rd (freeValue s)) s
      (blockLoad s rd (altAsi s addr) (altAddr s rs1 addr)) := congrArg (finishOpen _ s) (if_pos h)

/-- LDDFA with a short ASI is LDSHORTF (R266). -/
theorem exec_LDDFA_short (h : altAsi s addr ∈ asiShort) :
    exec (.LDDFA rd rs1 addr) s = finishOpen (writeFD (drawn s) rd (freeValue s)) s
      (shortLoad s rd (altAsi s addr) (altAddr s rs1 addr)) :=
  congrArg (finishOpen _ s) ((if_neg (asiShort_apart _ h).1).trans (if_pos h))

/-- STDFA with a block or commit ASI is STBLOCKF (R278). -/
theorem exec_STDFA_block (h : altAsi s addr ∈ asiBlock ++ asiCommit) :
    exec (.STDFA rd rs1 addr) s = finishOpen s s (blockStore s rd (altAsi s addr) (altAddr s rs1 addr)) :=
  congrArg (finishOpen s s) (if_pos h)

/-- STDFA with a short ASI is STSHORTF (R278). -/
theorem exec_STDFA_short (h : altAsi s addr ∈ asiShort) :
    exec (.STDFA rd rs1 addr) s = finishOpen s s (shortStore s rd (altAsi s addr) (altAddr s rs1 addr)) :=
  congrArg (finishOpen s s) ((if_neg (asiShort_apart _ h).2).trans (if_pos h))

end

/-! ## Partial stores -/

/-- The bytes of the elements that the mask selects are ones (R281). -/
theorem partialMask_getLsbD (mask : Word64) (size n : Nat) {i : Nat} (hi : i < 64) :
    (partialMask mask size n).getLsbD i = (decide (i < 8 * n) && bit mask (i / 8 / size)) := by
  induction n with
  | zero => exact BitVec.getLsbD_zero
  | succ n ih =>
    have hones : (0xFF : Word64).getLsbD (i - 8 * n) = decide (i - 8 * n < 8) := Nat.testBit_two_pow_sub_one 8 _
    have hbyte : (if bit mask (n / size) then (0xFF : Word64) <<< (8 * n) else 0).getLsbD i =
        (decide (i / 8 = n) && bit mask (n / size)) := by
      split
      next hb =>
        rw [BitVec.getLsbD_shiftLeft, hones, hb, decide_eq_true hi, ← decide_not, Bool.true_and, Bool.and_true,
          ← Bool.decide_and]
        exact decide_eq_decide.mpr (by omega)
      next hb =>
        rw [Bool.eq_false_iff.mpr hb, Bool.and_false]
        exact BitVec.getLsbD_zero
    rw [partialMask, BitVec.getLsbD_or, ih, hbyte]
    by_cases hn : i / 8 = n
    · rw [decide_eq_false (by omega : ¬i < 8 * n), decide_eq_true hn, decide_eq_true (by omega : i < 8 * (n + 1)), hn,
        Bool.false_and, Bool.false_or]
    · rw [decide_eq_false hn, Bool.false_and, Bool.or_false]
      exact congrArg (· && _) (decide_eq_decide.mpr (by omega))

/-- A byte of the stored doubleword is that of the register where the mask selects it, and else the old one. -/
theorem field_partialMask (v old mask : Word64) (size : Nat) {b : Nat} (hb : b < 8) :
    field ((v &&& partialMask mask size 8) ||| (old &&& ~~~partialMask mask size 8)) (8 * b) 8 =
      if bit mask (b / size) then field v (8 * b) 8 else field old (8 * b) 8 := by
  apply BitVec.eq_of_getLsbD_eq
  intro i hi
  have hm : (partialMask mask size 8).getLsbD (8 * b + i) = bit mask (b / size) := by
    rw [partialMask_getLsbD mask size 8 (by omega), decide_eq_true (by omega : 8 * b + i < 8 * 8), Bool.true_and,
      show (8 * b + i) / 8 = b by omega]
  have hin : 8 * b + i < 64 := by omega
  rw [field, BitVec.getLsbD_extractLsb', BitVec.getLsbD_or, BitVec.getLsbD_and, BitVec.getLsbD_and, BitVec.getLsbD_not,
    hm]
  cases bit mask (b / size) <;> simp [field, hi, hin]

theorem readLE_byte (m : Memory) (a : Nat) {n k : Nat} (hk : k < n) :
    m.readLE a n / 256 ^ k % 256 = (m.read (a + k)).toNat := by
  induction n with
  | zero => exact absurd hk (Nat.not_lt_zero k)
  | succ n ih =>
    rw [Memory.readLE]
    by_cases hkn : k = n
    · rw [hkn, Nat.add_mul_div_right _ _ (Nat.pow_pos (by decide)), Nat.div_eq_of_lt (Memory.readLE_lt m a n),
        Nat.zero_add]
      exact Nat.mod_eq_of_lt (m.read (a + n)).isLt
    · have hsplit : (m.read (a + n)).toNat * 256 ^ n =
          (m.read (a + n)).toNat * 256 ^ (n - k - 1) * 256 * 256 ^ k := by
        rw [Nat.mul_assoc, Nat.mul_assoc, ← Nat.pow_succ', ← Nat.pow_add]
        congr 2
        omega
      rw [hsplit, Nat.add_mul_div_right _ _ (Nat.pow_pos (by decide)), Nat.add_mul_mod_self_right]
      exact ih (by omega)

theorem readBE_byte (m : Memory) (a : Nat) {n k : Nat} (hk : k < n) :
    m.readBE a n / 256 ^ (n - 1 - k) % 256 = (m.read (a + k)).toNat := by
  induction n with
  | zero => exact absurd hk (Nat.not_lt_zero k)
  | succ n ih =>
    rw [Memory.readBE]
    have hlt := (m.read (a + n)).isLt
    by_cases hkn : k = n
    · rw [hkn, Nat.add_sub_cancel, Nat.sub_self, Nat.pow_zero, Nat.div_one]
      omega
    · rw [show n + 1 - 1 - k = n - 1 - k + 1 by omega, Nat.pow_succ', ← Nat.div_div_eq_div_mul,
        show (m.readBE a n * 256 + (m.read (a + n)).toNat) / 256 = m.readBE a n by omega]
      exact ih (by omega)

/-- A byte of a loaded value. -/
theorem loadValue_byte (s : State) (x : Place) {n b : Nat} (hb : b < n) :
    loadValue s x n / 256 ^ b % 256 = (s.mem.read (x.ra + if x.little then b else n - 1 - b)).toNat := by
  rw [loadValue]
  cases x.little
  · have hbyte := readBE_byte s.mem x.ra (show n - 1 - b < n by omega)
    rwa [show n - 1 - (n - 1 - b) = b by omega] at hbyte
  · exact readLE_byte s.mem x.ra hb

/-- STPARTIALF at a doubleword address (R281). -/
theorem exec_STPARTIALF {s : State} (hfpu : fpuEnabled s = true) (rd rs1 rs2 : BitVec 5) (asi : BitVec 8)
    (h : (readR s rs1).toNat % 8 = 0) :
    Accesses (exec (.STPARTIALF rd rs1 rs2 asi) s) s s (accessAsi s asi asiPartial (readR s rs1) 8 .cachedStore)
      fun x => storeValue s x 8 ((readFD s rd &&& partialMask (readR s rs2) (partialBytes asi) 8) |||
        (BitVec.ofNat 64 (loadValue s x 8) &&& ~~~partialMask (readR s rs2) (partialBytes asi) 8)).toNat :=
  (finishOpen_needFpu hfpu).trans (finishOpen_checkAlignDouble _ _ h)

theorem partialBytes_eq : ∀ asi ∈ asiPartial, partialBytes asi =
    if asi ∈ [0xC0, 0xC1, 0xC8, 0xC9] then 1 else if asi ∈ [0xC2, 0xC3, 0xCA, 0xCB] then 2 else 4 := by
  decide

/-- The bytes after a partial store: selected ones from the register, others as they were. -/
theorem read_partialStore {s : State} (hwf : s.mem.wf = true) (x : Place) (v mask : Word64) (size : Nat) {b : Nat}
    (hb : b < 8) :
    (storeValue s x 8 ((v &&& partialMask mask size 8) |||
        (BitVec.ofNat 64 (loadValue s x 8) &&& ~~~partialMask mask size 8)).toNat).mem.read
          (x.ra + if x.little then b else 7 - b) =
      if bit mask (b / size) then field v (8 * b) 8 else s.mem.read (x.ra + if x.little then b else 7 - b) := by
  have hplace : (if x.little then b else 7 - b) < 8 := by
    split <;> omega
  have hbyte : (if x.little then if x.little then b else 7 - b else 8 - 1 - if x.little then b else 7 - b) = b := by
    cases x.little
    · exact Nat.sub_sub_self (Nat.le_of_lt_succ hb)
    · rfl
  have hold : field (BitVec.ofNat 64 (loadValue s x 8)) (8 * b) 8 =
      s.mem.read (x.ra + if x.little then b else 7 - b) := by
    apply BitVec.eq_of_toNat_eq
    have hlt : loadValue s x 8 < 2 ^ 64 := loadValue_lt s x 8
    rw [toNat_field, BitVec.toNat_ofNat, Nat.mod_eq_of_lt hlt, two_pow_eight_mul]
    exact loadValue_byte s x hb
  refine (bytesStored_storeValue hwf x 8 _ _ hplace).trans ?_
  rw [hbyte, ← two_pow_eight_mul, ← field_eq_ofNat, field_partialMask v _ mask size hb, hold]

/-- How a block load ends (R260). -/
theorem blockLoad_ends {o : Out} {u s : State} {rd : DReg} {asi : BitVec 8} {ea : Word64}
    (hfpu : fpuEnabled s = true) (hrd : rd.toNat % 8 = 0) (h : o = finishOpen u s (blockLoad s rd asi ea)) :
    stopsAs o s (placeAsi s asi asiBlock ea 64 .cachedLoad) ∧
      ∀ x, placeAsi s asi asiBlock ea 64 .cachedLoad = .ok x → ∃ t, o = .next t ∧
        (∀ j : DReg, j.toNat < 8 → readFD t (rd + j) = BitVec.ofNat 64 (loadValue s (x.plus (8 * j.toNat)) 8)) ∧
        (∀ k : DReg, k.toNat / 8 ≠ rd.toNat / 8 → readFD t k = readFD s k) ∧
        t = { advance s with f := t.f, fprs := dirtyD s.fprs rd } := by
  have hacc : Accesses o u s _ _ := h.trans (blockLoad_accesses u s rd asi ea hfpu hrd)
  refine ⟨hacc.stops, fun x hx => ?_⟩
  have hnext := hacc.next hx
  have hread := fun k => readFD_loadBlock s x hrd k (Nat.le_refl 8)
  have hshape := loadBlock_shape s x hrd (by decide) (Nat.le_refl 8)
  generalize loadBlock s x rd 8 = b at hnext hread hshape
  refine ⟨advance b, hnext, fun j hj => ?_, fun k hk => ?_, congrArg advance hshape⟩
  case refine_2 => rw [readFD_advance, hread k, if_neg fun h => hk h.1]
  have hlt := rd.isLt
  have hsum : (rd + j).toNat = rd.toNat + j.toNat := by
    rw [BitVec.toNat_add]
    omega
  rw [readFD_advance, hread (rd + j), hsum, if_pos (by omega), show (rd.toNat + j.toNat) % 8 = j.toNat by omega]

/-- How a block store ends (R271). -/
theorem blockStore_ends {o : Out} {u s : State} {rd : DReg} {asi : BitVec 8} {ea : Word64}
    (hfpu : fpuEnabled s = true) (hwf : s.mem.wf = true) (hrd : rd.toNat % 8 = 0)
    (h : o = finishOpen u s (blockStore s rd asi ea)) :
    stopsAs o s (placeAsi s asi (asiBlock ++ asiCommit) ea 64 .store) ∧
      ∀ x, placeAsi s asi (asiBlock ++ asiCommit) ea 64 .store = .ok x → ∃ t, o = .next t ∧
        (∀ j : DReg, j.toNat < 8 → bytesStored t (x.plus (8 * j.toNat)) 8 (readFD s (rd + j)).toNat) ∧
        memoryKeptOutside s t x.ra 64 ∧ t = { advance s with mem := t.mem } := by
  have hacc : Accesses o u s _ _ := h.trans (blockStore_accesses u s rd asi ea hfpu hrd)
  refine ⟨hacc.stops, fun x hx => ?_⟩
  have hnext := hacc.next hx
  obtain ⟨-, hstored, hkept, hshape⟩ := storeBlock_spec hwf x rd 8
  generalize storeBlock s x rd 8 = b at hnext hstored hkept hshape
  refine ⟨advance b, hnext, fun j hj k hk => ?_, fun a ha => ?_, congrArg advance hshape⟩
  · have hbytes := hstored j.toNat hj k hk
    rwa [BitVec.ofNat_toNat, BitVec.setWidth_eq] at hbytes
  · rw [advance_mem]
    exact hkept a ha

/-- Settles O46: block and short accesses from both forms of the address, and the bytes of a partial store. -/
theorem specialFloatAccesses : Obligations.SpecialFloatAccesses := by
  intro s rd rs1 rs2 simm13 asi hfpu hwf sum offset shortOf size load store short partialPlace
  have loads {i : Instr} {a : BitVec 8} {ea : Word64} {u : State} (hrd : rd.toNat % 8 = 0)
      (hi : exec i s = finishOpen u s (blockLoad s rd a ea)) : load i a ea := by
    obtain ⟨hstops, hends⟩ := blockLoad_ends hfpu hrd hi
    exact ⟨hstops, hends⟩
  have stores {i : Instr} {a : BitVec 8} {ea : Word64} (hrd : rd.toNat % 8 = 0)
      (hi : exec i s = finishOpen s s (blockStore s rd a ea)) : store i a ea := by
    obtain ⟨hstops, hends⟩ := blockStore_ends hfpu hwf hrd hi
    exact ⟨hstops, hends⟩
  have shorts {ld st : Instr} {a : BitVec 8} {ea : Word64} {u : State} (ha : a ∈ asiShort)
      (hld : exec ld s = finishOpen u s (shortLoad s rd a ea)) (hst : exec st s = finishOpen s s (shortStore s rd a ea)) :
      short ld st a ea := by
    have hload := hld.trans (shortLoad_accesses u s rd a ea hfpu)
    have hstore := hst.trans (shortStore_accesses s s rd a ea hfpu)
    rw [shortBytes_eq a ha] at hload hstore
    refine ⟨Accesses.stops hload, Accesses.stops hstore, fun x hx => ?_, fun x hx => ?_⟩
    · rw [Accesses.next hload hx]
      exact nextWithFD_writeFD (advance s) rd _
    · rw [Accesses.next hstore hx]
      exact nextStored_storeValue (u := advance s) hwf x _ _
  refine ⟨fun hrd => ⟨loads hrd rfl, stores hrd rfl, fun h => loads hrd (exec_LDDFA_block rd rs1 (addr := .asiReg simm13) h),
      fun h => stores hrd (exec_STDFA_block rd rs1 (addr := .asiReg simm13) h)⟩,
    fun hrd => ⟨finishOpen_needBlockReg_trap hrd, finishOpen_needBlockReg_trap hrd,
      fun h => (exec_LDDFA_block rd rs1 (addr := .asiReg simm13) h).trans (finishOpen_needBlockReg_trap hrd),
      fun h => (exec_STDFA_block rd rs1 (addr := .asiReg simm13) h).trans (finishOpen_needBlockReg_trap hrd)⟩,
    fun h => shorts h rfl rfl, fun h => shorts h (exec_LDDFA_short rd rs1 (addr := .asiReg simm13) h)
      (exec_STDFA_short rd rs1 (addr := .asiReg simm13) h),
    fun h => ?_, fun hasi hal => ?_⟩
  · rw [exec_STDFA_cases s rd rs1 (addr := .asiReg simm13) (asiPartial_apart s.asi h)]
    exact finishOpen_require_trap (by rw [partialByAsiReg, decide_eq_true h]; rfl) _
  · have hacc := exec_STPARTIALF hfpu rd rs1 rs2 asi ((aligned_iff _ 8).mp hal)
    rw [partialBytes_eq asi hasi] at hacc
    exact ⟨hacc.stops, fun x hx => ⟨_, hacc.next hx, fun b hb => read_partialStore hwf x _ _ _ hb,
      memoryKeptOutside_storeValue hwf x 8 _, rfl⟩⟩

end Sys2Proof.Machine
end

section
/-!
PROOF. Misaligned accesses, and ASIs that are restricted to other instructions.
-/

namespace Sys2Proof.Machine

open Sys2Proof

/-! ## Checks that fail -/

/-- A part of an instruction that raises an exception decides it. -/
theorem finishOpen_error {α : Type} {u s : State} {p : Eff α} {k : α → Eff State} {e : Exc}
    (h : p = .error (.trap e)) : finishOpen u s (p >>= k) = takeTrap e s := by
  rw [h]
  rfl

theorem aligned_eq_false {ea : Word64} {n : Nat} (h : ea.toNat % n ≠ 0) : aligned ea n = false :=
  Bool.eq_false_iff.mpr (mt (aligned_iff ea n).mp h)

theorem placeImplicit_misaligned {s : State} {ea : Word64} {n : Nat} (h : ea.toNat % n ≠ 0) (kind : AccessKind) :
    placeImplicit s ea n kind = .error (.trap .memAddressNotAligned) := by
  rw [placeImplicit, aligned_eq_false h]
  rfl

theorem asiMisused_eq_false {asi : BitVec 8} {valid : List (BitVec 8)} (h : asi ∉ asiRestrictedUse ∨ asi ∈ valid) :
    asiMisused asi valid = false := by
  rw [asiMisused]
  obtain hfree | hvalid := h
  · rw [decide_eq_false hfree, Bool.false_and]
  · rw [decide_eq_true hvalid, Bool.not_true, Bool.and_false]

theorem placeAsi_misaligned {s : State} {asi : BitVec 8} {valid : List (BitVec 8)} {ea : Word64} {n : Nat}
    (hasi : asi ∉ asiRestrictedUse ∨ asi ∈ valid) (h : ea.toNat % n ≠ 0) (kind : AccessKind) :
    placeAsi s asi valid ea n kind = .error (.trap .memAddressNotAligned) := by
  rw [placeAsi, checkAlignAsi, aligned_eq_false h, asiMisused_eq_false hasi]
  rfl

section
variable {ea : Word64} (e : Exc)

theorem checkAlignDouble_misaligned (h : ea.toNat % 4 ≠ 0) :
    checkAlignDouble false ea e = .error (.trap .memAddressNotAligned) := by
  rw [checkAlignDouble, aligned_eq_false h]
  rfl

/-- A doubleword on a word boundary. -/
theorem checkAlignDouble_word (h : ea.toNat % 8 = 4) : checkAlignDouble false ea e = .error (.trap e) := by
  rw [checkAlignDouble, (aligned_iff ea 4).mpr (by omega), aligned_eq_false (by omega : ea.toNat % 8 ≠ 0)]
  rfl

theorem checkAlignQuad_misaligned (h : ea.toNat % 4 ≠ 0) :
    checkAlignQuad false ea e = .error (.trap .memAddressNotAligned) := by
  rw [checkAlignQuad, aligned_eq_false h]
  rfl

/-- A quadword on a word boundary. -/
theorem checkAlignQuad_word (h4 : ea.toNat % 4 = 0) (h : ea.toNat % 16 ≠ 0) :
    checkAlignQuad false ea e = .error (.trap e) := by
  rw [checkAlignQuad, (aligned_iff ea 4).mpr h4, aligned_eq_false h]
  rfl

/-- A quadword access with an ASI restricted to other instructions raises no alignment exception. -/
theorem checkAlignQuad_exempt : checkAlignQuad true ea e = .ok () := by
  rw [checkAlignQuad, Bool.or_true, Bool.or_true]
  rfl

end

/-! ## Invalid ASIs -/

/-- The ASIs of ordinary accesses are not restricted to other instructions; nor are the register ASIs. -/
theorem asiRestrictedUse_apart : ∀ asi ∈ asiRestrictedUse,
    asiSpace asi ≠ none ∧ asi ∉ asiRegister ∧ asi ∉ asiLoad ++ asiMonitor ∧ asi ∉ asiAtomic ∧ asi ∉ asiLoad := by
  decide

/-- The ASIs that no store of R[rd] or of one F register may use. -/
theorem noStore_apart : ∀ asi ∈ asiBlock ++ asiCommit ++ asiPartial ++ asiShort,
    asi ∈ asiRestrictedUse ∧ asi ∉ asiStore ++ asiStbi ∧ asi ∉ asiStore ++ asiStbiX := by
  decide

/-- A memory ASI that is not valid for the instruction, where no watchpoint can match (R91). -/
theorem accessAsi_invalid {s : State} {asi : BitVec 8} (hpriv : asiPrivileged s asi = false)
    (hdata : s.par.watchData = []) (hother : s.par.watchOther = false) (hspace : asiSpace asi ≠ none)
    {valid : List (BitVec 8)} (hasi : asi ∉ valid) (ea : Word64) (size : Nat) (kind : AccessKind) :
    accessAsi s asi valid ea size kind = .error (.trap .daeInvalidAsi) := by
  have hwatch : watchData s.par (maskVa s ea).toNat size kind = false := by
    rw [watchData, hdata, hother]
    rfl
  obtain ⟨space, hsome⟩ := Option.ne_none_iff_exists'.mp hspace
  rw [accessAsi, hpriv, checkWatch, hwatch, hsome, Bool.and_false]
  exact if_neg fun h => hasi h.1

/-- The misuse of a restricted ASI raises DAE_invalid_asi, aligned or not. -/
theorem placeAsi_invalid {s : State} {asi : BitVec 8} (hpriv : asiPrivileged s asi = false)
    (hdata : s.par.watchData = []) (hother : s.par.watchOther = false) (hmisuse : asi ∈ asiRestrictedUse)
    {valid : List (BitVec 8)} (hasi : asi ∉ valid) (ea : Word64) (n : Nat) (kind : AccessKind) :
    placeAsi s asi valid ea n kind = .error (.trap .daeInvalidAsi) := by
  rw [placeAsi, checkAlignAsi, asiMisused, decide_eq_true hmisuse, decide_eq_false hasi, Bool.not_false, Bool.and_true,
    Bool.or_true]
  exact accessAsi_invalid hpriv hdata hother (asiRestrictedUse_apart asi hmisuse).1 hasi ea n kind

/-! ## The traps of each form -/

section
variable {s : State} {rd rs1 : Reg} {op2 : RegImm 13} {addr : AltOperand}

theorem loadRows_extended : ∀ r ∈ loadRows, r.2.2.1 = 8 → r.2.1 = .LDXA := by
  simp only [loadRows, List.forall_mem_cons]
  exact ⟨nofun, nofun, nofun, nofun, nofun, nofun, fun _ => trivial, fun _ h => absurd h List.not_mem_nil⟩

theorem storeRows_extended : ∀ r ∈ storeRows, r.2.2 = 8 → r.2.1 = .STXA := by
  simp only [storeRows, List.forall_mem_cons]
  exact ⟨nofun, nofun, nofun, fun _ => trivial, fun _ h => absurd h List.not_mem_nil⟩

theorem loadRow_misaligned {r : ArithForm × (Reg → Reg → AltOperand → Instr) × Nat × Bool} (hr : r ∈ loadRows)
    (h : (readR s rs1 + operand2 s op2).toNat % r.2.2.1 ≠ 0) :
    exec (r.1 rd rs1 op2) s = takeTrap .memAddressNotAligned s := by
  rw [(loadRows_loads r hr).plain]
  exact finishOpen_error (placeImplicit_misaligned h _)

theorem storeRow_misaligned {r : ArithForm × (Reg → Reg → AltOperand → Instr) × Nat} (hr : r ∈ storeRows)
    (h : (readR s rs1 + operand2 s op2).toNat % r.2.2 ≠ 0) :
    exec (r.1 rd rs1 op2) s = takeTrap .memAddressNotAligned s := by
  rw [(storeRows_stores r hr).plain]
  exact finishOpen_error (placeImplicit_misaligned h _)

theorem loadRow_traps {r : ArithForm × (Reg → Reg → AltOperand → Instr) × Nat × Bool} (hr : r ∈ loadRows)
    (hreg : r.2.2.1 ≠ 8 ∨ altAsi s addr ∉ asiRegister) {e : Exc}
    (h : placeAsi s (altAsi s addr) (asiLoad ++ asiMonitor) (altAddr s rs1 addr) r.2.2.1 .load = .error (.trap e)) :
    exec (r.2.1 rd rs1 addr) s = takeTrap e s := by
  rw [(loadRows_loads r hr).alternate rd rs1 addr s hreg]
  exact finishOpen_error h

/-- A misaligned load, also from a register ASI. -/
theorem loadRow_alternate_misaligned {r : ArithForm × (Reg → Reg → AltOperand → Instr) × Nat × Bool}
    (hr : r ∈ loadRows) (hasi : altAsi s addr ∉ asiRestrictedUse) (h : (altAddr s rs1 addr).toNat % r.2.2.1 ≠ 0) :
    exec (r.2.1 rd rs1 addr) s = takeTrap .memAddressNotAligned s := by
  by_cases hreg : r.2.2.1 = 8 ∧ altAsi s addr ∈ asiRegister
  · obtain ⟨h8, hmem⟩ := hreg
    rw [loadRows_extended r hr h8]
    exact ((exec_registerAccess hmem rd rs1).misaligned (h8 ▸ h)).1
  · exact loadRow_traps hr (not_and_or.mp hreg) (placeAsi_misaligned (.inl hasi) h _)

theorem storeRow_alternate_misaligned {r : ArithForm × (Reg → Reg → AltOperand → Instr) × Nat}
    (hr : r ∈ storeRows) (hasi : altAsi s addr ∉ asiRestrictedUse) (h : (altAddr s rs1 addr).toNat % r.2.2 ≠ 0) :
    exec (r.2.1 rd rs1 addr) s = takeTrap .memAddressNotAligned s := by
  by_cases hreg : r.2.2 = 8 ∧ altAsi s addr ∈ asiRegister
  · obtain ⟨h8, hmem⟩ := hreg
    rw [storeRows_extended r hr h8]
    exact ((exec_registerAccess hmem rd rs1).misaligned (h8 ▸ h)).2
  · exact ((storeRows_stores r hr).alternate rd rs1 addr s (not_and_or.mp hreg)).stops.1 _
      (placeAsi_misaligned (.inl hasi) h _)

/-- LDDFA whose ASI and register are accepted makes the checks of a doubleword access (R266). -/
theorem exec_LDDFA_traps (hfpu : fpuEnabled s = true) (hasi : altAsi s addr ∉ asiBlock ++ asiShort)
    (htwin : altAsi s addr ∉ asiTwin)
    (hcommit : altAsi s addr ∈ asiCommit → rd.toNat % 8 = 0 ∨ s.par.commitLoadIllegal = false) {e : Exc}
    (h : checkAlignDouble false (altAddr s rs1 addr) .lddfNotAligned = .error (.trap e)) :
    exec (.LDDFA rd rs1 addr) s = takeTrap e s := by
  rw [← decide_eq_false htwin] at h
  exact (exec_LDDFA_plain rd rs1 hasi hcommit).trans ((finishOpen_needFpu hfpu).trans (finishOpen_error h))

theorem exec_LDDFA_unrestricted (hfpu : fpuEnabled s = true) (hasi : altAsi s addr ∉ asiRestrictedUse) {e : Exc}
    (h : checkAlignDouble false (altAddr s rs1 addr) .lddfNotAligned = .error (.trap e)) :
    exec (.LDDFA rd rs1 addr) s = takeTrap e s := by
  simp only [asiRestrictedUse, List.mem_append, not_or] at hasi
  obtain ⟨⟨⟨⟨htwin, hblock⟩, hcommit⟩, -⟩, hshort⟩ := hasi
  exact exec_LDDFA_traps hfpu (fun hmem => (List.mem_append.mp hmem).elim hblock hshort) htwin
    (fun hc => absurd hc hcommit) h

theorem exec_STDFA_traps (hfpu : fpuEnabled s = true) (hasi : altAsi s addr ∉ asiRestrictedUse) {e : Exc}
    (h : checkAlignDouble false (altAddr s rs1 addr) .stdfNotAligned = .error (.trap e)) :
    exec (.STDFA rd rs1 addr) s = takeTrap e s := by
  simp only [asiRestrictedUse, List.mem_append, not_or] at hasi
  obtain ⟨⟨⟨⟨htwin, hblock⟩, hcommit⟩, hpartial⟩, hshort⟩ := hasi
  rw [← decide_eq_false htwin] at h
  have hplain : altAsi s addr ∉ asiBlock ++ asiCommit ++ asiShort ++ asiPartial := by
    simp only [List.mem_append, not_or]
    exact ⟨⟨⟨hblock, hcommit⟩, hshort⟩, hpartial⟩
  exact (exec_STDFA_plain rd rs1 hplain).trans ((finishOpen_needFpu hfpu).trans (finishOpen_error h))

end

/-- Partial-store and commit ASIs are no twin, block or short ones. -/
theorem asiPartialCommit_apart : ∀ asi ∈ asiPartial ++ asiCommit,
    asi ∉ asiBlock ++ asiShort ∧ asi ∉ asiTwin ∧ (asi ∈ asiCommit → asi ∉ asiPartial) := by
  decide

theorem shortBytes_two : ∀ asi ∈ [0xD2, 0xD3, 0xDA, 0xDB], asi ∈ asiShort ∧ shortBytes asi = 2 := by
  decide

section
variable {s : State} (hfpu : fpuEnabled s = true) {rd rs1 rs2 : BitVec 5} {op2 : RegImm 13} {addr : AltOperand}
include hfpu

theorem fpuWord_misaligned (h : (readR s rs1 + operand2 s op2).toNat % 4 ≠ 0) :
    ∀ i ∈ [Instr.LDF rd rs1 op2, .LDDF rd rs1 op2, .LDFSR rs1 op2, .STF rd rs1 op2, .STDF rd rs1 op2, .STFSR rs1 op2],
      exec i s = takeTrap .memAddressNotAligned s := by
  have hplace (kind : AccessKind) := placeImplicit_misaligned (s := s) h kind
  simp only [List.forall_mem_cons]
  refine ⟨?_, ?_, ?_, ?_, ?_, ?_, fun _ h => absurd h List.not_mem_nil⟩
  · exact (finishOpen_needFpu hfpu).trans (finishOpen_error (hplace _))
  · exact (finishOpen_needFpu hfpu).trans (finishOpen_error (checkAlignDouble_misaligned _ h))
  · exact (loadFsr_accesses hfpu rs1 op2 4 _).stops.1 _ (hplace _)
  · exact (finishOpen_needFpu hfpu).trans (finishOpen_error (hplace _))
  · exact (finishOpen_needFpu hfpu).trans (finishOpen_error (checkAlignDouble_misaligned _ h))
  · exact (storeFsr_accesses hfpu rs1 op2 4).stops.1 _ (hplace _)

theorem fpuDouble_word (h : (readR s rs1 + operand2 s op2).toNat % 8 = 4) :
    exec (.LDDF rd rs1 op2) s = takeTrap .lddfNotAligned s ∧ exec (.STDF rd rs1 op2) s = takeTrap .stdfNotAligned s ∧
      exec (.LDXFSR rs1 op2) s = takeTrap .memAddressNotAligned s ∧
      exec (.STXFSR rs1 op2) s = takeTrap .memAddressNotAligned s := by
  have hplace (kind : AccessKind) :=
    placeImplicit_misaligned (s := s) (by omega : (readR s rs1 + operand2 s op2).toNat % 8 ≠ 0) kind
  refine ⟨?_, ?_, ?_, ?_⟩
  · exact (finishOpen_needFpu hfpu).trans (finishOpen_error (checkAlignDouble_word _ h))
  · exact (finishOpen_needFpu hfpu).trans (finishOpen_error (checkAlignDouble_word _ h))
  · exact (loadFsr_accesses hfpu rs1 op2 8 _).stops.1 _ (hplace _)
  · exact (storeFsr_accesses hfpu rs1 op2 8).stops.1 _ (hplace _)

theorem fpuAlternate_misaligned (hasi : altAsi s addr ∉ asiRestrictedUse)
    (h : (altAddr s rs1 addr).toNat % 4 ≠ 0) :
    ∀ i ∈ [Instr.LDFA rd rs1 addr, .LDDFA rd rs1 addr, .STFA rd rs1 addr, .STDFA rd rs1 addr],
      exec i s = takeTrap .memAddressNotAligned s := by
  simp only [List.forall_mem_cons]
  refine ⟨?_, ?_, ?_, ?_, fun _ h => absurd h List.not_mem_nil⟩
  · exact (exec_LDFA hfpu rd rs1 addr).stops.1 _ (placeAsi_misaligned (.inl hasi) h _)
  · exact exec_LDDFA_unrestricted hfpu hasi (checkAlignDouble_misaligned _ h)
  · exact (exec_STFA hfpu rd rs1 addr).stops.1 _ (placeAsi_misaligned (.inl hasi) h _)
  · exact exec_STDFA_traps hfpu hasi (checkAlignDouble_misaligned _ h)

/-- LDDFA with a partial-store ASI, or with a commit ASI whose register is accepted, is checked as a doubleword. -/
theorem exec_LDDFA_partialCommit
    (hasi : altAsi s addr ∈ asiPartial ∨
      (altAsi s addr ∈ asiCommit ∧ (rd.toNat % 8 = 0 ∨ s.par.commitLoadIllegal = false))) {e : Exc}
    (h : checkAlignDouble false (altAddr s rs1 addr) .lddfNotAligned = .error (.trap e)) :
    exec (.LDDFA rd rs1 addr) s = takeTrap e s := by
  obtain ⟨hplain, htwin, hapart⟩ :=
    asiPartialCommit_apart _ (List.mem_append.mpr (hasi.imp id And.left))
  exact exec_LDDFA_traps hfpu hplain htwin
    (fun hc => hasi.elim (fun hp => absurd hp (hapart hc)) And.right) h

/-- Block accesses at no multiple of 64. -/
theorem block_misaligned {asi : BitVec 8} {ea : Word64} {u : State} (hrd : rd.toNat % 8 = 0) (h : ea.toNat % 64 ≠ 0) :
    (asi ∈ asiBlock → finishOpen u s (blockLoad s rd asi ea) = takeTrap .memAddressNotAligned s) ∧
      (asi ∈ asiBlock ++ asiCommit →
        finishOpen u s (blockStore s rd asi ea) = takeTrap .memAddressNotAligned s) :=
  ⟨fun ha => (blockLoad_accesses u s rd asi ea hfpu hrd).stops.1 _ (placeAsi_misaligned (.inr ha) h _),
    fun ha => (blockStore_accesses u s rd asi ea hfpu hrd).stops.1 _ (placeAsi_misaligned (.inr ha) h _)⟩

/-- Short accesses of two bytes at an odd address. -/
theorem short_misaligned {asi : BitVec 8} {ea : Word64} {u : State} (ha : asi ∈ [0xD2, 0xD3, 0xDA, 0xDB])
    (h : ea.toNat % 2 ≠ 0) : finishOpen u s (shortLoad s rd asi ea) = takeTrap .memAddressNotAligned s ∧
      finishOpen u s (shortStore s rd asi ea) = takeTrap .memAddressNotAligned s := by
  obtain ⟨hshort, htwo⟩ := shortBytes_two asi ha
  rw [← htwo] at h
  exact ⟨(shortLoad_accesses u s rd asi ea hfpu).stops.1 _ (placeAsi_misaligned (.inr hshort) h _),
    (shortStore_accesses u s rd asi ea hfpu).stops.1 _ (placeAsi_misaligned (.inr hshort) h _)⟩

theorem exec_STPARTIALF_traps (asi : BitVec 8) {e : Exc}
    (h : checkAlignDouble false (readR s rs1) (if s.par.partialStdf then .stdfNotAligned else .memAddressNotAligned) =
      .error (.trap e)) : exec (.STPARTIALF rd rs1 rs2 asi) s = takeTrap e s :=
  (finishOpen_needFpu hfpu).trans (finishOpen_error h)

section
variable (hquad : s.par.hasQuad = true) {e f : Exc}
include hquad

theorem quad_traps (hload : checkAlignQuad false (readR s rs1 + operand2 s op2) .ldqfNotAligned = .error (.trap e))
    (hstore : checkAlignQuad false (readR s rs1 + operand2 s op2) .stqfNotAligned = .error (.trap f)) :
    exec (.LDQF rd rs1 op2) s = takeTrap e s ∧ exec (.STQF rd rs1 op2) s = takeTrap f s :=
  ⟨(finishOpen_needQuad hquad).trans ((finishOpen_needFpu hfpu).trans (finishOpen_error hload)),
    (finishOpen_needQuad hquad).trans ((finishOpen_needFpu hfpu).trans (finishOpen_error hstore))⟩

theorem quadAlternate_traps (hasi : altAsi s addr ∉ asiRestrictedUse)
    (hload : checkAlignQuad false (altAddr s rs1 addr) .ldqfNotAligned = .error (.trap e))
    (hstore : checkAlignQuad false (altAddr s rs1 addr) .stqfNotAligned = .error (.trap f)) :
    exec (.LDQFA rd rs1 addr) s = takeTrap e s ∧ exec (.STQFA rd rs1 addr) s = takeTrap f s := by
  have hexempt (valid : List (BitVec 8)) : false = asiMisused (altAsi s addr) valid :=
    (asiMisused_eq_false (.inl hasi)).symm
  rw [hexempt asiLoad] at hload
  rw [hexempt (asiStore ++ asiStbi)] at hstore
  exact ⟨(finishOpen_needQuad hquad).trans ((finishOpen_needFpu hfpu).trans (finishOpen_error hload)),
    (finishOpen_needQuad hquad).trans ((finishOpen_needFpu hfpu).trans (finishOpen_error hstore))⟩

/-- A quadword access with a misused ASI goes on to the check of the ASI. -/
theorem quadAlternate_invalid (heven : rd.toNat % 2 = 0) (hmisuse : altAsi s addr ∈ asiRestrictedUse) :
    (altAsi s addr ∉ asiLoad →
      accessAsi s (altAsi s addr) asiLoad (altAddr s rs1 addr) 16 .load = .error (.trap e) →
      exec (.LDQFA rd rs1 addr) s = takeTrap e s) ∧
    (altAsi s addr ∉ asiStore ++ asiStbi →
      accessAsi s (altAsi s addr) (asiStore ++ asiStbi) (altAddr s rs1 addr) 16 .store = .error (.trap e) →
      exec (.STQFA rd rs1 addr) s = takeTrap e s) := by
  have pass {valid : List (BitVec 8)} (hasi : altAsi s addr ∉ valid) (u : State) (ea : Word64) (f : Exc)
      (k : Unit → Eff State) : finishOpen u s (checkAlignQuad (asiMisused (altAsi s addr) valid) ea f >>= k) =
        finishOpen u s (k ()) := by
    rw [asiMisused, decide_eq_true hmisuse, decide_eq_false hasi]
    exact congrArg (fun p => finishOpen u s (p >>= k)) (checkAlignQuad_exempt f)
  refine ⟨fun hasi h => ?_, fun hasi h => ?_⟩
  · calc exec (.LDQFA rd rs1 addr) s
      _ = _ := finishOpen_needQuad hquad
      _ = _ := finishOpen_needFpu hfpu
      _ = _ := pass hasi _ _ _ _
      _ = _ := finishOpen_needQuadReg heven
      _ = _ := finishOpen_error h
  · calc exec (.STQFA rd rs1 addr) s
      _ = _ := finishOpen_needQuad hquad
      _ = _ := finishOpen_needFpu hfpu
      _ = _ := pass hasi _ _ _ _
      _ = _ := finishOpen_needQuadReg heven
      _ = _ := finishOpen_error h

end

end

/-- Settles O43: the first check that fails decides each access. -/
theorem misalignedAccesses : Obligations.MisalignedAccesses := by
  intro s rd rs1 rs2 op2 addr source a ea alt asi sum traps misaligned
  have hea {n : Nat} (h : ea % n ≠ 0) (kind : AccessKind) := placeImplicit_misaligned (s := s) h kind
  have halt {n : Nat} {valid : List (BitVec 8)} (hasi : asi ∉ asiRestrictedUse ∨ asi ∈ valid) (h : alt % n ≠ 0)
      (kind : AccessKind) := placeAsi_misaligned (s := s) hasi h kind
  have hsum {n : Nat} {valid : List (BitVec 8)} (ha : a ∈ valid) (h : sum % n ≠ 0) (kind : AccessKind) :=
    placeAsi_misaligned (s := s) (.inr ha) h kind
  refine ⟨fun r hr h => loadRow_misaligned hr h, fun r hr h => storeRow_misaligned hr h,
    fun h => finishOpen_error (hea h _), fun heven h => ⟨?_, ?_⟩, fun hasi => ⟨fun h => ?_, fun h => ?_⟩,
    fun hasi => ⟨fun r hr h => loadRow_alternate_misaligned hr hasi h,
      fun r hr h => storeRow_alternate_misaligned hr hasi h, fun h => finishOpen_error (halt (.inl hasi) h _),
      fun heven h => ⟨?_, ?_⟩⟩,
    fun heven ha h => ?_, fun hfpu => ?_, fun hpriv hdata hother => ⟨?_, ?_⟩⟩
  · exact (finishOpen_needEven heven s s _).trans (finishOpen_error (hea h _))
  · exact (finishOpen_needEven heven s s _).trans (finishOpen_error (hea h _))
  · exact finishOpen_error (placeAsi_misaligned (.inl hasi) h _)
  · exact finishOpen_error (placeAsi_misaligned (.inl hasi) h _)
  · exact (finishOpen_needEven heven _ s _).trans (finishOpen_error (halt (.inl hasi) h _))
  · exact (finishOpen_needEven heven s s _).trans (finishOpen_error (halt (.inl hasi) h _))
  · exact (finishOpen_needEven heven s s _).trans (finishOpen_error (hsum ha h _))
  · refine ⟨fun h => fpuWord_misaligned hfpu h, fun h => fpuDouble_word hfpu h, fun hasi => ⟨fun h =>
      fpuAlternate_misaligned hfpu hasi h, fun h => ⟨exec_LDDFA_unrestricted hfpu hasi (checkAlignDouble_word _ h),
        exec_STDFA_traps hfpu hasi (checkAlignDouble_word _ h)⟩⟩,
      fun hasi => ⟨fun h => exec_LDDFA_partialCommit hfpu hasi (checkAlignDouble_misaligned _ h),
        fun h => exec_LDDFA_partialCommit hfpu hasi (checkAlignDouble_word _ h)⟩,
      fun hrd h => block_misaligned hfpu hrd h, fun hrd h => ⟨fun hasi => ?_, fun hasi => ?_⟩,
      fun ha h => short_misaligned hfpu ha h, fun hasi h => ⟨?_, ?_⟩,
      fun h => exec_STPARTIALF_traps hfpu a (checkAlignDouble_misaligned _ h),
      fun h => exec_STPARTIALF_traps hfpu a (checkAlignDouble_word _ h),
      fun hquad => ⟨fun h => quad_traps hfpu hquad (checkAlignQuad_misaligned _ h) (checkAlignQuad_misaligned _ h),
        fun h4 h => quad_traps hfpu hquad (checkAlignQuad_word _ h4 h) (checkAlignQuad_word _ h4 h),
        fun hasi => ⟨fun h => quadAlternate_traps hfpu hquad hasi (checkAlignQuad_misaligned _ h)
            (checkAlignQuad_misaligned _ h),
          fun h4 h => quadAlternate_traps hfpu hquad hasi (checkAlignQuad_word _ h4 h)
            (checkAlignQuad_word _ h4 h)⟩⟩⟩
    · exact (exec_LDDFA_block rd rs1 hasi).trans ((block_misaligned hfpu hrd h).1 hasi)
    · exact (exec_STDFA_block rd rs1 hasi).trans ((block_misaligned hfpu hrd h).2 hasi)
    · exact (exec_LDDFA_short rd rs1 (shortBytes_two asi hasi).1).trans (short_misaligned hfpu hasi h).1
    · exact (exec_STDFA_short rd rs1 (shortBytes_two asi hasi).1).trans (short_misaligned hfpu hasi h).2
  · intro hmisuse
    obtain ⟨hspace, hreg, hload, hatomic, hplain⟩ := asiRestrictedUse_apart asi hmisuse
    have hplace {valid : List (BitVec 8)} (hasi : asi ∉ valid) :=
      placeAsi_invalid hpriv hdata hother hmisuse hasi (altAddr s rs1 addr)
    refine ⟨fun r hr => loadRow_traps hr (.inr hreg) (hplace hload _ _), finishOpen_error (hplace hatomic _ _),
      finishOpen_error (hplace hatomic _ _), fun heven => ?_, fun hfpu => ?_, fun hfpu hquad heven => ?_⟩
    · exact (finishOpen_needEven heven _ s _).trans (finishOpen_error (hplace hplain _ _))
    · exact (exec_LDFA hfpu rd rs1 addr).stops.1 _ (hplace hplain _ _)
    · exact (quadAlternate_invalid hfpu hquad heven hmisuse).1 hplain
        (accessAsi_invalid hpriv hdata hother hspace hplain _ _ _)
  · intro hmem
    obtain ⟨hmisuse, hstore, hstoreX⟩ := noStore_apart asi hmem
    obtain ⟨hspace, hreg, -⟩ := asiRestrictedUse_apart asi hmisuse
    have hplace {valid : List (BitVec 8)} (hasi : asi ∉ valid) :=
      placeAsi_invalid hpriv hdata hother hmisuse hasi (altAddr s rs1 addr)
    refine ⟨fun r hr => ((storeRows_stores r hr).alternate rd rs1 addr s (.inr hreg)).stops.1 _ (hplace ?_ _ _),
      fun heven => ?_, fun hfpu => ?_, fun hfpu hquad heven => ?_⟩
    · rw [storeAsis]
      split
      · exact hstoreX
      · exact hstore
    · exact (finishOpen_needEven heven s s _).trans (finishOpen_error (hplace hstore _ _))
    · exact (exec_STFA hfpu rd rs1 addr).stops.1 _ (hplace hstore _ _)
    · exact (quadAlternate_invalid hfpu hquad heven hmisuse).2 hstore
        (accessAsi_invalid hpriv hdata hother hspace hstore _ _ _)

end Sys2Proof.Machine
end

section
/-!
PROOF. The checks on the floating-point unit: where the FPU is disabled, and where a quad number is refused.
-/

namespace Sys2Proof.Machine

open Sys2Proof

/-! ## The checks of an FPop -/

/-- The outcome is that of an instruction that makes the checks of an FPop on these registers first (R341). -/
def ChecksFp (o : Out) (s : State) (regs : List (Prec × BitVec 5)) : Prop :=
  ∃ k, o = finish s (fpChecks s regs >>= k)

theorem ChecksFp.disabled {o : Out} {s : State} {regs : List (Prec × BitVec 5)} (h : ChecksFp o s regs)
    (hfpu : fpuEnabled s = false) (hquad : ∀ r ∈ regs, r.1 = .q → s.par.hasQuad = true) :
    o = takeTrap .fpDisabled s := by
  obtain ⟨k, rfl⟩ := h
  rw [finish_fpChecks, if_pos, hfpu]
  · rfl
  · simp only [List.all_eq_true, Bool.or_eq_true, decide_eq_true_iff]
    exact fun r hr => (em (r.1 = .q)).symm.imp id (hquad r hr)

/-- A quad FPop of an implementation without them is illegal (R305). -/
theorem ChecksFp.no_quad {o : Out} {s : State} {regs : List (Prec × BitVec 5)} (h : ChecksFp o s regs) {n : BitVec 5}
    (hn : (Prec.q, n) ∈ regs) (hquad : s.par.hasQuad = false) : o = takeTrap .illegalInstruction s := by
  obtain ⟨k, rfl⟩ := h
  rw [finish_fpChecks, if_neg]
  intro hall
  have hq := List.all_eq_true.mp hall _ hn
  rw [hquad] at hq
  exact Bool.false_ne_true hq

/-- A quad register number that is no multiple of 4 raises invalid_fp_register (R115). -/
theorem ChecksFp.odd_quad {o : Out} {s : State} {regs : List (Prec × BitVec 5)} (h : ChecksFp o s regs)
    (hquad : s.par.hasQuad = true) (hfpu : fpuEnabled s = true) {n : BitVec 5} (hn : (Prec.q, n) ∈ regs)
    (hodd : n.toNat % 2 = 1) : o = takeTrap (.fpOther 6) s := by
  obtain ⟨k, rfl⟩ := h
  have hhas : (regs.all fun r => decide (r.1 ≠ .q) || s.par.hasQuad) = true :=
    List.all_eq_true.mpr fun _ _ => by rw [hquad, Bool.or_true]
  rw [finish_fpChecks, if_pos hhas, if_pos hfpu, if_neg]
  intro hall
  have hbit := List.all_eq_true.mp hall _ hn
  rw [bit_zero_eq, decide_eq_true hodd] at hbit
  exact Bool.false_ne_true hbit

/-- What the checks on quad registers ask of an outcome (R115, R305). -/
def StopsQuad (o : Out) (s : State) (regs : List (Prec × BitVec 5)) : Prop :=
  (∃ k, (Prec.q, k) ∈ regs) →
    (s.par.hasQuad = false → o = takeTrap .illegalInstruction s) ∧
    (s.par.hasQuad = true → fpuEnabled s = true → (∃ k, (Prec.q, k) ∈ regs ∧ k.toNat % 2 = 1) →
      o = takeTrap (.fpOther 6) s)

theorem ChecksFp.stops {o : Out} {s : State} {regs : List (Prec × BitVec 5)} (h : ChecksFp o s regs) :
    StopsQuad o s regs :=
  fun ⟨_, hn⟩ => ⟨h.no_quad hn, fun hquad hfpu ⟨_, hm, hodd⟩ => h.odd_quad hquad hfpu hm hodd⟩

/-! ## The rows of FPops -/

theorem fpBinaryRows_checks (rd rs1 rs2 : BitVec 5) (s : State) : ∀ r ∈ fpBinaryRows,
    ChecksFp (exec (r.1 rd rs1 rs2) s) s [(r.2.1, rs1), (r.2.1, rs2), (r.2.2.1, rd)] ∨
      FaddqNumber s (r.1 rd rs1 rs2) rd rs1 rs2 := by
  intro r hr
  refine (exec_fpBinaryRows rd rs1 rs2 s r hr).imp_left fun h => ?_
  rw [h]
  exact ⟨_, rfl⟩

/-- The instruction makes the checks of an FPop on a source and a destination. -/
structure ChecksPair (make : BitVec 5 → BitVec 5 → Instr) (src dst : Prec) : Prop where
  checks : ∀ rd rs2 s, ChecksFp (exec (make rd rs2) s) s [(src, rs2), (dst, rd)]

theorem fpUnaryRows_checks : ∀ r ∈ fpUnaryRows, ChecksPair r.1 r.2.1 r.2.2.1 := by
  have row {make : BitVec 5 → BitVec 5 → Instr} {src dst : Prec}
      (h : ∀ rd rs2 s, ∃ k, exec (make rd rs2) s = finish s (fpChecks s [(src, rs2), (dst, rd)] >>= k)) :
      ChecksPair make src dst := ⟨h⟩
  simp only [fpUnaryRows, List.forall_mem_cons]
  exact ⟨row fun _ _ _ => ⟨_, rfl⟩, row fun _ _ _ => ⟨_, rfl⟩, row fun _ _ _ => ⟨_, rfl⟩, row fun _ _ _ => ⟨_, rfl⟩,
    row fun _ _ _ => ⟨_, rfl⟩, row fun _ _ _ => ⟨_, rfl⟩, row fun _ _ _ => ⟨_, rfl⟩, row fun _ _ _ => ⟨_, rfl⟩,
    row fun _ _ _ => ⟨_, rfl⟩, row fun _ _ _ => ⟨_, rfl⟩, row fun _ _ _ => ⟨_, rfl⟩, row fun _ _ _ => ⟨_, rfl⟩,
    row fun _ _ _ => ⟨_, rfl⟩, row fun _ _ _ => ⟨_, rfl⟩, row fun _ _ _ => ⟨_, rfl⟩,
    fun _ h => absurd h List.not_mem_nil⟩

theorem fpFromIntRows_checks : ∀ r ∈ fpFromIntRows, ∃ src, src ≠ .q ∧ ChecksPair r.1 src r.2.2 := by
  simp only [fpFromIntRows, List.forall_mem_cons]
  exact ⟨⟨.s, by decide, ⟨fun _ _ _ => ⟨_, rfl⟩⟩⟩, ⟨.s, by decide, ⟨fun _ _ _ => ⟨_, rfl⟩⟩⟩,
    ⟨.s, by decide, ⟨fun _ _ _ => ⟨_, rfl⟩⟩⟩, ⟨.d, by decide, ⟨fun _ _ _ => ⟨_, rfl⟩⟩⟩,
    ⟨.d, by decide, ⟨fun _ _ _ => ⟨_, rfl⟩⟩⟩, ⟨.d, by decide, ⟨fun _ _ _ => ⟨_, rfl⟩⟩⟩,
    fun _ h => absurd h List.not_mem_nil⟩

theorem moveSRows_checks : ∀ r ∈ moveSRows, ChecksPair r.1 .s .s := by
  simp only [moveSRows, List.forall_mem_cons]
  exact ⟨⟨fun _ _ _ => ⟨_, rfl⟩⟩, ⟨fun _ _ _ => ⟨_, rfl⟩⟩, ⟨fun _ _ _ => ⟨_, rfl⟩⟩,
    fun _ h => absurd h List.not_mem_nil⟩

theorem moveDRows_checks : ∀ r ∈ moveDRows, ChecksPair r.1 .d .d := by
  simp only [moveDRows, List.forall_mem_cons]
  exact ⟨⟨fun _ _ _ => ⟨_, rfl⟩⟩, ⟨fun _ _ _ => ⟨_, rfl⟩⟩, ⟨fun _ _ _ => ⟨_, rfl⟩⟩,
    fun _ h => absurd h List.not_mem_nil⟩

theorem moveQRows_checks : ∀ r ∈ moveQRows, ChecksPair r.1 .q .q := by
  simp only [moveQRows, List.forall_mem_cons]
  exact ⟨⟨fun _ _ _ => ⟨_, rfl⟩⟩, ⟨fun _ _ _ => ⟨_, rfl⟩⟩, ⟨fun _ _ _ => ⟨_, rfl⟩⟩,
    fun _ h => absurd h List.not_mem_nil⟩

/-- The moves of F registers on a condition make the checks of an FPop on both registers. -/
structure ChecksMoves (single double quad : BitVec 5 → BitVec 5 → Instr) : Prop where
  single : ChecksPair single .s .s
  double : ChecksPair double .d .d
  quad : ChecksPair quad .q .q

theorem fccMoveRows_checks (cond : FCond) : ∀ r ∈ fccMoveRows,
    ChecksMoves (r.2.2.1 · cond ·) (r.2.2.2.1 · cond ·) (r.2.2.2.2 · cond ·) := by
  simp only [fccMoveRows, List.forall_mem_cons]
  exact ⟨⟨⟨fun _ _ _ => ⟨_, rfl⟩⟩, ⟨fun _ _ _ => ⟨_, rfl⟩⟩, ⟨fun _ _ _ => ⟨_, rfl⟩⟩⟩,
    ⟨⟨fun _ _ _ => ⟨_, rfl⟩⟩, ⟨fun _ _ _ => ⟨_, rfl⟩⟩, ⟨fun _ _ _ => ⟨_, rfl⟩⟩⟩,
    ⟨⟨fun _ _ _ => ⟨_, rfl⟩⟩, ⟨fun _ _ _ => ⟨_, rfl⟩⟩, ⟨fun _ _ _ => ⟨_, rfl⟩⟩⟩,
    ⟨⟨fun _ _ _ => ⟨_, rfl⟩⟩, ⟨fun _ _ _ => ⟨_, rfl⟩⟩, ⟨fun _ _ _ => ⟨_, rfl⟩⟩⟩,
    fun _ h => absurd h List.not_mem_nil⟩

theorem iccMoveRows_checks (cond : ICond) : ∀ r ∈ iccMoveRows,
    ChecksMoves (r.2.2.1 · cond ·) (r.2.2.2.1 · cond ·) (r.2.2.2.2 · cond ·) := by
  simp only [iccMoveRows, List.forall_mem_cons]
  exact ⟨⟨⟨fun _ _ _ => ⟨_, rfl⟩⟩, ⟨fun _ _ _ => ⟨_, rfl⟩⟩, ⟨fun _ _ _ => ⟨_, rfl⟩⟩⟩,
    ⟨⟨fun _ _ _ => ⟨_, rfl⟩⟩, ⟨fun _ _ _ => ⟨_, rfl⟩⟩, ⟨fun _ _ _ => ⟨_, rfl⟩⟩⟩,
    fun _ h => absurd h List.not_mem_nil⟩

theorem regRows_checks (rs1 : Reg) : ∀ r ∈ regRows,
    ChecksMoves (r.2.2.2.1 · rs1 ·) (r.2.2.2.2.1 · rs1 ·) (r.2.2.2.2.2 · rs1 ·) := by
  intro r hr
  have hmoves := fun rd rs2 s => exec_regMoves rd rs1 rs2 s r hr
  exact ⟨⟨fun rd rs2 s => ⟨_, (hmoves rd rs2 s).1⟩⟩, ⟨fun rd rs2 s => ⟨_, (hmoves rd rs2 s).2.1⟩⟩,
    ⟨fun rd rs2 s => ⟨_, (hmoves rd rs2 s).2.2⟩⟩⟩

theorem fpFusedRows_checks (rd rs1 rs2 rs3 : BitVec 5) (s : State) : ∀ r ∈ fpFusedRows, r.2.1 ≠ .q ∧
    ChecksFp (exec (r.1 rd rs1 rs2 rs3) s) s [(r.2.1, rs1), (r.2.1, rs2), (r.2.1, rs3), (r.2.1, rd)] := by
  intro r hr
  obtain ⟨hq, hexec⟩ := exec_fpFusedRows rd rs1 rs2 rs3 s r hr
  exact ⟨hq, _, hexec⟩

theorem fpCompareRows_checks (cc : BitVec 2) (rs1 rs2 : BitVec 5) (s : State) : ∀ r ∈ fpCompareRows,
    ChecksFp (exec (r.1 cc rs1 rs2) s) s [(r.2.1, rs1), (r.2.1, rs2)] :=
  fun r hr => ⟨_, exec_fpCompareRows cc rs1 rs2 s r hr⟩

end Sys2Proof.Machine
end
section
/-!
PROOF. Every group of instructions that uses the FPU, where it is disabled.
-/

namespace Sys2Proof.Machine

open Sys2Proof

theorem takeTrap_fpDisabled {s : State} (htl : s.tl.val < 2) : takeTrap .fpDisabled s = .next (enterTrap s 0x020) :=
  takeTrap_delivered rfl rfl htl nofun

theorem fpuEnabled_eq_false {s : State} (h : s.par.hasFpu = false ∨ s.pstate.pef = false ∨ s.fprs.fef = false) :
    fpuEnabled s = false := by
  rw [fpuEnabled]
  rcases h with h | h | h <;> rw [h]
  · rfl
  · rw [Bool.and_false, Bool.false_and]
  · rw [Bool.and_false]

section
variable {s : State} (hfpu : fpuEnabled s = false)
include hfpu

theorem finishOpen_needFpu_disabled {u : State} {k : Unit → Eff State} :
    finishOpen u s (needFpu s >>= k) = takeTrap .fpDisabled s := finishOpen_require_trap hfpu _

theorem toFD_disabled (rd : DReg) (v : Word64) : toFD rd v s = takeTrap .fpDisabled s := by
  rw [toFD_eq, hfpu]
  rfl

theorem toFS_disabled (rd : FReg) (v : Word32) : toFS rd v s = takeTrap .fpDisabled s := by
  rw [toFS_eq, hfpu]
  rfl

theorem toR_disabled (rd : Reg) (v : Word64) : toR rd v s = takeTrap .fpDisabled s := by
  rw [toR_eq, hfpu]
  rfl

/-- The VIS instructions. -/
theorem vis_disabled (rd rs1 rs2 rs3 : BitVec 5) :
    (∀ r ∈ laneRows, exec (r.make rd rs1 rs2) s = takeTrap .fpDisabled s) ∧
    (∀ r ∈ laneSRows, exec (r.make rd rs1 rs2) s = takeTrap .fpDisabled s) ∧
    (∀ r ∈ laneCompareRows, exec (r.make rd rs1 rs2) s = takeTrap .fpDisabled s) ∧
    (∀ r ∈ visDoubleRows, exec (r.1 rd rs1 rs2 rs3) s = takeTrap .fpDisabled s) ∧
    (∀ r ∈ visSingleRows, exec (r.1 rd rs1 rs2) s = takeTrap .fpDisabled s) ∧
    (∀ r ∈ visIntRows, exec (r.1 rd rs1 rs2) s = takeTrap .fpDisabled s) := by
  refine ⟨fun r hr => ?_, fun r hr => ?_, fun r hr => ?_, fun r hr => ?_, fun r hr => ?_, fun r hr => ?_⟩
  · obtain ⟨f, h⟩ := laneRows_lanes r hr
    exact (h.runs rd rs1 rs2 s).trans (toFD_disabled hfpu rd _)
  · obtain ⟨f, h⟩ := laneSRows_lanes r hr
    exact (h.runs rd rs1 rs2 s).trans (toFS_disabled hfpu rd _)
  · obtain ⟨cmp, h⟩ := laneCompareRows_lanes r hr
    exact (h.runs rd rs1 rs2 s).trans (toR_disabled hfpu rd _)
  · exact (exec_visDoubleRows rd rs1 rs2 rs3 s r hr).trans (toFD_disabled hfpu rd _)
  · exact (exec_visSingleRows rd rs1 rs2 s r hr).trans (toFS_disabled hfpu rd _)
  · exact (exec_visIntRows rd rs1 rs2 s r hr).trans (toR_disabled hfpu rd _)

theorem fccBranch_disabled : ∀ r ∈ fccRows, ∀ (a p : Bool) (cc : BitVec 2) (disp : BitVec 22) (disp19 : BitVec 19),
    exec (r.2.2.1 a disp) s = takeTrap .fpDisabled s ∧ exec (r.2.2.2 a cc p disp19) s = takeTrap .fpDisabled s := by
  intro r hr a p cc disp disp19
  obtain ⟨cond, h⟩ := fccRows_cond r hr
  exact ⟨(h.fbfcc a disp s).trans (finishOpen_needFpu_disabled hfpu),
    (h.fbpfcc a cc p disp19 s).trans (finishOpen_needFpu_disabled hfpu)⟩

theorem fccMoveR_disabled (rd : Reg) (cond : FCond) (op2 : RegImm 11) : ∀ r ∈ fccMoveRows,
    exec (r.2.1 rd cond op2) s = takeTrap .fpDisabled s := by
  simp only [fccMoveRows, List.forall_mem_cons]
  exact ⟨moveFcc_disabled s 0 rd cond op2 hfpu, moveFcc_disabled s 1 rd cond op2 hfpu,
    moveFcc_disabled s 2 rd cond op2 hfpu, moveFcc_disabled s 3 rd cond op2 hfpu,
    fun _ h => absurd h List.not_mem_nil⟩

variable {rd rs1 rs2 : BitVec 5} {addr : AltOperand}

/-- LDDFA, with a block or commit ASI only where the register is accepted. -/
theorem exec_LDDFA_disabled (h : rd.toNat % 8 = 0 ∨ altAsi s addr ∉ asiBlock ++ asiCommit) :
    exec (.LDDFA rd rs1 addr) s = takeTrap .fpDisabled s := by
  by_cases hblock : altAsi s addr ∈ asiBlock
  · have hrd := h.resolve_right fun hno => hno (List.mem_append_left _ hblock)
    exact (exec_LDDFA_block rd rs1 hblock).trans
      ((finishOpen_needBlockReg hrd).trans (finishOpen_needFpu_disabled hfpu))
  by_cases hshort : altAsi s addr ∈ asiShort
  · exact (exec_LDDFA_short rd rs1 hshort).trans (finishOpen_needFpu_disabled hfpu)
  · have hplain := fun hmem => (List.mem_append.mp hmem).elim hblock hshort
    have hcommit (hc : altAsi s addr ∈ asiCommit) := h.resolve_right fun hno => hno (List.mem_append_right _ hc)
    exact (exec_LDDFA_plain rd rs1 hplain fun hc => .inl (hcommit hc)).trans (finishOpen_needFpu_disabled hfpu)

/-- STDFA, likewise, with no partial-store ASI. -/
theorem exec_STDFA_disabled (h : rd.toNat % 8 = 0 ∨ altAsi s addr ∉ asiBlock ++ asiCommit)
    (hpartial : altAsi s addr ∉ asiPartial) : exec (.STDFA rd rs1 addr) s = takeTrap .fpDisabled s := by
  by_cases hblock : altAsi s addr ∈ asiBlock ++ asiCommit
  · have hrd := h.resolve_right fun hno => hno hblock
    exact (exec_STDFA_block rd rs1 hblock).trans
      ((finishOpen_needBlockReg hrd).trans (finishOpen_needFpu_disabled hfpu))
  by_cases hshort : altAsi s addr ∈ asiShort
  · exact (exec_STDFA_short rd rs1 hshort).trans (finishOpen_needFpu_disabled hfpu)
  · have hplain : altAsi s addr ∉ asiBlock ++ asiCommit ++ asiShort ++ asiPartial := by
      rw [List.mem_append, List.mem_append]
      exact not_or.mpr ⟨not_or.mpr ⟨hblock, hshort⟩, hpartial⟩
    exact (exec_STDFA_plain rd rs1 hplain).trans (finishOpen_needFpu_disabled hfpu)

theorem multiRows_disabled (imm5 : BitVec 5) : ∀ r ∈ multiRows imm5, bit s.par.cfr r.2 = true →
    exec r.1 s = takeTrap .fpDisabled s := by
  have multi (bitNo : Nat) (k : Unit → Eff State) (h : bit s.par.cfr bitNo = true) :
      finish s (multiChecks s bitNo >>= k) = takeTrap .fpDisabled s := by
    rw [finish_multiChecks, h, hfpu]
    rfl
  have hhash := hash_stops s
  simp only [multiRows, List.forall_mem_cons] at hhash ⊢
  obtain ⟨hMD5, hSHA1, hSHA256, hSHA512, -⟩ := hhash
  exact ⟨(hMD5.2 · hfpu), (hSHA1.2 · hfpu), (hSHA256.2 · hfpu), (hSHA512.2 · hfpu), multi 8 _, multi 9 _, multi 10 _,
    multi 12 _, multi 13 _, multi 14 _, fun _ h => absurd h List.not_mem_nil⟩

end

/-- The FPops, where no quad one is of an implementation without them. -/
theorem fpOps_disabled {s : State} (hfpu : fpuEnabled s = false) (rd rs1 rs2 rs3 : BitVec 5) :
    let usable (src dst : Prec) : Prop := src = .q ∨ dst = .q → s.par.hasQuad = true
    (∀ r ∈ fpBinaryRows, usable r.2.1 r.2.2.1 → exec (r.1 rd rs1 rs2) s = takeTrap .fpDisabled s) ∧
    (∀ r ∈ fpUnaryRows, usable r.2.1 r.2.2.1 → exec (r.1 rd rs2) s = takeTrap .fpDisabled s) ∧
    (∀ r ∈ fpFromIntRows, usable r.2.1 r.2.2 → exec (r.1 rd rs2) s = takeTrap .fpDisabled s) ∧
    (∀ r ∈ fpFusedRows, exec (r.1 rd rs1 rs2 rs3) s = takeTrap .fpDisabled s) ∧
    (∀ r ∈ fpCompareRows, ∀ cc, usable r.2.1 r.2.1 → exec (r.1 cc rs1 rs2) s = takeTrap .fpDisabled s) := by
  intro usable
  refine ⟨fun r hr h => ?_, fun r hr h => ?_, fun r hr h => ?_, fun r hr => ?_, fun r hr cc h => ?_⟩
  · refine ((fpBinaryRows_checks rd rs1 rs2 s r hr).resolve_right fun hno => ?_).disabled hfpu ?_
    · exact Bool.false_ne_true (hfpu.symm.trans hno.fpu)
    · simp only [List.forall_mem_cons]
      exact ⟨fun hq => h (.inl hq), fun hq => h (.inl hq), fun hq => h (.inr hq),
        fun _ h => absurd h List.not_mem_nil⟩
  · refine ((fpUnaryRows_checks r hr).checks rd rs2 s).disabled hfpu ?_
    simp only [List.forall_mem_cons]
    exact ⟨fun hq => h (.inl hq), fun hq => h (.inr hq), fun _ h => absurd h List.not_mem_nil⟩
  · obtain ⟨src, hsrc, hchecks⟩ := fpFromIntRows_checks r hr
    refine (hchecks.checks rd rs2 s).disabled hfpu ?_
    simp only [List.forall_mem_cons]
    exact ⟨fun hq => absurd hq hsrc, fun hq => h (.inr hq), fun _ h => absurd h List.not_mem_nil⟩
  · obtain ⟨hp, hchecks⟩ := fpFusedRows_checks rd rs1 rs2 rs3 s r hr
    refine hchecks.disabled hfpu ?_
    simp only [List.forall_mem_cons]
    exact ⟨fun hq => absurd hq hp, fun hq => absurd hq hp, fun hq => absurd hq hp, fun hq => absurd hq hp,
      fun _ h => absurd h List.not_mem_nil⟩
  · refine (fpCompareRows_checks cc rs1 rs2 s r hr).disabled hfpu ?_
    simp only [List.forall_mem_cons]
    exact ⟨fun hq => h (.inl hq), fun hq => h (.inl hq), fun _ h => absurd h List.not_mem_nil⟩

theorem ChecksPair.disabled {s : State} (hfpu : fpuEnabled s = false) {make : BitVec 5 → BitVec 5 → Instr} {p : Prec}
    (h : ChecksPair make p p) (hq : p = .q → s.par.hasQuad = true) (rd rs2 : BitVec 5) :
    exec (make rd rs2) s = takeTrap .fpDisabled s := by
  refine (h.checks rd rs2 s).disabled hfpu ?_
  simp only [List.forall_mem_cons]
  exact ⟨hq, hq, fun _ h => absurd h List.not_mem_nil⟩

/-- The loads and stores of F registers and FSR, the accesses to GSR, SIAM and the comparisons by order. -/
theorem plainForms_disabled {s : State} (hfpu : fpuEnabled s = false) (rd rs1 rs2 : BitVec 5) (op2 : RegImm 13)
    (addr : AltOperand) :
    (∀ (mode : BitVec 3) (cc : BitVec 2), ∀ i ∈ [Instr.SIAM mode, .FLCMPs cc rs1 rs2, .FLCMPd cc rs1 rs2],
      exec i s = takeTrap .fpDisabled s) ∧
    (∀ i ∈ [Instr.RDGSR rd, .WRGSR rs1 op2, .LDF rd rs1 op2, .LDDF rd rs1 op2, .LDFSR rs1 op2, .LDXFSR rs1 op2,
      .LDXEFSR rs1 op2, .STF rd rs1 op2, .STDF rd rs1 op2, .STFSR rs1 op2, .STXFSR rs1 op2, .LDFA rd rs1 addr,
      .STFA rd rs1 addr, .ALIGNADDRESS rd rs1 rs2, .ALIGNADDRESS_LITTLE rd rs1 rs2, .BMASK rd rs1 rs2, .CMASK8 rs2,
      .CMASK16 rs2, .CMASK32 rs2], exec i s = takeTrap .fpDisabled s) ∧
    (s.par.hasQuad = true →
      ∀ i ∈ [Instr.LDQF rd rs1 op2, .STQF rd rs1 op2, .LDQFA rd rs1 addr, .STQFA rd rs1 addr],
        exec i s = takeTrap .fpDisabled s) ∧
    (∀ a : BitVec 8, ∀ i ∈ [Instr.LDSHORTF rd rs1 rs2 a, .STSHORTF rd rs1 rs2 a, .STPARTIALF rd rs1 rs2 a],
      exec i s = takeTrap .fpDisabled s) := by
  have trap {u : State} {k : Unit → Eff State} := finishOpen_needFpu_disabled (u := u) (k := k) hfpu
  refine ⟨fun mode cc => ?_, ?_, fun hquad => ?_, fun a => ?_⟩
  · simp only [List.forall_mem_cons]
    exact ⟨trap, trap, trap, fun _ h => absurd h List.not_mem_nil⟩
  · simp only [List.forall_mem_cons]
    exact ⟨trap, trap, trap, trap, trap, trap, trap, trap, trap, trap, trap, trap, trap, trap, trap, trap, trap, trap,
      trap, fun _ h => absurd h List.not_mem_nil⟩
  · have quad {u : State} {k : Unit → Eff State} :
        finishOpen u s (needQuad s >>= fun _ => needFpu s >>= k) = takeTrap .fpDisabled s :=
      (finishOpen_needQuad hquad).trans trap
    simp only [List.forall_mem_cons]
    exact ⟨quad, quad, quad, quad, fun _ h => absurd h List.not_mem_nil⟩
  · simp only [List.forall_mem_cons]
    exact ⟨trap, trap, trap, fun _ h => absurd h List.not_mem_nil⟩

/-- The cryptographic instructions on one destination. -/
theorem crypto_disabled {s : State} (hfpu : fpuEnabled s = false) (rd rs1 rs2 rs3 : BitVec 5) :
    (∀ r ∈ cryptoRows, bit s.par.cfr r.2.1 = true → exec (r.1 rd rs1 rs2 rs3) s = takeTrap .fpDisabled s) ∧
    (bit s.par.cfr 11 = true → exec (.CRC32C rd rs1 rs2) s = takeTrap .fpDisabled s) ∧
    (∀ imm5 : BitVec 5, bit s.par.cfr 1 = true → imm5.toNat ≤ 3 →
      exec (.DES_KEXPAND rd rs1 imm5) s = takeTrap .fpDisabled s) := by
  have trap (bitNo : Nat) (v : Word64) (h : bit s.par.cfr bitNo = true) :
      cryptoResult bitNo rd v s = takeTrap .fpDisabled s := by
    rw [cryptoResult_eq, h, hfpu]
    rfl
  refine ⟨fun r hr h => ?_, fun h => ?_, fun imm5 h himm => ?_⟩
  · exact (exec_cryptoRows rd rs1 rs2 rs3 s r hr).trans (trap _ _ h)
  · exact (exec_CRC32C rd rs1 rs2 s).trans (trap _ _ h)
  · exact (exec_DES_KEXPAND rd rs1 imm5 s).trans ((if_pos himm).trans (trap _ _ h))

/-- The checks of a quad load or store that end at its register number (R263, R275). -/
theorem quadChecks_number {s u : State} (hquad : s.par.hasQuad = true) (hfpu : fpuEnabled s = true) {ea : Word64}
    (h : ea.toNat % 16 = 0) {rd : DReg} (hodd : rd.toNat % 2 = 1) {exempt : Bool} {e : Exc} {k : Unit → Eff State} :
    finishOpen u s (needQuad s >>= fun _ => needFpu s >>= fun _ => checkAlignQuad exempt ea e >>= fun _ =>
      needQuadReg rd >>= k) = takeTrap (.fpOther 6) s :=
  calc finishOpen u s _
    _ = _ := finishOpen_needQuad hquad
    _ = _ := finishOpen_needFpu hfpu
    _ = _ := finishOpen_checkAlignQuad exempt e h
    _ = _ := finishOpen_require_trap (by rw [bit_zero_eq, decide_eq_true hodd]; rfl) _

/-- The quad loads and stores. -/
theorem quadAccess_stops (s : State) (rd rs1 : BitVec 5) (op2 : RegImm 13) (addr : AltOperand) :
    (s.par.hasQuad = false →
      ∀ i ∈ [Instr.LDQF rd rs1 op2, .STQF rd rs1 op2] ++ [Instr.LDQFA rd rs1 addr, .STQFA rd rs1 addr],
        exec i s = takeTrap .illegalInstruction s) ∧
    (s.par.hasQuad = true → fpuEnabled s = true → rd.toNat % 2 = 1 →
      ((readR s rs1 + operand2 s op2).toNat % 16 = 0 → ∀ i ∈ [Instr.LDQF rd rs1 op2, .STQF rd rs1 op2],
        exec i s = takeTrap (.fpOther 6) s) ∧
      ((altAddr s rs1 addr).toNat % 16 = 0 → ∀ i ∈ [Instr.LDQFA rd rs1 addr, .STQFA rd rs1 addr],
        exec i s = takeTrap (.fpOther 6) s)) := by
  refine ⟨fun hquad => ?_, fun hquad hfpu hodd => ⟨fun h => ?_, fun h => ?_⟩⟩
  · have trap {u : State} {k : Unit → Eff State} :
        finishOpen u s (needQuad s >>= k) = takeTrap .illegalInstruction s := finishOpen_require_trap hquad _
    simp only [List.cons_append, List.nil_append, List.forall_mem_cons]
    exact ⟨trap, trap, trap, trap, fun _ h => absurd h List.not_mem_nil⟩
  · simp only [List.forall_mem_cons]
    exact ⟨quadChecks_number hquad hfpu h hodd, quadChecks_number hquad hfpu h hodd,
      fun _ h => absurd h List.not_mem_nil⟩
  · simp only [List.forall_mem_cons]
    exact ⟨quadChecks_number hquad hfpu h hodd, quadChecks_number hquad hfpu h hodd,
      fun _ h => absurd h List.not_mem_nil⟩

/-- The quad FPops. -/
theorem quadOps_stop (s : State) (rd rs1 rs2 : BitVec 5) :
    (∀ r ∈ fpBinaryRows, StopsQuad (exec (r.1 rd rs1 rs2) s) s [(r.2.1, rs1), (r.2.1, rs2), (r.2.2.1, rd)]) ∧
    (s.par.hasQuad = true → fpuEnabled s = true → 16 ≤ rd.toNat →
      exec (.FADDq rd rs1 rs2) s = takeTrap (.fpOther 6) s) ∧
    (∀ r ∈ fpFromIntRows, StopsQuad (exec (r.1 rd rs2) s) s [(r.2.2, rd)]) := by
  refine ⟨fun r hr => ?_, fun hquad hfpu hrd => ?_, fun r hr => ?_⟩
  · obtain hchecks | hnumber := fpBinaryRows_checks rd rs1 rs2 s r hr
    · exact hchecks.stops
    · exact fun _ => ⟨fun hno => absurd (hno.symm.trans hnumber.quad) Bool.false_ne_true,
        fun _ _ _ => hnumber.stops⟩
  · have hbit : bit rd 4 = true := by
      revert rd
      decide
    refine (if_pos ?_ : (if (s.par.hasQuad && fpuEnabled s && bit rd 4) = true then _ else _) = _)
    rw [hquad, hfpu, hbit]
    rfl
  · obtain ⟨src, -, hchecks⟩ := fpFromIntRows_checks r hr
    intro ⟨n, hn⟩
    obtain ⟨hno, hodd⟩ := (hchecks.checks rd rs2 s).stops ⟨n, List.mem_cons_of_mem _ hn⟩
    exact ⟨hno, fun hquad hfpu ⟨m, hm, hmodd⟩ => hodd hquad hfpu ⟨m, List.mem_cons_of_mem _ hm, hmodd⟩⟩

/-- Settles O17: the checks of each group, in their order. -/
theorem floatUnitChecks : Obligations.FloatUnitChecks := by
  refine ⟨fun s rd rs1 rs2 rs3 op2 op11 addr htl hdisabled => ?disabled, fun s rd rs1 rs2 => ?quad⟩
  case disabled =>
    intro trapped usable asi
    have hfpu := fpuEnabled_eq_false hdisabled
    have trap {i : Instr} (h : exec i s = takeTrap .fpDisabled s) : trapped i := h.trans (takeTrap_fpDisabled htl)
    have move {single double quad : BitVec 5 → BitVec 5 → Instr} (h : ChecksMoves single double quad) :
        trapped (single rd rs2) ∧ trapped (double rd rs2) ∧ (s.par.hasQuad = true → trapped (quad rd rs2)) :=
      ⟨trap (h.single.disabled hfpu nofun rd rs2), trap (h.double.disabled hfpu nofun rd rs2),
        fun hquad => trap (h.quad.disabled hfpu (fun _ => hquad) rd rs2)⟩
    obtain ⟨hbinary, hunary, hfromInt, hfused, hcompare⟩ := fpOps_disabled hfpu rd rs1 rs2 rs3
    obtain ⟨hlane, hlaneS, hlaneCompare, hvisD, hvisS, hvisInt⟩ := vis_disabled hfpu rd rs1 rs2 rs3
    obtain ⟨hsiam, hplain, hquads, hspecial⟩ := plainForms_disabled hfpu rd rs1 rs2 op2 addr
    obtain ⟨hcrypto, hcrc, hdes⟩ := crypto_disabled hfpu rd rs1 rs2 rs3
    have block {u : State} {k : Unit → Eff State} (hrd : rd.toNat % 8 = 0) :
        finishOpen u s (needBlockReg rd >>= fun _ => needFpu s >>= k) = takeTrap .fpDisabled s :=
      (finishOpen_needBlockReg hrd).trans (finishOpen_needFpu_disabled hfpu)
    exact ⟨fun r hr h => trap (hbinary r hr h), fun r hr h => trap (hunary r hr h),
      fun r hr h => trap (hfromInt r hr h), fun r hr => trap (hfused r hr), fun r hr cc h => trap (hcompare r hr cc h),
      fun r hr => trap ((moveSRows_checks r hr).disabled hfpu nofun rd rs2),
      fun r hr => trap ((moveDRows_checks r hr).disabled hfpu nofun rd rs2),
      fun hquad r hr => trap ((moveQRows_checks r hr).disabled hfpu (fun _ => hquad) rd rs2),
      fun r hr cond => ⟨trap (fccMoveR_disabled hfpu rd cond op11 r hr), move (fccMoveRows_checks cond r hr)⟩,
      fun r hr cond => move (iccMoveRows_checks cond r hr), fun r hr => move (regRows_checks rs1 r hr),
      fun r hr => trap (hlane r hr), fun r hr => trap (hlaneS r hr), fun r hr => trap (hlaneCompare r hr),
      fun r hr => trap (hvisD r hr), fun r hr => trap (hvisS r hr), fun r hr => trap (hvisInt r hr),
      fun r hr a p cc disp disp19 => (fccBranch_disabled hfpu r hr a p cc disp disp19).imp trap trap,
      fun mode cc i hi => trap (hsiam mode cc i hi), fun i hi => trap (hplain i hi),
      fun hquad i hi => trap (hquads hquad i hi), fun a i hi => trap (hspecial a i hi),
      fun hrd a => ⟨trap (block hrd), trap (block hrd)⟩,
      fun h => ⟨trap (exec_LDDFA_disabled hfpu h), fun hp => trap (exec_STDFA_disabled hfpu h hp)⟩,
      fun r hr h => trap (hcrypto r hr h), fun h => trap (hcrc h),
      fun imm5 => ⟨fun h himm => trap (hdes imm5 h himm), fun r hr h => trap (multiRows_disabled hfpu imm5 r hr h)⟩⟩
  case quad =>
    intro stops
    obtain ⟨hbinary, hFADDq, hfromInt⟩ := quadOps_stop s rd rs1 rs2
    exact ⟨hbinary, hFADDq, fun r hr => ((fpUnaryRows_checks r hr).checks rd rs2 s).stops, hfromInt,
      fun r hr => ((moveQRows_checks r hr).checks rd rs2 s).stops,
      fun r hr cond => ((iccMoveRows_checks cond r hr).quad.checks rd rs2 s).stops,
      fun r hr cond => ((fccMoveRows_checks cond r hr).quad.checks rd rs2 s).stops,
      fun r hr => ((regRows_checks rs1 r hr).quad.checks rd rs2 s).stops,
      fun r hr cc => (fpCompareRows_checks cc rs1 rs2 s r hr).stops,
      fun op2 addr => quadAccess_stops s rd rs1 op2 addr⟩

end Sys2Proof.Machine
end

section
/-!
PROOF. What the decoder reads from each format: the fields of a word say which word it is, and the operand that a
reader finds is the one whose field stands in the word.
-/

namespace Sys2Proof

open Sys2Proof.Machine

/-! ## A field and its parts -/

/-- A field is two parts joined exactly when its upper and its lower part are these. -/
theorem field_eq_append {k m n lo : Nat} {w : BitVec k} {x : BitVec m} {y : BitVec n} :
    field w lo (m + n) = x ++ y ↔ field w (lo + n) m = x ∧ field w lo n = y := by
  constructor
  · intro h
    have hx : field (field w lo (m + n)) n m = x := by
      rw [h, field_append_high _ _ (Nat.le_refl n), Nat.sub_self, field_self]
    have hy : field (field w lo (m + n)) 0 n = y := by
      rw [h, field_append_low _ _ (Nat.le_of_eq (Nat.zero_add n)), field_self]
    rw [field_field _ (by omega)] at hx hy
    exact ⟨hx, hy⟩
  · rintro ⟨rfl, rfl⟩
    exact (row_join rfl).symm

/-- A field is zero exactly when both its parts are. -/
theorem field_eq_zero {k m n lo : Nat} {w : BitVec k} :
    field w lo (m + n) = 0#(m + n) ↔ field w (lo + n) m = 0#m ∧ field w lo n = 0#n := by
  rw [← BitVec.zero_append_zero, field_eq_append]

theorem field_one_eq_flag {k i : Nat} {w : BitVec k} {b : Bool} : field w i 1 = flag b ↔ bit w i = b := by
  have h : field w i 1 = flag (bit w i) := by
    apply BitVec.eq_of_getLsbD_eq
    intro j hj
    obtain rfl : j = 0 := by omega
    simp [field, bit, flag]
  rw [h]
  exact ⟨fun hb => by cases hw : bit w i <;> cases b <;> simp_all [flag], congrArg flag⟩

theorem field_one_eq_one {k i : Nat} {w : BitVec k} : field w i 1 = 1#1 ↔ bit w i = true :=
  field_one_eq_flag (b := true)

theorem field_one_eq_zero {k i : Nat} {w : BitVec k} : field w i 1 = 0#1 ↔ bit w i = false :=
  field_one_eq_flag (b := false)

/-! ## The formats -/

/-- A word is in format 3 with the fields that it has. -/
theorem eq_fmt3_iff {w : Word32} {op : BitVec 2} {rd : BitVec 5} {op3 : BitVec 6} {rs1 : BitVec 5} {low : BitVec 14} :
    w = fmt3 op rd op3 rs1 low ↔
      field w 30 2 = op ∧ rdF w = rd ∧ field w 19 6 = op3 ∧ rs1F w = rs1 ∧ field w 0 14 = low := by
  conv_lhs => rw [← field_self w]
  unfold fmt3
  rw [field_eq_append (m := 18) (n := 14), field_eq_append (m := 13) (n := 5), field_eq_append (m := 7) (n := 6),
    field_eq_append (m := 2) (n := 5)]
  simp only [and_assoc]
  rfl

/-- A word is in format 2 with the fields that it has. -/
theorem eq_fmt2_iff {w : Word32} {hi : BitVec 5} {op2 : BitVec 3} {low : BitVec 22} :
    w = fmt2 hi op2 low ↔ field w 30 2 = 0 ∧ rdF w = hi ∧ field w 22 3 = op2 ∧ field w 0 22 = low := by
  conv_lhs => rw [← field_self w]
  unfold fmt2
  rw [field_eq_append (m := 10) (n := 22), field_eq_append (m := 7) (n := 3), field_eq_append (m := 2) (n := 5)]
  simp only [and_assoc]
  rfl

theorem opfF_eq {w : Word32} {opf : BitVec 9} : opfF w = opf.toNat ↔ field w 5 9 = opf :=
  BitVec.toNat_inj

/-- A word is in format 3 with an opf field and the fields that it has. -/
theorem eq_fmtOpf_iff {w : Word32} {rd : BitVec 5} {op3 : BitVec 6} {rs1 : BitVec 5} {opf : BitVec 9}
    {rs2 : BitVec 5} :
    w = fmtOpf rd op3 rs1 opf rs2 ↔
      field w 30 2 = 2 ∧ field w 19 6 = op3 ∧ opfF w = opf.toNat ∧ rdF w = rd ∧ rs1F w = rs1 ∧ rs2F w = rs2 := by
  unfold fmtOpf
  rw [eq_fmt3_iff, field_eq_append (m := 9) (n := 5), opfF_eq]
  unfold rs2F
  tauto

/-- A word is in format 5 with the fields that it has. -/
theorem eq_fmt5_iff {w : Word32} {rd : BitVec 5} {op3 : BitVec 6} {rs1 rs3 : BitVec 5} {op5 : BitVec 4}
    {rs2 : BitVec 5} :
    w = fmt5 rd op3 rs1 rs3 op5 rs2 ↔
      field w 30 2 = 2 ∧ field w 19 6 = op3 ∧ field w 5 4 = op5 ∧ rdF w = rd ∧ rs1F w = rs1 ∧ rs2F w = rs2 ∧
        field w 9 5 = rs3 := by
  unfold fmt5
  rw [eq_fmt3_iff, field_eq_append (m := 9) (n := 5), field_eq_append (m := 5) (n := 4)]
  unfold rs2F
  tauto

/-! ## The low 14 bits -/

theorem low_eq_reg {w : Word32} {rs2 : BitVec 5} :
    field w 0 14 = 0#9 ++ rs2 ↔ bit w 13 = false ∧ field w 5 8 = 0 ∧ rs2F w = rs2 := by
  rw [field_eq_append (m := 9) (n := 5), field_eq_zero (m := 1) (n := 8), field_one_eq_zero, and_assoc]
  rfl

/-- The second operand that is read is the one whose field stands in the word. -/
theorem regImmOf_eq_some {w : Word32} {x : RegImm 13} : regImmOf w = some x ↔ field w 0 14 = regImmField x := by
  unfold regImmOf
  cases x with
  | reg rs2 =>
    rw [regImmField, low_eq_reg]
    split <;> simp_all
  | imm v =>
    rw [regImmField, field_eq_append (m := 1) (n := 13), field_one_eq_one]
    split <;> simp_all

theorem low_eq_asi {w : Word32} {asi : BitVec 8} {rs2 : BitVec 5} :
    field w 0 14 = 0#1 ++ asi ++ rs2 ↔ bit w 13 = false ∧ field w 5 8 = asi ∧ rs2F w = rs2 := by
  rw [field_eq_append (m := 9) (n := 5),
    field_eq_append (m := 1) (n := 8), field_one_eq_zero, and_assoc]
  rfl

/-- The address operand that is read is the one whose field stands in the word. -/
theorem altOf_eq {w : Word32} {x : AltOperand} : altOf w = x ↔ field w 0 14 = altField x := by
  unfold altOf
  cases x with
  | immAsi asi rs2 =>
    rw [altField, low_eq_asi]
    split <;> simp_all
  | asiReg v =>
    rw [altField, field_eq_append (m := 1) (n := 13), field_one_eq_one]
    split <;> simp_all

theorem casAsiOf_eq_some {w : Word32} {asi : AsiSource} {rs2 : Reg} :
    casAsiOf w = some asi ∧ rs2F w = rs2 ↔ field w 0 14 = casField asi rs2 := by
  unfold casAsiOf
  cases asi with
  | imm asi =>
    rw [casField, low_eq_asi]
    split <;> simp_all
  | asiReg =>
    rw [casField, field_eq_append (m := 9) (n := 5),
      field_eq_append (m := 1) (n := 8), field_one_eq_one]
    unfold rs2F
    split <;> simp_all

theorem shift32Of_eq_some {w : Word32} {x : RegImm 5} :
    bit w 12 = false ∧ shift32Of w = some x ↔ field w 0 14 = shift32Field x := by
  have hmid : field w 5 8 = 0 ↔ bit w 12 = false ∧ field w 5 7 = 0 := by
    rw [show field w 5 8 = 0 ↔ _ from field_eq_zero (m := 1) (n := 7), field_one_eq_zero]
    rfl
  unfold shift32Of
  cases x with
  | reg rs2 =>
    rw [shift32Field, low_eq_reg, hmid]
    cases bit w 13 <;> simp [and_assoc]
  | imm v =>
    rw [shift32Field, field_eq_append (m := 9) (n := 5), field_eq_append (m := 1) (n := 8), field_one_eq_one,
      show field w (0 + 5) 8 = 0#8 ↔ _ from hmid]
    unfold rs2F
    cases bit w 13 <;> simp [and_assoc]

theorem shift64Of_eq_some {w : Word32} {x : RegImm 6} :
    bit w 12 = true ∧ shift64Of w = some x ↔ field w 0 14 = shift64Field x := by
  unfold shift64Of
  cases x with
  | reg rs2 =>
    rw [shift64Field, field_eq_append (m := 9) (n := 5), field_eq_append (m := 2) (n := 7),
      field_eq_append (m := 1) (n := 1), field_one_eq_zero, field_one_eq_one]
    unfold rs2F
    cases bit w 13 <;> simp [and_comm, and_left_comm]
  | imm v =>
    rw [shift64Field, field_eq_append (m := 8) (n := 6), field_eq_append (m := 2) (n := 6),
      field_eq_append (m := 1) (n := 1), field_one_eq_one, field_one_eq_one]
    cases bit w 13 <;> simp [and_comm, and_left_comm]

/-- Bits 13:0 of MOVr. -/
def movrField (rcond : BitVec 3) : RegImm 10 → BitVec 14
  | .reg rs2 => 0#1 ++ rcond ++ 0#5 ++ rs2
  | .imm v => 1#1 ++ rcond ++ v

theorem encMovr_eq (rd rs1 : Reg) (rcond : BitVec 3) (x : RegImm 10) :
    encMovr rd rs1 rcond x = fmt3 2 rd 0x2F rs1 (movrField rcond x) := by
  cases x <;> rfl

theorem regImm10Of_eq_some {w : Word32} {rcond : BitVec 3} {x : RegImm 10} :
    regImm10Of w = some x ∧ field w 10 3 = rcond ↔ field w 0 14 = movrField rcond x := by
  unfold regImm10Of
  cases x with
  | reg rs2 =>
    rw [movrField, field_eq_append (m := 9) (n := 5), field_eq_append (m := 4) (n := 5),
      field_eq_append (m := 1) (n := 3), field_one_eq_zero]
    unfold rs2F
    cases bit w 13 <;> simp [and_comm, and_assoc]
  | imm v =>
    rw [movrField, field_eq_append (m := 4) (n := 10), field_eq_append (m := 1) (n := 3), field_one_eq_one]
    cases bit w 13 <;> simp [and_comm]

/-- Bits 13:0 of MOVcc. -/
def movccField (cc : BitVec 2) : RegImm 11 → BitVec 14
  | .reg rs2 => 0#1 ++ cc ++ 0#6 ++ rs2
  | .imm v => 1#1 ++ cc ++ v

theorem encMovcc_eq (rd : Reg) (cc2 : BitVec 1) (cond : BitVec 4) (cc : BitVec 2) (x : RegImm 11) :
    encMovcc rd cc2 cond cc x = fmt3 2 rd 0x2C (cc2 ++ cond) (movccField cc x) := by
  cases x <;> rfl

theorem regImm11Of_eq_some {w : Word32} {cc : BitVec 2} {x : RegImm 11} :
    regImm11Of w = some x ∧ field w 11 2 = cc ↔ field w 0 14 = movccField cc x := by
  unfold regImm11Of
  cases x with
  | reg rs2 =>
    rw [movccField, field_eq_append (m := 9) (n := 5), field_eq_append (m := 3) (n := 6),
      field_eq_append (m := 1) (n := 2), field_one_eq_zero]
    unfold rs2F
    cases bit w 13 <;> simp [and_comm, and_assoc]
  | imm v =>
    rw [movccField, field_eq_append (m := 3) (n := 11), field_eq_append (m := 1) (n := 2), field_one_eq_one]
    cases bit w 13 <;> simp [and_comm]

/-- Bits 13:0 of Tcc. -/
def tccField (cc : BitVec 2) : RegImm 8 → BitVec 14
  | .reg rs2 => 0#1 ++ cc ++ 0#6 ++ rs2
  | .imm v => 1#1 ++ cc ++ 0#3 ++ v

theorem encTcc_eq (cond : BitVec 4) (cc : BitVec 2) (rs1 : Reg) (x : RegImm 8) :
    encTcc cond cc rs1 x = fmt3 2 (0#1 ++ cond) 0x3A rs1 (tccField cc x) := by
  cases x <;> rfl

theorem trapOperandOf_eq_some {w : Word32} {cc : BitVec 2} {x : RegImm 8} :
    trapOperandOf w = some x ∧ field w 11 2 = cc ↔ field w 0 14 = tccField cc x := by
  unfold trapOperandOf
  cases x with
  | reg rs2 =>
    rw [tccField, field_eq_append (m := 9) (n := 5), field_eq_append (m := 3) (n := 6),
      field_eq_append (m := 1) (n := 2), field_one_eq_zero]
    unfold rs2F
    cases bit w 13 <;> simp [and_comm, and_assoc]
  | imm v =>
    rw [tccField, field_eq_append (m := 6) (n := 8), field_eq_append (m := 3) (n := 3),
      field_eq_append (m := 1) (n := 2), field_one_eq_one]
    cases bit w 13 <;> simp [and_comm, and_assoc]

end Sys2Proof
end
section
/-!
PROOF. The operand layouts of opf-coded instructions: which fields a word has that a layout reads as given operands.
-/

namespace Sys2Proof

open Sys2Proof.Machine

/-! ## The two kinds of register field -/

/-- `read` takes a register from its field, and `write` is that field. -/
def Names (read write : BitVec 5 → BitVec 5) : Prop := ∀ x r, read x = r ↔ x = write r

theorem names_raw : Names raw raw := fun _ _ => Iff.rfl

theorem names_dreg : Names dregOf dregField := fun x r =>
  ⟨fun h => h ▸ (dregField_dregOf x).symm, fun h => h ▸ dregOf_dregField r⟩

theorem Names.apply {read write : BitVec 5 → BitVec 5} (h : Names read write) (x : BitVec 5) :
    x = write (read x) := (h x (read x)).1 rfl

theorem Names.read_write {read write : BitVec 5 → BitVec 5} (h : Names read write) (r : BitVec 5) :
    read (write r) = r := (h (write r) r).2 rfl

/-! ## The layouts -/

section
variable {c c' d d' e e' : BitVec 5 → BitVec 5} {w : Word32} {i : Instr}

theorem three_eq_some (hc : Names c c') (hd : Names d d') (he : Names e e')
    {k : BitVec 5 → BitVec 5 → BitVec 5 → Instr} :
    three c d e k w = some i ↔
      ∃ rd rs1 rs2, k rd rs1 rs2 = i ∧ rdF w = c' rd ∧ rs1F w = d' rs1 ∧ rs2F w = e' rs2 := by
  unfold three
  rw [Option.some.injEq]
  constructor
  · exact fun h => ⟨_, _, _, h, hc.apply _, hd.apply _, he.apply _⟩
  · rintro ⟨rd, rs1, rs2, rfl, hrd, hrs1, hrs2⟩
    rw [hrd, hrs1, hrs2, hc.read_write, hd.read_write, he.read_write]

theorem rdRs2_eq_some (hc : Names c c') (he : Names e e') {k : BitVec 5 → BitVec 5 → Instr} :
    rdRs2 c e k w = some i ↔ ∃ rd rs2, k rd rs2 = i ∧ rdF w = c' rd ∧ rs1F w = 0 ∧ rs2F w = e' rs2 := by
  unfold rdRs2
  rw [Option.ite_none_right_eq_some, Option.some.injEq]
  constructor
  · exact fun ⟨hrs1, h⟩ => ⟨_, _, h, hc.apply _, hrs1, he.apply _⟩
  · rintro ⟨rd, rs2, rfl, hrd, hrs1, hrs2⟩
    rw [hrd, hrs1, hrs2, hc.read_write, he.read_write]
    exact ⟨rfl, rfl⟩

theorem rdRs1_eq_some (hc : Names c c') (hd : Names d d') {k : BitVec 5 → BitVec 5 → Instr} :
    rdRs1 c d k w = some i ↔ ∃ rd rs1, k rd rs1 = i ∧ rdF w = c' rd ∧ rs1F w = d' rs1 ∧ rs2F w = 0 := by
  unfold rdRs1
  rw [Option.ite_none_right_eq_some, Option.some.injEq]
  constructor
  · exact fun ⟨hrs2, h⟩ => ⟨_, _, h, hc.apply _, hd.apply _, hrs2⟩
  · rintro ⟨rd, rs1, rfl, hrd, hrs1, hrs2⟩
    rw [hrd, hrs1, hrs2, hc.read_write, hd.read_write]
    exact ⟨rfl, rfl⟩

theorem rdOnly_eq_some (hc : Names c c') {k : BitVec 5 → Instr} :
    rdOnly c k w = some i ↔ ∃ rd, k rd = i ∧ rdF w = c' rd ∧ rs1F w = 0 ∧ rs2F w = 0 := by
  unfold rdOnly
  rw [Option.ite_none_right_eq_some, Option.some.injEq]
  constructor
  · exact fun ⟨⟨hrs1, hrs2⟩, h⟩ => ⟨_, h, hc.apply _, hrs1, hrs2⟩
  · rintro ⟨rd, rfl, hrd, hrs1, hrs2⟩
    rw [hrd, hc.read_write]
    exact ⟨⟨hrs1, hrs2⟩, rfl⟩

theorem rs2Only_eq_some {k : BitVec 5 → Instr} :
    rs2Only k w = some i ↔ ∃ rs2, k rs2 = i ∧ rdF w = 0 ∧ rs1F w = 0 ∧ rs2F w = rs2 := by
  unfold rs2Only
  rw [Option.ite_none_right_eq_some, Option.some.injEq]
  exact ⟨fun ⟨⟨hrd, hrs1⟩, h⟩ => ⟨_, h, hrd, hrs1, rfl⟩, fun ⟨_, h, hrd, hrs1, hrs2⟩ => ⟨⟨hrd, hrs1⟩, hrs2 ▸ h⟩⟩

theorem noOperands_eq_some {k : Instr} :
    noOperands k w = some i ↔ k = i ∧ rdF w = 0 ∧ rs1F w = 0 ∧ rs2F w = 0 := by
  unfold noOperands
  rw [Option.ite_none_right_eq_some, Option.some.injEq, and_comm]

theorem fcmp_eq_some (hc : Names c c') {k : BitVec 2 → BitVec 5 → BitVec 5 → Instr} :
    fcmp c k w = some i ↔
      ∃ cc rs1 rs2, k cc rs1 rs2 = i ∧ rdF w = 0#3 ++ cc ∧ rs1F w = c' rs1 ∧ rs2F w = c' rs2 := by
  unfold fcmp
  rw [Option.ite_none_right_eq_some, Option.some.injEq]
  have hrd : ∀ cc, rdF w = 0#3 ++ cc ↔ field w 27 3 = 0 ∧ field w 25 2 = cc :=
    fun cc => field_eq_append (m := 3) (n := 2)
  simp only [hrd]
  constructor
  · exact fun ⟨hzero, h⟩ => ⟨_, _, _, h, ⟨hzero, rfl⟩, hc.apply _, hc.apply _⟩
  · rintro ⟨cc, rs1, rs2, rfl, ⟨hzero, hcc⟩, hrs1, hrs2⟩
    rw [hcc, hrs1, hrs2, hc.read_write, hc.read_write]
    exact ⟨hzero, rfl⟩

theorem siam_eq_some :
    siam w = some i ↔ ∃ mode, Instr.SIAM mode = i ∧ rdF w = 0 ∧ rs1F w = 0 ∧ rs2F w = 0#2 ++ mode := by
  unfold siam
  rw [Option.ite_none_right_eq_some, Option.some.injEq]
  have hrs2 : ∀ mode, rs2F w = 0#2 ++ mode ↔ field w 3 2 = 0 ∧ field w 0 3 = mode :=
    fun mode => field_eq_append (m := 2) (n := 3)
  simp only [hrs2]
  exact ⟨fun ⟨⟨hrd, hrs1, hzero⟩, h⟩ => ⟨_, h, hrd, hrs1, hzero, rfl⟩,
    fun ⟨_, h, hrd, hrs1, hzero, hmode⟩ => ⟨⟨hrd, hrs1, hzero⟩, hmode ▸ h⟩⟩

theorem four_eq_some (hc : Names c c') (hd : Names d d')
    {k : BitVec 5 → BitVec 5 → BitVec 5 → BitVec 5 → Instr} :
    four c d k w = some i ↔
      ∃ rd rs1 rs2 rs3, k rd rs1 rs2 rs3 = i ∧
        rdF w = c' rd ∧ rs1F w = c' rs1 ∧ rs2F w = c' rs2 ∧ field w 9 5 = d' rs3 := by
  unfold four
  rw [Option.some.injEq]
  constructor
  · exact fun h => ⟨_, _, _, _, h, hc.apply _, hc.apply _, hc.apply _, hd.apply _⟩
  · rintro ⟨rd, rs1, rs2, rs3, rfl, hrd, hrs1, hrs2, hrs3⟩
    rw [hrd, hrs1, hrs2, hrs3, hc.read_write, hc.read_write, hc.read_write, hd.read_write]

end

end Sys2Proof
end
section
/-!
PROOF. Decoding the encoding of an instruction with an opf field, or in format 5, gives it back: a lemma for each
layout of operands.
-/

namespace Sys2Proof

open Sys2Proof.Machine

/-! ## The op field -/

theorem decode_of_op0 {w : Word32} (h : field w 30 2 = 0) : decode w = decodeBranch w := by
  unfold decode; rw [h]; rfl

theorem decode_of_op2 {w : Word32} (h : field w 30 2 = 2) : decode w = decodeArith w := by
  unfold decode; rw [h]; rfl

theorem decode_of_op3 {w : Word32} (h : field w 30 2 = 3) : decode w = decodeMem w := by
  unfold decode; rw [h]; rfl

theorem decode_fpop2 {w : Word32} (hop : field w 30 2 = 2) (hop3 : field w 19 6 = 0x35) : decode w = decodeFpop2 w := by
  rw [decode_of_op2 hop]; unfold decodeArith; rw [hop3]; rfl

theorem decode_vis {w : Word32} (hop : field w 30 2 = 2) (hop3 : field w 19 6 = 0x36) : decode w = decodeVis w := by
  rw [decode_of_op2 hop]; unfold decodeArith; rw [hop3]; rfl

/-! ## The rows of the opf maps -/

/-- The rows of op3 = 0x36 (R125). -/
noncomputable def visTable : List (Nat × (Word32 → Option Instr)) := visTable1 ++ visTable2 ++ visTable3

/-- The map of the opcodes by opf of op3 = 0x34, 0x35 and 0x36 (R123 to R125). -/
noncomputable def opfTable (op3 : BitVec 6) : List (Nat × (Word32 → Option Instr)) :=
  match op3.toNat with
  | 0x34 => fpop1Table
  | 0x35 => fcmpTable
  | 0x36 => visTable
  | _ => []

/-- A word whose opf has a row is read by that row. -/
theorem decode_of_opf {op3 : BitVec 6} {opf : Nat} {read : Word32 → Option Instr} {w : Word32}
    (hop : field w 30 2 = 2) (hop3 : field w 19 6 = op3) (hopf : opfF w = opf)
    (h : (opfTable op3).lookup opf = some read) : decode w = read w := by
  unfold opfTable at h
  split at h
  next h34 =>
    rw [decode_of_op2 hop]
    unfold decodeArith
    rw [hop3, h34]
    change ((fpop1Table.lookup (opfF w)).bind fun k => k w) = _
    rw [hopf, h]
    rfl
  next h35 => rw [decode_fpop2 hop (hop3.trans (BitVec.eq_of_toNat_eq h35)), decodeFpop2, hopf, h]
  next h36 => rw [decode_vis hop (hop3.trans (BitVec.eq_of_toNat_eq h36)), decodeVis, hopf, ← visTable, h]
  next => cases h

section
variable {c c' d d' e e' : BitVec 5 → BitVec 5} {op3 : BitVec 6} {opf : BitVec 9} {w : Word32} {rd rs1 rs2 : BitVec 5}

theorem decode_three (hc : Names c c') (hd : Names d d') (he : Names e e')
    {k : BitVec 5 → BitVec 5 → BitVec 5 → Instr} (hw : w = fmtOpf (c' rd) op3 (d' rs1) opf (e' rs2))
    (h : (opfTable op3).lookup opf.toNat = some (three c d e k)) : decode w = some (k rd rs1 rs2) := by
  obtain ⟨hop, hop3, hopf, hrd, hrs1, hrs2⟩ := eq_fmtOpf_iff.1 hw
  rw [decode_of_opf hop hop3 hopf h]
  exact (three_eq_some hc hd he).2 ⟨rd, rs1, rs2, rfl, hrd, hrs1, hrs2⟩

theorem decode_rdRs2 (hc : Names c c') (he : Names e e') {k : BitVec 5 → BitVec 5 → Instr}
    (hw : w = fmtOpf (c' rd) op3 0 opf (e' rs2)) (h : (opfTable op3).lookup opf.toNat = some (rdRs2 c e k)) :
    decode w = some (k rd rs2) := by
  obtain ⟨hop, hop3, hopf, hrd, hrs1, hrs2⟩ := eq_fmtOpf_iff.1 hw
  rw [decode_of_opf hop hop3 hopf h]
  exact (rdRs2_eq_some hc he).2 ⟨rd, rs2, rfl, hrd, hrs1, hrs2⟩

theorem decode_rdRs1 (hc : Names c c') (hd : Names d d') {k : BitVec 5 → BitVec 5 → Instr}
    (hw : w = fmtOpf (c' rd) op3 (d' rs1) opf 0) (h : (opfTable op3).lookup opf.toNat = some (rdRs1 c d k)) :
    decode w = some (k rd rs1) := by
  obtain ⟨hop, hop3, hopf, hrd, hrs1, hrs2⟩ := eq_fmtOpf_iff.1 hw
  rw [decode_of_opf hop hop3 hopf h]
  exact (rdRs1_eq_some hc hd).2 ⟨rd, rs1, rfl, hrd, hrs1, hrs2⟩

theorem decode_rdOnly (hc : Names c c') {k : BitVec 5 → Instr} (hw : w = fmtOpf (c' rd) op3 0 opf 0)
    (h : (opfTable op3).lookup opf.toNat = some (rdOnly c k)) : decode w = some (k rd) := by
  obtain ⟨hop, hop3, hopf, hrd, hrs1, hrs2⟩ := eq_fmtOpf_iff.1 hw
  rw [decode_of_opf hop hop3 hopf h]
  exact (rdOnly_eq_some hc).2 ⟨rd, rfl, hrd, hrs1, hrs2⟩

theorem decode_rs2Only {k : BitVec 5 → Instr} (hw : w = fmtOpf 0 op3 0 opf rs2)
    (h : (opfTable op3).lookup opf.toNat = some (rs2Only k)) : decode w = some (k rs2) := by
  obtain ⟨hop, hop3, hopf, hrd, hrs1, hrs2⟩ := eq_fmtOpf_iff.1 hw
  rw [decode_of_opf hop hop3 hopf h]
  exact rs2Only_eq_some.2 ⟨rs2, rfl, hrd, hrs1, hrs2⟩

theorem decode_noOperands {k : Instr} (hw : w = fmtOpf 0 op3 0 opf 0)
    (h : (opfTable op3).lookup opf.toNat = some (noOperands k)) : decode w = some k := by
  obtain ⟨hop, hop3, hopf, hrd, hrs1, hrs2⟩ := eq_fmtOpf_iff.1 hw
  rw [decode_of_opf hop hop3 hopf h]
  exact noOperands_eq_some.2 ⟨rfl, hrd, hrs1, hrs2⟩

theorem decode_fcmp (hc : Names c c') {k : BitVec 2 → BitVec 5 → BitVec 5 → Instr} {cc : BitVec 2}
    (hw : w = fmtOpf (0#3 ++ cc) op3 (c' rs1) opf (c' rs2))
    (h : (opfTable op3).lookup opf.toNat = some (fcmp c k)) : decode w = some (k cc rs1 rs2) := by
  obtain ⟨hop, hop3, hopf, hrd, hrs1, hrs2⟩ := eq_fmtOpf_iff.1 hw
  rw [decode_of_opf hop hop3 hopf h]
  exact (fcmp_eq_some hc).2 ⟨cc, rs1, rs2, rfl, hrd, hrs1, hrs2⟩

/-- The word of SIAM in format 3 with an opf field. -/
theorem eq_siam_iff {mode : BitVec 3} :
    w = fmt3 2 0 0x36 0 (0x81#9 ++ 0#2 ++ mode) ↔ w = fmtOpf 0 0x36 0 0x81 (0#2 ++ mode) := by
  rw [eq_fmt3_iff, field_eq_append (m := 11) (n := 3), field_eq_append (m := 9) (n := 2), fmtOpf, eq_fmt3_iff,
    field_eq_append (m := 9) (n := 5), field_eq_append (m := 2) (n := 3)]
  tauto

theorem decode_siam {mode : BitVec 3} (hw : w = fmt3 2 0 0x36 0 (0x81#9 ++ 0#2 ++ mode)) :
    decode w = some (.SIAM mode) := by
  obtain ⟨hop, hop3, hopf, hrd, hrs1, hrs2⟩ := eq_fmtOpf_iff.1 (eq_siam_iff.1 hw)
  rw [decode_of_opf (read := siam) hop hop3 hopf rfl]
  exact siam_eq_some.2 ⟨mode, rfl, hrd, hrs1, hrs2⟩

/-! ## The multiple-precision instructions -/

theorem decode_mp {k : BitVec 5 → Instr} (hw : w = fmtOpf 0 0x36 0 opf rs2) (hvis : visTable.lookup opf.toNat = none)
    (h : mpTable.lookup opf.toNat = some k) : decode w = some (k rs2) := by
  obtain ⟨hop, hop3, hopf, hrd, hrs1, hrs2⟩ := eq_fmtOpf_iff.1 hw
  rw [decode_vis hop hop3, decodeVis, hopf, ← visTable, hvis, hrd, hrs1, hrs2, h]
  rfl

theorem decode_xmp {k : BitVec 5 → Instr} (hw : w = fmtOpf 1 0x36 0 opf rs2) (hvis : visTable.lookup opf.toNat = none)
    (h : xmpTable.lookup opf.toNat = some k) : decode w = some (k rs2) := by
  obtain ⟨hop, hop3, hopf, hrd, hrs1, hrs2⟩ := eq_fmtOpf_iff.1 hw
  rw [decode_vis hop hop3, decodeVis, hopf, ← visTable, hvis, hrd, hrs1, hrs2, h]
  rfl

/-! ## The conditional moves of F registers -/

/-- The register fields of a conditional move of F registers: bits 1:0 of its opf are 01 when the registers are
single. -/
def movReads (opf : BitVec 9) : BitVec 5 → BitVec 5 := if field opf 0 2 = 1 then raw else dregOf

theorem field_opf_low (h : opfF w = opf.toNat) : field w 5 2 = field opf 0 2 := by
  rw [← opfF_eq.1 h, field_field _ (by decide)]

/-- The condition field of FMOVcc, below a zero. -/
theorem rs1F_eq_cond {cond : BitVec 4} : rs1F w = 0#1 ++ cond ↔ bit w 18 = false ∧ field w 14 4 = cond := by
  rw [rs1F, field_eq_append (m := 1) (n := 4), field_one_eq_zero]

theorem decode_fmovr (hc : Names c c') {k : FReg → Reg → FReg → Instr}
    (hw : w = fmtOpf (c' rd) 0x35 rs1 opf (c' rs2)) (hcmp : fcmpTable.lookup opf.toNat = none)
    (h : fmovrTable.lookup opf.toNat = some k) (hread : movReads opf = c) : decode w = some (k rd rs1 rs2) := by
  obtain ⟨hop, hop3, hopf, hrd, hrs1, hrs2⟩ := eq_fmtOpf_iff.1 hw
  rw [decode_fpop2 hop hop3, decodeFpop2, field_opf_low hopf, hopf, hcmp, h, hrd, hrs1, hrs2]
  change some (k (movReads opf (c' rd)) rs1 (movReads opf (c' rs2))) = _
  rw [hread, hc.read_write, hc.read_write]

theorem decode_fmovFcc (hc : Names c c') {k : FReg → FCond → FReg → Instr} {cond : FCond}
    (hw : w = fmtOpf (c' rd) 0x35 (0#1 ++ fcondField cond) opf (c' rs2)) (hcmp : fcmpTable.lookup opf.toNat = none)
    (hr : fmovrTable.lookup opf.toNat = none) (h : fmovFccTable.lookup opf.toNat = some k)
    (hread : movReads opf = c) : decode w = some (k rd cond rs2) := by
  obtain ⟨hop, hop3, hopf, hrd, hrs1, hrs2⟩ := eq_fmtOpf_iff.1 hw
  obtain ⟨hbit, hcond⟩ := rs1F_eq_cond.1 hrs1
  rw [decode_fpop2 hop hop3, decodeFpop2, field_opf_low hopf, hopf, hcmp, hr, h, hrd, hbit, hcond, hrs2,
    fcondOf_fcondField]
  change some (k (movReads opf (c' rd)) cond (movReads opf (c' rs2))) = _
  rw [hread, hc.read_write, hc.read_write]

theorem decode_fmovIcc (hc : Names c c') {k : FReg → ICond → FReg → Instr} {cond : ICond}
    (hw : w = fmtOpf (c' rd) 0x35 (0#1 ++ icondField cond) opf (c' rs2)) (hcmp : fcmpTable.lookup opf.toNat = none)
    (hr : fmovrTable.lookup opf.toNat = none) (hf : fmovFccTable.lookup opf.toNat = none)
    (h : fmovIccTable.lookup opf.toNat = some k) (hread : movReads opf = c) : decode w = some (k rd cond rs2) := by
  obtain ⟨hop, hop3, hopf, hrd, hrs1, hrs2⟩ := eq_fmtOpf_iff.1 hw
  obtain ⟨hbit, hcond⟩ := rs1F_eq_cond.1 hrs1
  rw [decode_fpop2 hop hop3, decodeFpop2, field_opf_low hopf, hopf, hcmp, hr, hf, h, hrd, hbit, hcond, hrs2,
    icondOf_icondField]
  change some (k (movReads opf (c' rd)) cond (movReads opf (c' rs2))) = _
  rw [hread, hc.read_write, hc.read_write]

end

/-! ## Format 5 -/

/-- The map of the opcodes by op5 of op3 = 0x19 and 0x37 (R126, R127). -/
noncomputable def op5Table (op3 : BitVec 6) : List (Nat × (Word32 → Option Instr)) :=
  match op3.toNat with
  | 0x19 => cryptoTable
  | 0x37 => fmaTable
  | _ => []

/-- A word whose op5 has a row is read by that row. -/
theorem decode_of_op5 {op3 : BitVec 6} {op5 : BitVec 4} {read : Word32 → Option Instr} {w : Word32}
    (hop : field w 30 2 = 2) (hop3 : field w 19 6 = op3) (hop5 : field w 5 4 = op5)
    (h : (op5Table op3).lookup op5.toNat = some read) : decode w = read w := by
  rw [decode_of_op2 hop]
  unfold op5Table at h
  unfold decodeArith
  rw [hop3]
  split at h
  next h19 =>
    rw [h19]
    change ((cryptoTable.lookup (field w 5 4).toNat).bind fun k => k w) = _
    rw [hop5, h]
    rfl
  next h37 =>
    rw [h37]
    change ((fmaTable.lookup (field w 5 4).toNat).bind fun k => k w) = _
    rw [hop5, h]
    rfl
  next => cases h

theorem decode_four {c c' d d' : BitVec 5 → BitVec 5} {op3 : BitVec 6} {op5 : BitVec 4} {w : Word32}
    {rd rs1 rs2 rs3 : BitVec 5} (hc : Names c c') (hd : Names d d')
    {k : BitVec 5 → BitVec 5 → BitVec 5 → BitVec 5 → Instr}
    (hw : w = fmt5 (c' rd) op3 (c' rs1) (d' rs3) op5 (c' rs2))
    (h : (op5Table op3).lookup op5.toNat = some (four c d k)) : decode w = some (k rd rs1 rs2 rs3) := by
  obtain ⟨hop, hop3, hop5, hrd, hrs1, hrs2, hrs3⟩ := eq_fmt5_iff.1 hw
  rw [decode_of_op5 hop hop3 hop5 h]
  exact (four_eq_some hc hd).2 ⟨rd, rs1, rs2, rs3, rfl, hrd, hrs1, hrs2, hrs3⟩

end Sys2Proof
end
section
/-!
PROOF. Decoding the encoding of an instruction in format 1 or 2, or of an arithmetic, state or control instruction in
format 3 without opf, gives it back: a lemma for each form.
-/

namespace Sys2Proof

open Sys2Proof.Machine

theorem mem_of_lookup {κ α : Type} [BEq κ] [LawfulBEq κ] {n : κ} {x : α} {table : List (κ × α)}
    (h : table.lookup n = some x) : (n, x) ∈ table := by
  obtain ⟨l₁, l₂, rfl, -⟩ := List.lookup_eq_some_iff.1 h
  exact List.mem_append_right l₁ List.mem_cons_self

/-! ## Formats 1 and 2 -/

theorem decode_call (disp30 : BitVec 30) : decode (1#2 ++ disp30 : BitVec 32) = some (.CALL disp30) := by
  unfold decode
  rw [field_append_high (m := 2) (n := 30) _ _ (by decide), field_self,
    field_append_low (m := 2) (n := 30) _ _ (by decide), field_self]
  rfl

theorem decode_illtrap {w : Word32} {const22 : BitVec 22} (hw : w = fmt2 0 0 const22) :
    decode w = some (.ILLTRAP const22) := by
  obtain ⟨hop, hrd, hop2, hlow⟩ := eq_fmt2_iff.1 hw
  rw [decode_of_op0 hop, decodeBranch, hop2, hrd, hlow]
  rfl

theorem decode_sethi {w : Word32} {rd : Reg} {imm22 : BitVec 22} (h : wellFormed (.SETHI rd imm22) = true)
    (hw : w = fmt2 rd 4 imm22) : decode w = some (.SETHI rd imm22) := by
  obtain ⟨hop, hrd, hop2, hlow⟩ := eq_fmt2_iff.1 hw
  have hnop : w ≠ 0x01000000 := by
    rintro rfl
    subst hrd hlow
    exact absurd h (by decide)
  rw [decode_of_op0 hop, decodeBranch, hop2, hrd, hlow]
  exact if_neg hnop

section
variable {w : Word32} {a : Bool} {n : BitVec 4} {op2 : BitVec 3} {p : Bool}

/-- A word is that of Bicc or FBfcc with the fields that it has. -/
theorem eq_encBranch22_iff {disp : BitVec 22} :
    w = encBranch22 a n op2 disp ↔
      field w 30 2 = 0 ∧ field w 22 3 = op2 ∧ bit w 29 = a ∧ field w 25 4 = n ∧ field w 0 22 = disp := by
  rw [encBranch22, eq_fmt2_iff, rdF, field_eq_append (m := 1) (n := 4), field_one_eq_flag]
  tauto

/-- A word is that of BPcc or FBPfcc with the fields that it has. -/
theorem eq_encBranch19_iff {cc : BitVec 2} {disp : BitVec 19} :
    w = encBranch19 a n op2 cc p disp ↔
      field w 30 2 = 0 ∧ field w 22 3 = op2 ∧ bit w 29 = a ∧ field w 25 4 = n ∧ field w 20 2 = cc ∧ bit w 19 = p ∧
        field w 0 19 = disp := by
  rw [encBranch19, ← encBranch22, eq_encBranch22_iff, field_eq_append (m := 3) (n := 19),
    field_eq_append (m := 2) (n := 1), field_one_eq_flag]
  simp only [and_assoc]

theorem decode_bpcc {cc : IccSel} {disp : BitVec 19} {k : Bool → IccSel → Bool → BitVec 19 → Instr}
    (hw : w = encBranch19 a n 1 (iccField cc) p disp) (h : bpccTable[n.toNat]? = some k) :
    decode w = some (k a cc p disp) := by
  obtain ⟨hop, hop2, ha, hn, hcc, hp, hdisp⟩ := eq_encBranch19_iff.1 hw
  rw [decode_of_op0 hop, decodeBranch, hop2, hcc, iccSelOf_iccField, hn, h, ha, hp, hdisp]
  rfl

theorem decode_fbpfcc {cc : BitVec 2} {disp : BitVec 19} {k : Bool → BitVec 2 → Bool → BitVec 19 → Instr}
    (hw : w = encBranch19 a n 5 cc p disp) (h : fbpfccTable[n.toNat]? = some k) : decode w = some (k a cc p disp) := by
  obtain ⟨hop, hop2, ha, hn, hcc, hp, hdisp⟩ := eq_encBranch19_iff.1 hw
  rw [decode_of_op0 hop, decodeBranch, hop2, hcc, hn, h, ha, hp, hdisp]
  rfl

theorem decode_bicc {disp : BitVec 22} {k : Bool → BitVec 22 → Instr} (hw : w = encBranch22 a n 2 disp)
    (h : biccTable[n.toNat]? = some k) : decode w = some (k a disp) := by
  obtain ⟨hop, hop2, ha, hn, hdisp⟩ := eq_encBranch22_iff.1 hw
  rw [decode_of_op0 hop, decodeBranch, hop2, hn, h, ha, hdisp]
  rfl

theorem decode_fbfcc {disp : BitVec 22} {k : Bool → BitVec 22 → Instr} (hw : w = encBranch22 a n 6 disp)
    (h : fbfccTable[n.toNat]? = some k) : decode w = some (k a disp) := by
  obtain ⟨hop, hop2, ha, hn, hdisp⟩ := eq_encBranch22_iff.1 hw
  rw [decode_of_op0 hop, decodeBranch, hop2, hn, h, ha, hdisp]
  rfl

end

theorem append_eq_iff {m n : Nat} {x : BitVec m} {y : BitVec n} {v : BitVec (m + n)} :
    x ++ y = v ↔ x = field v n m ∧ y = field v 0 n := by
  rw [eq_comm, ← field_self v, field_eq_append, Nat.zero_add, field_self, eq_comm, @eq_comm _ y]

section
variable {w : Word32} {rs1 : Reg}

/-- A word is that of a BPr with the fields that it has. -/
theorem eq_encBranchReg_iff {a p : Bool} {rcond : BitVec 3} {d16 : BitVec 16} :
    w = encBranchReg a rcond p rs1 d16 ↔
      field w 30 2 = 0 ∧ field w 22 3 = 3 ∧ bit w 28 = false ∧ field w 25 3 = rcond ∧ bit w 29 = a ∧ bit w 19 = p ∧
        rs1F w = rs1 ∧ field w 20 2 ++ field w 0 14 = d16 := by
  have hd16 : field w 20 2 ++ field w 0 14 = d16 ↔ field w 20 2 = field d16 14 2 ∧ field w 0 14 = field d16 0 14 :=
    append_eq_iff (m := 2) (n := 14)
  unfold encBranchReg
  rw [eq_fmt2_iff, rdF, field_eq_append (m := 2) (n := 3), field_eq_append (m := 1) (n := 1), field_one_eq_flag,
    field_one_eq_zero, field_eq_append (m := 8) (n := 14), field_eq_append (m := 3) (n := 5),
    field_eq_append (m := 2) (n := 1), field_one_eq_flag, hd16]
  unfold rs1F
  tauto

theorem decode_bpr {a p : Bool} {rcond : BitVec 3} {d16 : BitVec 16} {k : Bool → Bool → Reg → BitVec 16 → Instr}
    (hw : w = encBranchReg a rcond p rs1 d16) (h : bprTable.lookup rcond.toNat = some k) :
    decode w = some (k a p rs1 d16) := by
  obtain ⟨hop, hop2, hbit, hrcond, ha, hp, hrs1, hd16⟩ := eq_encBranchReg_iff.1 hw
  rw [decode_of_op0 hop, decodeBranch, hop2, hbit, hrcond, h, ha, hp, hrs1, hd16]
  rfl

theorem regImm5Of_eq {x : RegImm 5} :
    regImm5Of w = x ↔ match x with
      | .reg rs2 => bit w 13 = false ∧ rs2F w = rs2
      | .imm v => bit w 13 = true ∧ rs2F w = v := by
  unfold regImm5Of
  cases x <;> cases bit w 13 <;> simp

/-- A word is that of a CBcond with the fields that it has. -/
theorem eq_encCompareBranch_iff {cc2 : BitVec 1} {cond : BitVec 4} {x : RegImm 5} {d10 : BitVec 10} :
    w = encCompareBranch cc2 cond rs1 x d10 ↔
      field w 30 2 = 0 ∧ field w 22 3 = 3 ∧ bit w 28 = true ∧ field w 29 1 ++ field w 25 3 = cond ∧
        field w 21 1 = cc2 ∧ rs1F w = rs1 ∧ regImm5Of w = x ∧ field w 19 2 ++ field w 5 8 = d10 := by
  have hcond : field w 29 1 ++ field w 25 3 = cond ↔ field w 29 1 = field cond 3 1 ∧ field w 25 3 = field cond 0 3 :=
    append_eq_iff (m := 1) (n := 3)
  have hd10 : field w 19 2 ++ field w 5 8 = d10 ↔ field w 19 2 = field d10 8 2 ∧ field w 5 8 = field d10 0 8 :=
    append_eq_iff (m := 2) (n := 8)
  rw [hcond, hd10, regImm5Of_eq]
  unfold encCompareBranch
  cases x with
  | reg rs2 =>
    rw [eq_fmt2_iff, rdF, field_eq_append (m := 2) (n := 3), field_eq_append (m := 1) (n := 1), field_one_eq_one,
      field_eq_append (m := 17) (n := 5), field_eq_append (m := 9) (n := 8), field_eq_append (m := 8) (n := 1),
      field_one_eq_zero, field_eq_append (m := 3) (n := 5), field_eq_append (m := 1) (n := 2)]
    unfold rs1F rs2F
    tauto
  | imm v =>
    rw [eq_fmt2_iff, rdF, field_eq_append (m := 2) (n := 3), field_eq_append (m := 1) (n := 1), field_one_eq_one,
      field_eq_append (m := 17) (n := 5), field_eq_append (m := 9) (n := 8), field_eq_append (m := 8) (n := 1),
      field_one_eq_one, field_eq_append (m := 3) (n := 5), field_eq_append (m := 1) (n := 2)]
    unfold rs1F rs2F
    tauto

theorem decode_cwb {cond : BitVec 4} {x : RegImm 5} {d10 : BitVec 10} {k : Reg → RegImm 5 → BitVec 10 → Instr}
    (hw : w = encCompareBranch 0 cond rs1 x d10) (h : cwbTable.lookup cond.toNat = some k) :
    decode w = some (k rs1 x d10) := by
  obtain ⟨hop, hop2, hbit, hcond, hcc2, hrs1, hx, hd10⟩ := eq_encCompareBranch_iff.1 hw
  rw [decode_of_op0 hop, decodeBranch, hop2, hbit, hcond, field_one_eq_zero.1 hcc2, hrs1, hx, hd10]
  change (cwbTable.lookup cond.toNat).map _ = _
  rw [h]
  rfl

theorem decode_cxb {cond : BitVec 4} {x : RegImm 5} {d10 : BitVec 10} {k : Reg → RegImm 5 → BitVec 10 → Instr}
    (hw : w = encCompareBranch 1 cond rs1 x d10) (h : cxbTable.lookup cond.toNat = some k) :
    decode w = some (k rs1 x d10) := by
  obtain ⟨hop, hop2, hbit, hcond, hcc2, hrs1, hx, hd10⟩ := eq_encCompareBranch_iff.1 hw
  rw [decode_of_op0 hop, decodeBranch, hop2, hbit, hcond, field_one_eq_one.1 hcc2, hrs1, hx, hd10]
  change (cxbTable.lookup cond.toNat).map _ = _
  rw [h]
  rfl

end

/-! ## Format 3, op = 10 -/

section
variable {w : Word32} {rd rs1 : Reg} {x : RegImm 13} {op3 : BitVec 6}

/-- The row of an op3 that R119 gives no form of its own. -/
theorem decode_arith {k : Reg → Reg → RegImm 13 → Instr} (hw : w = fmt3 2 rd op3 rs1 (regImmField x))
    (h : arithTable.lookup op3.toNat = some k) : decode w = some (k rd rs1 x) := by
  obtain ⟨hop, hrd, hop3, hrs1, hlow⟩ := eq_fmt3_iff.1 hw
  rw [decode_of_op2 hop, decodeArith, hop3]
  split
  case h_22 => rw [h, regImmOf_eq_some.2 hlow, hrd, hrs1]; rfl
  all_goals
    rename_i hspecial
    rw [hspecial] at h
    cases h

theorem decode_popc (hw : w = fmt3 2 rd 0x2E 0 (regImmField x)) : decode w = some (.POPC rd x) := by
  obtain ⟨hop, hrd, hop3, hrs1, hlow⟩ := eq_fmt3_iff.1 hw
  rw [decode_of_op2 hop, decodeArith, hop3, hrs1, hrd, regImmOf_eq_some.2 hlow]
  rfl

theorem decode_return (hw : w = fmt3 2 0 0x39 rs1 (regImmField x)) : decode w = some (.RETURN rs1 x) := by
  obtain ⟨hop, hrd, hop3, hrs1, hlow⟩ := eq_fmt3_iff.1 hw
  rw [decode_of_op2 hop, decodeArith, hop3, hrs1, hrd, regImmOf_eq_some.2 hlow]
  rfl

theorem decode_flush (hw : w = fmt3 2 0 0x3B rs1 (regImmField x)) : decode w = some (.FLUSH rs1 x) := by
  obtain ⟨hop, hrd, hop3, hrs1, hlow⟩ := eq_fmt3_iff.1 hw
  rw [decode_of_op2 hop, decodeArith, hop3, hrs1, hrd, regImmOf_eq_some.2 hlow]
  rfl

theorem decode_wrpr {k : Reg → RegImm 13 → Instr} (hw : w = fmt3 2 rd 0x32 rs1 (regImmField x))
    (h : wrprTable.lookup rd.toNat = some k) : decode w = some (k rs1 x) := by
  obtain ⟨hop, hrd, hop3, hrs1, hlow⟩ := eq_fmt3_iff.1 hw
  rw [decode_of_op2 hop, decodeArith, hop3, hrs1, hrd, regImmOf_eq_some.2 hlow]
  change (wrprTable.lookup rd.toNat).map _ = _
  rw [h]
  rfl

/-! ### Ancillary state registers -/

theorem decode_wrasrOp (hw : w = fmt3 2 rd 0x30 rs1 (regImmField x)) : decode w = decodeWrasr w := by
  obtain ⟨hop, -, hop3, -, -⟩ := eq_fmt3_iff.1 hw
  rw [decode_of_op2 hop, decodeArith, hop3]
  rfl

theorem decode_wrasr {k : Reg → RegImm 13 → Instr} (hw : w = fmt3 2 rd 0x30 rs1 (regImmField x))
    (h : wrasrTable.lookup rd.toNat = some k) : decode w = some (k rs1 x) := by
  obtain ⟨-, hrd, -, hrs1, hlow⟩ := eq_fmt3_iff.1 hw
  rw [decode_wrasrOp hw, decodeWrasr, regImmOf_eq_some.2 hlow, hrd, hrs1]
  change (match rd.toNat with | 27 => _ | 28 => _ | n => _) = _
  split
  case h_3 => rw [h]; rfl
  all_goals
    rename_i hspecial
    rw [hspecial] at h
    cases h

theorem decode_pause (hw : w = fmt3 2 27 0x30 0 (regImmField x)) : decode w = some (.PAUSE x) := by
  obtain ⟨-, hrd, -, hrs1, hlow⟩ := eq_fmt3_iff.1 hw
  rw [decode_wrasrOp hw, decodeWrasr, regImmOf_eq_some.2 hlow, hrd, hrs1]
  rfl

theorem decode_mwait (hw : w = fmt3 2 28 0x30 0 (regImmField x)) : decode w = some (.MWAIT x) := by
  obtain ⟨-, hrd, -, hrs1, hlow⟩ := eq_fmt3_iff.1 hw
  rw [decode_wrasrOp hw, decodeWrasr, regImmOf_eq_some.2 hlow, hrd, hrs1]
  rfl

theorem decode_wrpause (h : wellFormed (.WRPAUSE rs1 x) = true) (hw : w = fmt3 2 27 0x30 rs1 (regImmField x)) :
    decode w = some (.WRPAUSE rs1 x) := by
  obtain ⟨-, hrd, -, hrs1, hlow⟩ := eq_fmt3_iff.1 hw
  rw [decode_wrasrOp hw, decodeWrasr, regImmOf_eq_some.2 hlow, hrd, hrs1]
  exact congrArg some (if_neg (bne_iff_ne.1 h))

theorem decode_wrmwait (h : wellFormed (.WRMWAIT rs1 x) = true) (hw : w = fmt3 2 28 0x30 rs1 (regImmField x)) :
    decode w = some (.WRMWAIT rs1 x) := by
  obtain ⟨-, hrd, -, hrs1, hlow⟩ := eq_fmt3_iff.1 hw
  rw [decode_wrasrOp hw, decodeWrasr, regImmOf_eq_some.2 hlow, hrd, hrs1]
  exact congrArg some (if_neg (bne_iff_ne.1 h))

theorem decode_rdasr {k : Reg → Instr} (hw : w = fmt3 2 rd 0x28 rs1 0) (hrs1 : rs1 ≠ 15)
    (h : rdasrTable.lookup rs1.toNat = some k) : decode w = some (k rd) := by
  obtain ⟨hop, hrd, hop3, rfl, hlow⟩ := eq_fmt3_iff.1 hw
  rw [decode_of_op2 hop, decodeArith, hop3]
  change decodeRdasr w = _
  rw [decodeRdasr, if_neg hrs1, if_pos hlow, h, hrd]
  rfl

theorem low_eq_membar {cmask : BitVec 3} {mmask : BitVec 4} :
    field w 0 14 = 1#1 ++ 0#6 ++ cmask ++ mmask ↔
      bit w 13 = true ∧ field w 7 6 = 0 ∧ field w 4 3 = cmask ∧ field w 0 4 = mmask := by
  rw [field_eq_append (m := 10) (n := 4), field_eq_append (m := 7) (n := 3), field_eq_append (m := 1) (n := 6),
    field_one_eq_one]
  simp only [and_assoc]
  rfl

theorem decode_membar {cmask : BitVec 3} {mmask : BitVec 4}
    (hw : w = fmt3 2 0 0x28 15 (1#1 ++ 0#6 ++ cmask ++ mmask)) : decode w = some (.MEMBAR cmask mmask) := by
  obtain ⟨hop, hrd, hop3, hrs1, hlow⟩ := eq_fmt3_iff.1 hw
  obtain ⟨hbit, hzero, hcmask, hmmask⟩ := low_eq_membar.1 hlow
  rw [decode_of_op2 hop, decodeArith, hop3]
  change decodeRdasr w = _
  rw [decodeRdasr, if_pos hrs1, if_pos hrd, if_pos hbit, if_pos hzero, hcmask, hmmask]

theorem decode_rdpr {k : Reg → Instr} (hw : w = fmt3 2 rd 0x2A rs1 0)
    (h : rdprTable.lookup rs1.toNat = some k) : decode w = some (k rd) := by
  obtain ⟨hop, hrd, hop3, hrs1, hlow⟩ := eq_fmt3_iff.1 hw
  rw [decode_of_op2 hop, decodeArith, hop3, hlow, hrs1, hrd]
  change (rdprTable.lookup rs1.toNat).map _ = _
  rw [h]
  rfl

/-! ### Shifts, conditional moves and Tcc -/

/-- The shifts of 32 and of 64 bits that share an op3 (R167 to R173). -/
def shiftTable : List (Nat × (Reg → Reg → RegImm 5 → Instr) × (Reg → Reg → RegImm 6 → Instr)) :=
  [(0x25, .SLL, .SLLX), (0x26, .SRL, .SRLX), (0x27, .SRA, .SRAX)]

theorem decodeArith_shift {k32 : Reg → Reg → RegImm 5 → Instr} {k64 : Reg → Reg → RegImm 6 → Instr}
    (hop3 : field w 19 6 = op3) (h : shiftTable.lookup op3.toNat = some (k32, k64)) :
    decodeArith w = if bit w 12 then (shift64Of w).map (k64 (rdF w) (rs1F w))
      else (shift32Of w).map (k32 (rdF w) (rs1F w)) := by
  have hmem := mem_of_lookup h
  simp only [shiftTable, List.mem_cons, Prod.mk.injEq, List.not_mem_nil, or_false] at hmem
  rw [decodeArith, hop3]
  rcases hmem with ⟨hn, rfl, rfl⟩ | ⟨hn, rfl, rfl⟩ | ⟨hn, rfl, rfl⟩
  · rw [hn]; rfl
  · rw [hn]; rfl
  · rw [hn]; rfl

theorem decode_shift32 {k32 : Reg → Reg → RegImm 5 → Instr} {k64 : Reg → Reg → RegImm 6 → Instr} {c : RegImm 5}
    (hw : w = fmt3 2 rd op3 rs1 (shift32Field c)) (h : shiftTable.lookup op3.toNat = some (k32, k64)) :
    decode w = some (k32 rd rs1 c) := by
  obtain ⟨hop, hrd, hop3, hrs1, hlow⟩ := eq_fmt3_iff.1 hw
  obtain ⟨hbit, hc⟩ := shift32Of_eq_some.2 hlow
  rw [decode_of_op2 hop, decodeArith_shift hop3 h, hbit, hc, hrd, hrs1]
  rfl

theorem decode_shift64 {k32 : Reg → Reg → RegImm 5 → Instr} {k64 : Reg → Reg → RegImm 6 → Instr} {c : RegImm 6}
    (hw : w = fmt3 2 rd op3 rs1 (shift64Field c)) (h : shiftTable.lookup op3.toNat = some (k32, k64)) :
    decode w = some (k64 rd rs1 c) := by
  obtain ⟨hop, hrd, hop3, hrs1, hlow⟩ := eq_fmt3_iff.1 hw
  obtain ⟨hbit, hc⟩ := shift64Of_eq_some.2 hlow
  rw [decode_of_op2 hop, decodeArith_shift hop3 h, hbit, hc, hrd, hrs1]
  rfl

/-- MOVcc on an fccn, by cc2 :: cc1 :: cc0 (R130, R153). -/
def movFccTable : List (Nat × (Reg → FCond → RegImm 11 → Instr)) :=
  [(0, .MOVfcc0), (1, .MOVfcc1), (2, .MOVfcc2), (3, .MOVfcc3)]

/-- MOVcc on icc or xcc, by cc2 :: cc1 :: cc0 (R130, R153). -/
def movIccTable : List (Nat × (Reg → ICond → RegImm 11 → Instr)) := [(4, .MOVicc), (6, .MOVxcc)]

/-- MOVcc is read by two maps. -/
theorem decodeMovcc_eq (w : Word32) :
    decodeMovcc w = (regImm11Of w).bind fun x =>
      match movFccTable.lookup (field w 18 1 ++ field w 11 2).toNat with
      | some k => some (k (rdF w) (fcondOf (field w 14 4)) x)
      | none =>
        (movIccTable.lookup (field w 18 1 ++ field w 11 2).toNat).map fun k =>
          k (rdF w) (icondOf (field w 14 4)) x := by
  unfold decodeMovcc
  congr 1
  funext x
  split
  case h_7 h0 h1 h2 h3 h4 h6 =>
    simp [movFccTable, movIccTable, List.lookup_cons, beq_false_of_ne h0, beq_false_of_ne h1, beq_false_of_ne h2,
      beq_false_of_ne h3, beq_false_of_ne h4, beq_false_of_ne h6]
  all_goals
    rename_i hcc
    rw [hcc]
    rfl

/-- A word is that of MOVcc with the fields that it has. -/
theorem eq_encMovcc_iff {cc2 : BitVec 1} {n : BitVec 4} {cc : BitVec 2} {x : RegImm 11} :
    w = encMovcc rd cc2 n cc x ↔
      field w 30 2 = 2 ∧ field w 19 6 = 0x2C ∧ rdF w = rd ∧ field w 18 1 = cc2 ∧ field w 14 4 = n ∧
        regImm11Of w = some x ∧ field w 11 2 = cc := by
  rw [encMovcc_eq, eq_fmt3_iff, rs1F, field_eq_append (m := 1) (n := 4), ← regImm11Of_eq_some]
  tauto

theorem decode_movfcc {cc : BitVec 2} {cond : FCond} {x : RegImm 11} {k : Reg → FCond → RegImm 11 → Instr}
    (hw : w = encMovcc rd 0#1 (fcondField cond) cc x) (h : movFccTable.lookup (0#1 ++ cc).toNat = some k) :
    decode w = some (k rd cond x) := by
  obtain ⟨hop, hop3, hrd, hcc2, hcond, hx, hcc⟩ := eq_encMovcc_iff.1 hw
  rw [decode_of_op2 hop, decodeArith, hop3]
  change decodeMovcc w = _
  rw [decodeMovcc_eq, hx, hcc2, hcc, Option.bind_some, h, hrd, hcond, fcondOf_fcondField]

theorem decode_movicc {cc : BitVec 2} {cond : ICond} {x : RegImm 11} {k : Reg → ICond → RegImm 11 → Instr}
    (hw : w = encMovcc rd 1#1 (icondField cond) cc x) (hf : movFccTable.lookup (1#1 ++ cc).toNat = none)
    (h : movIccTable.lookup (1#1 ++ cc).toNat = some k) : decode w = some (k rd cond x) := by
  obtain ⟨hop, hop3, hrd, hcc2, hcond, hx, hcc⟩ := eq_encMovcc_iff.1 hw
  rw [decode_of_op2 hop, decodeArith, hop3]
  change decodeMovcc w = _
  rw [decodeMovcc_eq, hx, hcc2, hcc, Option.bind_some, hf, h, hrd, hcond, icondOf_icondField]
  rfl

/-- A word is that of MOVr with the fields that it has. -/
theorem eq_encMovr_iff {rcond : BitVec 3} {x : RegImm 10} :
    w = encMovr rd rs1 rcond x ↔
      field w 30 2 = 2 ∧ field w 19 6 = 0x2F ∧ rdF w = rd ∧ rs1F w = rs1 ∧ regImm10Of w = some x ∧
        field w 10 3 = rcond := by
  rw [encMovr_eq, eq_fmt3_iff, ← regImm10Of_eq_some]
  tauto

theorem decode_movr {rcond : BitVec 3} {x : RegImm 10} {k : Reg → Reg → RegImm 10 → Instr}
    (hw : w = encMovr rd rs1 rcond x) (h : movrTable.lookup rcond.toNat = some k) :
    decode w = some (k rd rs1 x) := by
  obtain ⟨hop, hop3, hrd, hrs1, hx, hrcond⟩ := eq_encMovr_iff.1 hw
  rw [decode_of_op2 hop, decodeArith, hop3, hx, hrcond, hrd, hrs1]
  change (movrTable.lookup rcond.toNat).map _ = _
  rw [h]
  rfl

/-- A word is that of Tcc with the fields that it has. -/
theorem eq_encTcc_iff {n : BitVec 4} {cc : BitVec 2} {x : RegImm 8} :
    w = encTcc n cc rs1 x ↔
      field w 30 2 = 2 ∧ field w 19 6 = 0x3A ∧ bit w 29 = false ∧ field w 25 4 = n ∧ rs1F w = rs1 ∧
        trapOperandOf w = some x ∧ field w 11 2 = cc := by
  rw [encTcc_eq, eq_fmt3_iff, rdF, field_eq_append (m := 1) (n := 4), field_one_eq_zero, ← trapOperandOf_eq_some]
  tauto

theorem decode_tcc {n : BitVec 4} {cc : IccSel} {x : RegImm 8} {k : IccSel → Reg → RegImm 8 → Instr}
    (hw : w = encTcc n (iccField cc) rs1 x) (h : tccTable[n.toNat]? = some k) : decode w = some (k cc rs1 x) := by
  obtain ⟨hop, hop3, hbit, hn, hrs1, hx, hcc⟩ := eq_encTcc_iff.1 hw
  rw [decode_of_op2 hop, decodeArith, hop3, hx, hcc, iccSelOf_iccField, hn, hrs1]
  change (if bit w 29 = true then none else (tccTable[n.toNat]?).map _) = _
  rw [hbit, h]
  rfl

end

end Sys2Proof
end
section
/-!
PROOF. Decoding the encoding of a load, a store or another memory instruction gives it back.
-/

namespace Sys2Proof

open Sys2Proof.Machine

/-! ## The rows of the memory maps -/

/-- The op3 of op = 11 that have a form of their own (R122). -/
def memSpecial : List Nat := [0x03, 0x07, 0x13, 0x17, 0x21, 0x25, 0x2D, 0x33, 0x37, 0x3C, 0x3D, 0x3E]

/-- The four maps have no row for them. -/
theorem lookup_memSpecial {n : Nat} (h : n ∈ memSpecial) :
    memTable.lookup n = none ∧ memDTable.lookup n = none ∧ memAltTable.lookup n = none ∧
      memAltDTable.lookup n = none := by
  fin_cases h <;> exact ⟨rfl, rfl, rfl, rfl⟩

/-- A word of another op3 is read by the four maps. -/
theorem decodeMem_default {w : Word32} {n : Nat} (hop3 : (field w 19 6).toNat = n) (h : n ∉ memSpecial) :
    decodeMem w =
      match memTable.lookup n with
      | some k => (regImmOf w).map fun op2 => k (rdF w) (rs1F w) op2
      | none =>
        match memDTable.lookup n with
        | some k => (regImmOf w).map fun op2 => k (dregOf (rdF w)) (rs1F w) op2
        | none =>
          match memAltTable.lookup n with
          | some k => some (k (rdF w) (rs1F w) (altOf w))
          | none => (memAltDTable.lookup n).map fun k => k (dregOf (rdF w)) (rs1F w) (altOf w) := by
  rw [decodeMem, hop3]
  split
  case h_13 => rfl
  all_goals exact absurd (by decide) h

section
variable {w : Word32} {rd rs1 rs2 : Reg} {x : RegImm 13} {addr : AltOperand} {op3 : BitVec 6} {asi : BitVec 8}

theorem decode_mem {k : Reg → Reg → RegImm 13 → Instr} (hw : w = fmt3 3 rd op3 rs1 (regImmField x))
    (h : memTable.lookup op3.toNat = some k) : decode w = some (k rd rs1 x) := by
  obtain ⟨hop, hrd, hop3, hrs1, hlow⟩ := eq_fmt3_iff.1 hw
  have hdefault : op3.toNat ∉ memSpecial := fun hs =>
    Option.some_ne_none k (h.symm.trans (lookup_memSpecial hs).1)
  rw [decode_of_op3 hop, decodeMem_default (congrArg BitVec.toNat hop3) hdefault, h, regImmOf_eq_some.2 hlow, hrd,
    hrs1]
  rfl

theorem decode_memD {k : Reg → Reg → RegImm 13 → Instr} (hw : w = fmt3 3 (dregField rd) op3 rs1 (regImmField x))
    (hmem : memTable.lookup op3.toNat = none) (h : memDTable.lookup op3.toNat = some k) :
    decode w = some (k rd rs1 x) := by
  obtain ⟨hop, hrd, hop3, hrs1, hlow⟩ := eq_fmt3_iff.1 hw
  have hdefault : op3.toNat ∉ memSpecial := fun hs =>
    Option.some_ne_none k (h.symm.trans (lookup_memSpecial hs).2.1)
  rw [decode_of_op3 hop, decodeMem_default (congrArg BitVec.toNat hop3) hdefault, hmem, h, regImmOf_eq_some.2 hlow,
    hrd, hrs1, dregOf_dregField]
  rfl

theorem decode_memAlt {k : Reg → Reg → AltOperand → Instr} (hw : w = fmt3 3 rd op3 rs1 (altField addr))
    (hmem : memTable.lookup op3.toNat = none) (hmemD : memDTable.lookup op3.toNat = none)
    (h : memAltTable.lookup op3.toNat = some k) : decode w = some (k rd rs1 addr) := by
  obtain ⟨hop, hrd, hop3, hrs1, hlow⟩ := eq_fmt3_iff.1 hw
  have hdefault : op3.toNat ∉ memSpecial := fun hs =>
    Option.some_ne_none k (h.symm.trans (lookup_memSpecial hs).2.2.1)
  rw [decode_of_op3 hop, decodeMem_default (congrArg BitVec.toNat hop3) hdefault, hmem, hmemD, h, altOf_eq.2 hlow,
    hrd, hrs1]

theorem decode_memAltD {k : Reg → Reg → AltOperand → Instr} (hw : w = fmt3 3 (dregField rd) op3 rs1 (altField addr))
    (hmem : memTable.lookup op3.toNat = none) (hmemD : memDTable.lookup op3.toNat = none)
    (hmemAlt : memAltTable.lookup op3.toNat = none) (h : memAltDTable.lookup op3.toNat = some k) :
    decode w = some (k rd rs1 addr) := by
  obtain ⟨hop, hrd, hop3, hrs1, hlow⟩ := eq_fmt3_iff.1 hw
  have hdefault : op3.toNat ∉ memSpecial := fun hs =>
    Option.some_ne_none k (h.symm.trans (lookup_memSpecial hs).2.2.2)
  rw [decode_of_op3 hop, decodeMem_default (congrArg BitVec.toNat hop3) hdefault, hmem, hmemD, hmemAlt, h,
    altOf_eq.2 hlow, hrd, hrs1, Option.map_some, dregOf_dregField]

/-! ## Even register pairs (R116) -/

theorem evenRd_eq_some {k : Option Instr} {i : Instr} :
    evenRd w k = some i ↔ evenReg (rdF w) = true ∧ k = some i := Option.ite_none_right_eq_some

theorem decode_ldtw (hrd : evenReg rd = true) (hw : w = fmt3 3 rd 0x3 rs1 (regImmField x)) :
    decode w = some (.LDTW rd rs1 x) := by
  obtain ⟨hop, rfl, hop3, rfl, hlow⟩ := eq_fmt3_iff.1 hw
  rw [decode_of_op3 hop, decodeMem, hop3]
  exact evenRd_eq_some.2 ⟨hrd, by rw [regImmOf_eq_some.2 hlow]; rfl⟩

theorem decode_sttw (hrd : evenReg rd = true) (hw : w = fmt3 3 rd 0x7 rs1 (regImmField x)) :
    decode w = some (.STTW rd rs1 x) := by
  obtain ⟨hop, rfl, hop3, rfl, hlow⟩ := eq_fmt3_iff.1 hw
  rw [decode_of_op3 hop, decodeMem, hop3]
  exact evenRd_eq_some.2 ⟨hrd, by rw [regImmOf_eq_some.2 hlow]; rfl⟩

theorem decode_sttwa (hrd : evenReg rd = true) (hw : w = fmt3 3 rd 0x17 rs1 (altField addr)) :
    decode w = some (.STTWA rd rs1 addr) := by
  obtain ⟨hop, rfl, hop3, rfl, hlow⟩ := eq_fmt3_iff.1 hw
  rw [decode_of_op3 hop, decodeMem, hop3]
  exact evenRd_eq_some.2 ⟨hrd, by rw [altOf_eq.2 hlow]⟩

/-! ## Opcodes that an immediate ASI tells apart -/

theorem notImmAsi_altOf (set : List (BitVec 8)) (w : Word32) :
    notImmAsi set (altOf w) = (bit w 13 || !set.contains (field w 5 8)) := by
  unfold altOf
  cases bit w 13 <;> rfl

theorem notImmAsi_altOf_iff {set : List (BitVec 8)} :
    notImmAsi set (altOf w) = true ↔ bit w 13 = true ∨ set.contains (field w 5 8) = false := by
  rw [notImmAsi_altOf, Bool.or_eq_true, Bool.not_eq_true']

theorem contains_append_eq_false {a b : List (BitVec 8)} :
    (a ++ b).contains asi = false ↔ a.contains asi = false ∧ b.contains asi = false := by
  rw [List.contains_append, Bool.or_eq_false_iff]

/-- No ASI is in two of the sets that select an instruction. -/
theorem contains_asiShort (h : asiShort.contains asi = true) :
    asiBlock.contains asi = false ∧ (asiBlock ++ asiCommit).contains asi = false ∧ asiPartial.contains asi = false := by
  have hall : ∀ a ∈ asiShort, asiBlock.contains a = false ∧ (asiBlock ++ asiCommit).contains a = false ∧
      asiPartial.contains a = false := by decide
  exact hall asi (List.contains_iff_mem.1 h)

theorem contains_asiPartial (h : asiPartial.contains asi = true) : (asiBlock ++ asiCommit).contains asi = false := by
  have hall : ∀ a ∈ asiPartial, (asiBlock ++ asiCommit).contains a = false := by decide
  exact hall asi (List.contains_iff_mem.1 h)

theorem decode_ldtwaOp (hop : field w 30 2 = 3) (hop3 : field w 19 6 = 0x13) (hrd : evenReg (rdF w) = true) :
    decode w = some (decodeLdtwa w) := by
  rw [decode_of_op3 hop, decodeMem, hop3]
  exact if_pos hrd

theorem decode_ldtwa (h : wellFormed (.LDTWA rd rs1 addr) = true) (hw : w = fmt3 3 rd 0x13 rs1 (altField addr)) :
    decode w = some (.LDTWA rd rs1 addr) := by
  obtain ⟨hop, rfl, hop3, rfl, hlow⟩ := eq_fmt3_iff.1 hw
  obtain rfl := altOf_eq.2 hlow
  obtain ⟨hrd, hasi⟩ := Bool.and_eq_true_iff.1 h
  rw [decode_ldtwaOp hop hop3 hrd, decodeLdtwa]
  obtain hbit | hnot := notImmAsi_altOf_iff.1 hasi
  · rw [if_pos hbit]
  · rw [if_neg (ne_true_of_eq_false hnot), ite_self]

theorem decode_ldtxa (h : wellFormed (.LDTXA rd rs1 rs2 asi) = true)
    (hw : w = fmt3 3 rd 0x13 rs1 (0#1 ++ asi ++ rs2)) : decode w = some (.LDTXA rd rs1 rs2 asi) := by
  obtain ⟨hop, rfl, hop3, rfl, hlow⟩ := eq_fmt3_iff.1 hw
  obtain ⟨hbit, rfl, rfl⟩ := low_eq_asi.1 hlow
  obtain ⟨hrd, hasi⟩ := Bool.and_eq_true_iff.1 h
  rw [decode_ldtwaOp hop hop3 hrd, decodeLdtwa, if_neg (ne_true_of_eq_false hbit), if_pos hasi]

theorem decode_lddfaOp (hop : field w 30 2 = 3) (hop3 : field w 19 6 = 0x33) :
    decode w = some (decodeLddfa w) := by
  rw [decode_of_op3 hop, decodeMem, hop3]; rfl

theorem decode_stdfaOp (hop : field w 30 2 = 3) (hop3 : field w 19 6 = 0x37) :
    decode w = some (decodeStdfa w) := by
  rw [decode_of_op3 hop, decodeMem, hop3]; rfl

theorem decode_lddfa (h : wellFormed (.LDDFA rd rs1 addr) = true)
    (hw : w = fmt3 3 (dregField rd) 0x33 rs1 (altField addr)) : decode w = some (.LDDFA rd rs1 addr) := by
  obtain ⟨hop, hrd, hop3, rfl, hlow⟩ := eq_fmt3_iff.1 hw
  obtain rfl := altOf_eq.2 hlow
  rw [decode_lddfaOp hop hop3, decodeLddfa, hrd, dregOf_dregField]
  obtain hbit | hnot := notImmAsi_altOf_iff.1 h
  · rw [if_pos hbit]
  · obtain ⟨hblock, hshort⟩ := contains_append_eq_false.1 hnot
    simp only [hblock, hshort, Bool.false_eq_true, if_false, ite_self]

theorem decode_ldblockf (h : wellFormed (.LDBLOCKF rd rs1 rs2 asi) = true)
    (hw : w = fmt3 3 (dregField rd) 0x33 rs1 (0#1 ++ asi ++ rs2)) : decode w = some (.LDBLOCKF rd rs1 rs2 asi) := by
  obtain ⟨hop, hrd, hop3, rfl, hlow⟩ := eq_fmt3_iff.1 hw
  obtain ⟨hbit, rfl, rfl⟩ := low_eq_asi.1 hlow
  rw [decode_lddfaOp hop hop3, decodeLddfa, hrd, dregOf_dregField, if_neg (ne_true_of_eq_false hbit)]
  exact congrArg some (if_pos h)

theorem decode_ldshortf (h : wellFormed (.LDSHORTF rd rs1 rs2 asi) = true)
    (hw : w = fmt3 3 (dregField rd) 0x33 rs1 (0#1 ++ asi ++ rs2)) : decode w = some (.LDSHORTF rd rs1 rs2 asi) := by
  obtain ⟨hop, hrd, hop3, rfl, hlow⟩ := eq_fmt3_iff.1 hw
  obtain ⟨hbit, rfl, rfl⟩ := low_eq_asi.1 hlow
  have hshort : asiShort.contains (field w 5 8) = true := h
  have hblock := (contains_asiShort hshort).1
  rw [decode_lddfaOp hop hop3, decodeLddfa, hrd, dregOf_dregField]
  simp only [hbit, hblock, hshort, Bool.false_eq_true, if_false, if_true]

theorem decode_stdfa (h : wellFormed (.STDFA rd rs1 addr) = true)
    (hw : w = fmt3 3 (dregField rd) 0x37 rs1 (altField addr)) : decode w = some (.STDFA rd rs1 addr) := by
  obtain ⟨hop, hrd, hop3, rfl, hlow⟩ := eq_fmt3_iff.1 hw
  obtain rfl := altOf_eq.2 hlow
  rw [decode_stdfaOp hop hop3, decodeStdfa, hrd, dregOf_dregField]
  obtain hbit | hnot := notImmAsi_altOf_iff.1 h
  · rw [if_pos hbit]
  · obtain ⟨hrest, hshort⟩ := contains_append_eq_false.1 hnot
    obtain ⟨hblock, hpartial⟩ := contains_append_eq_false.1 hrest
    simp only [hblock, hpartial, hshort, Bool.false_eq_true, if_false, ite_self]

theorem decode_stblockf (h : wellFormed (.STBLOCKF rd rs1 rs2 asi) = true)
    (hw : w = fmt3 3 (dregField rd) 0x37 rs1 (0#1 ++ asi ++ rs2)) : decode w = some (.STBLOCKF rd rs1 rs2 asi) := by
  obtain ⟨hop, hrd, hop3, rfl, hlow⟩ := eq_fmt3_iff.1 hw
  obtain ⟨hbit, rfl, rfl⟩ := low_eq_asi.1 hlow
  rw [decode_stdfaOp hop hop3, decodeStdfa, hrd, dregOf_dregField, if_neg (ne_true_of_eq_false hbit)]
  exact congrArg some (if_pos h)

theorem decode_stpartialf (h : wellFormed (.STPARTIALF rd rs1 rs2 asi) = true)
    (hw : w = fmt3 3 (dregField rd) 0x37 rs1 (0#1 ++ asi ++ rs2)) :
    decode w = some (.STPARTIALF rd rs1 rs2 asi) := by
  obtain ⟨hop, hrd, hop3, rfl, hlow⟩ := eq_fmt3_iff.1 hw
  obtain ⟨hbit, rfl, rfl⟩ := low_eq_asi.1 hlow
  have hpartial : asiPartial.contains (field w 5 8) = true := h
  have hblock := contains_asiPartial hpartial
  rw [decode_stdfaOp hop hop3, decodeStdfa, hrd, dregOf_dregField]
  simp only [hbit, hblock, hpartial, Bool.false_eq_true, if_false, if_true]

theorem decode_stshortf (h : wellFormed (.STSHORTF rd rs1 rs2 asi) = true)
    (hw : w = fmt3 3 (dregField rd) 0x37 rs1 (0#1 ++ asi ++ rs2)) : decode w = some (.STSHORTF rd rs1 rs2 asi) := by
  obtain ⟨hop, hrd, hop3, rfl, hlow⟩ := eq_fmt3_iff.1 hw
  obtain ⟨hbit, rfl, rfl⟩ := low_eq_asi.1 hlow
  have hshort : asiShort.contains (field w 5 8) = true := h
  obtain ⟨-, hblock, hpartial⟩ := contains_asiShort hshort
  rw [decode_stdfaOp hop hop3, decodeStdfa, hrd, dregOf_dregField]
  simp only [hbit, hblock, hpartial, hshort, Bool.false_eq_true, if_false, if_true]

/-! ## FSR, prefetches and compare-and-swap -/

/-- The loads and stores of FSR, by op3 and rd (R122). -/
def fsrTable : List ((Nat × Nat) × (Reg → RegImm 13 → Instr)) :=
  [((0x21, 0), .LDFSR), ((0x21, 1), .LDXFSR), ((0x21, 3), .LDXEFSR), ((0x25, 0), .STFSR), ((0x25, 1), .STXFSR)]

theorem decode_fsr {k : Reg → RegImm 13 → Instr} (hw : w = fmt3 3 rd op3 rs1 (regImmField x))
    (h : fsrTable.lookup (op3.toNat, rd.toNat) = some k) : decode w = some (k rs1 x) := by
  obtain ⟨hop, hrd, hop3, hrs1, hlow⟩ := eq_fmt3_iff.1 hw
  have hmem := mem_of_lookup h
  simp only [fsrTable, List.mem_cons, Prod.mk.injEq, List.not_mem_nil, or_false] at hmem
  rw [decode_of_op3 hop, decodeMem, hop3, regImmOf_eq_some.2 hlow, hrd, hrs1]
  rcases hmem with ⟨⟨hn, hm⟩, rfl⟩ | ⟨⟨hn, hm⟩, rfl⟩ | ⟨⟨hn, hm⟩, rfl⟩ | ⟨⟨hn, hm⟩, rfl⟩ | ⟨⟨hn, hm⟩, rfl⟩
  all_goals rw [hn, hm]; rfl

theorem decode_prefetch (h : prefetchFcn rd = true) (hw : w = fmt3 3 rd 0x2D rs1 (regImmField x)) :
    decode w = some (.PREFETCH rd rs1 x) := by
  obtain ⟨hop, rfl, hop3, hrs1, hlow⟩ := eq_fmt3_iff.1 hw
  rw [decode_of_op3 hop, decodeMem, hop3, regImmOf_eq_some.2 hlow, hrs1]
  exact if_pos h

theorem decode_prefetcha (h : prefetchFcn rd = true) (hw : w = fmt3 3 rd 0x3D rs1 (altField addr)) :
    decode w = some (.PREFETCHA rd rs1 addr) := by
  obtain ⟨hop, rfl, hop3, hrs1, hlow⟩ := eq_fmt3_iff.1 hw
  rw [decode_of_op3 hop, decodeMem, hop3, altOf_eq.2 hlow, hrs1]
  exact if_pos h

theorem decode_casa {src : AsiSource} (hw : w = fmt3 3 rd 0x3C rs1 (casField src rs2)) :
    decode w = some (.CASA rd rs1 rs2 src) := by
  obtain ⟨hop, hrd, hop3, hrs1, hlow⟩ := eq_fmt3_iff.1 hw
  obtain ⟨hsrc, hrs2⟩ := casAsiOf_eq_some.2 hlow
  rw [decode_of_op3 hop, decodeMem, hop3, hsrc, hrd, hrs1, hrs2]
  rfl

theorem decode_casxa {src : AsiSource} (hw : w = fmt3 3 rd 0x3E rs1 (casField src rs2)) :
    decode w = some (.CASXA rd rs1 rs2 src) := by
  obtain ⟨hop, hrd, hop3, hrs1, hlow⟩ := eq_fmt3_iff.1 hw
  obtain ⟨hsrc, hrs2⟩ := casAsiOf_eq_some.2 hlow
  rw [decode_of_op3 hop, decodeMem, hop3, hsrc, hrd, hrs1, hrs2]
  rfl

end

end Sys2Proof
end
section
/-!
PROOF. Decoding the encoding of a well-formed instruction gives it back: each instruction by the lemma for its form.
-/

namespace Sys2Proof

open Sys2Proof.Machine

/-- The instructions of one form stand together, in the order of the encoder. -/
theorem decode_encode (i : Instr) (h : wellFormed i = true) : decode (encode i) = some i := by
  cases i with
  | NOP | DONE | RETRY | STBAR | FLUSHW | SAVED | RESTORED | ALLCLEAN | OTHERW | NORMALW | INVALW => rfl
  | SETHI => exact decode_sethi h rfl
  | ADD | AND | OR | XOR | SUB | ANDN | ORN | XNOR | ADDC | MULX | UMUL | SMUL | SUBC | UDIVX | UDIV | SDIV | ADDcc |
    ANDcc | ORcc | XORcc | SUBcc | ANDNcc | ORNcc | XNORcc | ADDCcc | UMULcc | SMULcc | SUBCcc | UDIVcc | SDIVcc |
    TADDcc | TSUBcc | TADDccTV | TSUBccTV | MULScc | SDIVX | JMPL | SAVE | RESTORE =>
    exact decode_arith rfl rfl
  | SLL | SRL | SRA => exact decode_shift32 rfl rfl
  | SLLX | SRLX | SRAX => exact decode_shift64 rfl rfl
  | MOVfcc0 | MOVfcc1 | MOVfcc2 | MOVfcc3 => exact decode_movfcc rfl rfl
  | MOVicc | MOVxcc => exact decode_movicc rfl rfl rfl
  | POPC => exact decode_popc rfl
  | MOVRZ | MOVRLEZ | MOVRLZ | MOVRNZ | MOVRGZ | MOVRGEZ => exact decode_movr rfl rfl
  | ADDXC | ADDXCcc | UMULXHI | SUBXC | SUBXCcc | XMULX | XMULXHI | FADDs | FSUBs | FMULs | FDIVs | FNADDs | FNMULs |
    FHADDs | FHSUBs | FNHADDs | EDGE8cc | EDGE8N | EDGE8Lcc | EDGE8LN | EDGE16cc | EDGE16N | EDGE16Lcc | EDGE16LN |
    EDGE32cc | EDGE32N | EDGE32Lcc | EDGE32LN | ARRAY8 | ARRAY16 | ARRAY32 | ALIGNADDRESS | BMASK |
    ALIGNADDRESS_LITTLE | FPADD16s | FPADD32s | FPSUB16s | FPSUB32s | FPADDS16s | FPADDS32s | FPSUBS16s | FPSUBS32s |
    FNORs | FANDNOT2s | FANDNOT1s | FXORs | FNANDs | FANDs | FXNORs | FORNOT2s | FORNOT1s | FORs =>
    exact decode_three names_raw names_raw names_raw rfl rfl
  | LZCNT | FMOVs | FNEGs | FABSs | FSQRTs | FiTOs | FsTOi | FNOT2s | FSRC2s | MOVsTOuw | MOVsTOsw | MOVwTOs =>
    exact decode_rdRs2 names_raw names_raw rfl rfl
  | ILLTRAP => exact decode_illtrap rfl
  | BPN | BPE | BPLE | BPL | BPLEU | BPCS | BPNEG | BPVS | BPA | BPNE | BPG | BPGE | BPGU | BPCC | BPPOS | BPVC =>
    exact decode_bpcc rfl rfl
  | BN | BE | BLE | BL | BLEU | BCS | BNEG | BVS | BA | BNE | BG | BGE | BGU | BCC | BPOS | BVC =>
    exact decode_bicc rfl rfl
  | BRZ | BRLEZ | BRLZ | BRNZ | BRGZ | BRGEZ => exact decode_bpr rfl rfl
  | CWBE | CWBLE | CWBL | CWBLEU | CWBCS | CWBNEG | CWBVS | CWBNE | CWBG | CWBGE | CWBGU | CWBCC | CWBPOS | CWBVC =>
    exact decode_cwb rfl rfl
  | CXBE | CXBLE | CXBL | CXBLEU | CXBCS | CXBNEG | CXBVS | CXBNE | CXBG | CXBGE | CXBGU | CXBCC | CXBPOS | CXBVC =>
    exact decode_cxb rfl rfl
  | FBPN | FBPNE | FBPLG | FBPUL | FBPL | FBPUG | FBPG | FBPU | FBPA | FBPE | FBPUE | FBPGE | FBPUGE | FBPLE | FBPULE
    | FBPO =>
    exact decode_fbpfcc rfl rfl
  | FBN | FBNE | FBLG | FBUL | FBL | FBUG | FBG | FBU | FBA | FBE | FBUE | FBGE | FBUGE | FBLE | FBULE | FBO =>
    exact decode_fbfcc rfl rfl
  | CALL => exact decode_call _
  | RETURN => exact decode_return rfl
  | TN | TE | TLE | TL | TLEU | TCS | TNEG | TVS | TA | TNE | TG | TGE | TGU | TCC | TPOS | TVC =>
    exact decode_tcc rfl rfl
  | MEMBAR => exact decode_membar rfl
  | FLUSH => exact decode_flush rfl
  | LDUW | LDUB | LDUH | STW | STB | STH | LDSW | LDSB | LDSH | LDX | LDSTUB | STX | SWAP | LDF | STF =>
    exact decode_mem rfl rfl
  | LDTW => exact decode_ldtw h rfl
  | STTW => exact decode_sttw h rfl
  | LDUWA | LDUBA | LDUHA | STWA | STBA | STHA | LDSWA | LDSBA | LDSHA | LDXA | LDSTUBA | STXA | SWAPA | LDFA | STFA
    =>
    exact decode_memAlt rfl rfl rfl rfl
  | LDTWA => exact decode_ldtwa h rfl
  | STTWA => exact decode_sttwa h rfl
  | LDTXA => exact decode_ldtxa h rfl
  | PREFETCH => exact decode_prefetch h rfl
  | CASA => exact decode_casa rfl
  | PREFETCHA => exact decode_prefetcha h rfl
  | CASXA => exact decode_casxa rfl
  | LDFSR | LDXFSR | LDXEFSR | STFSR | STXFSR => exact decode_fsr rfl rfl
  | LDQF | LDDF | STQF | STDF => exact decode_memD rfl rfl rfl
  | LDQFA | STQFA => exact decode_memAltD rfl rfl rfl rfl rfl
  | LDDFA => exact decode_lddfa h rfl
  | LDBLOCKF => exact decode_ldblockf h rfl
  | LDSHORTF => exact decode_ldshortf h rfl
  | STDFA => exact decode_stdfa h rfl
  | STBLOCKF => exact decode_stblockf h rfl
  | STPARTIALF => exact decode_stpartialf h rfl
  | STSHORTF => exact decode_stshortf h rfl
  | RDY | RDCCR | RDASI | RDTICK | RDPC | RDFPRS | RDGSR | RDSOFTINT | RDSTICK | RDSTICK_CMPR | RDCFR =>
    exact decode_rdasr rfl (by decide) rfl
  | RDPR_TPC | RDPR_TNPC | RDPR_TSTATE | RDPR_TT | RDPR_TICK | RDPR_TBA | RDPR_PSTATE | RDPR_TL | RDPR_PIL | RDPR_CWP
    | RDPR_CANSAVE | RDPR_CANRESTORE | RDPR_CLEANWIN | RDPR_OTHERWIN | RDPR_WSTATE | RDPR_GL =>
    exact decode_rdpr rfl rfl
  | WRY | WRCCR | WRASI | WRFPRS | WRGSR | WRSOFTINT_SET | WRSOFTINT_CLR | WRSOFTINT | WRSTICK_CMPR =>
    exact decode_wrasr rfl rfl
  | WRPAUSE => exact decode_wrpause h rfl
  | PAUSE => exact decode_pause rfl
  | WRMWAIT => exact decode_wrmwait h rfl
  | MWAIT => exact decode_mwait rfl
  | WRPR_TPC | WRPR_TNPC | WRPR_TSTATE | WRPR_TT | WRPR_TBA | WRPR_PSTATE | WRPR_TL | WRPR_PIL | WRPR_CWP |
    WRPR_CANSAVE | WRPR_CANRESTORE | WRPR_CLEANWIN | WRPR_OTHERWIN | WRPR_WSTATE | WRPR_GL =>
    exact decode_wrpr rfl rfl
  | SIAM => exact decode_siam rfl
  | FMOVd | FMOVq | FNEGd | FNEGq | FABSd | FABSq | FSQRTd | FSQRTq | FdTOx | FqTOx | FxTOd | FxTOq | FqTOd | FdTOq |
    FNOT2d | FSRC2d =>
    exact decode_rdRs2 names_dreg names_dreg rfl rfl
  | FADDd | FADDq | FSUBd | FSUBq | FMULd | FMULq | FDIVd | FDIVq | FNADDd | FNMULd | FHADDd | FHSUBd | FdMULq |
    FNHADDd | FSLL16 | FSRL16 | FSLL32 | FSRL32 | FSLAS16 | FSRA16 | FSLAS32 | FSRA32 | FMUL8SUx16 | FMUL8ULx16 |
    FPACK32 | PDIST | FMEAN16 | FPADD64 | FCHKSM16 | FPSUB64 | FALIGNDATAg | BSHUFFLE | FPADD16 | FPADD32 | FPSUB16 |
    FPSUB32 | FPADDS16 | FPADDS32 | FPSUBS16 | FPSUBS32 | FNORd | FANDNOT2d | FANDNOT1d | FXORd | FNANDd | FANDd |
    FXNORd | FORNOT2d | FORNOT1d | FORd | FPMIN8 | FPMIN16 | FPMIN32 | FPMAX8 | FPMAX16 | FPMAX32 | FPADDUS16 | FPADD8
    | FPADDS8 | FPADDUS8 | FPSUBUS16 | FPSUB8 | FPSUBS8 | FPSUBUS8 | FPMINU8 | FPMINU16 | FPMINU32 | FPMAXU8 |
    FPMAXU16 | FPMAXU32 | AES_KEXPAND0 | AES_KEXPAND2 | CAMELLIA_FL | CAMELLIA_FLI | CRC32C =>
    exact decode_three names_dreg names_dreg names_dreg rfl rfl
  | FsMULd | FNsMULd | FMUL8x16AU | FMUL8x16AL | FMULD8SUx16 | FMULD8ULx16 | FPMERGE =>
    exact decode_three names_dreg names_raw names_raw rfl rfl
  | FsTOx | FiTOd | FsTOd | FiTOq | FsTOq | FEXPAND | MOVxTOd => exact decode_rdRs2 names_dreg names_raw rfl rfl
  | FxTOs | FdTOs | FqTOs | FdTOi | FqTOi | FPACK16 | FPACKFIX | MOVdTOx =>
    exact decode_rdRs2 names_raw names_dreg rfl rfl
  | FMOVSfcc0 | FMOVSfcc1 | FMOVSfcc2 | FMOVSfcc3 => exact decode_fmovFcc names_raw rfl rfl rfl rfl rfl
  | FMOVDfcc0 | FMOVQfcc0 | FMOVDfcc1 | FMOVQfcc1 | FMOVDfcc2 | FMOVQfcc2 | FMOVDfcc3 | FMOVQfcc3 =>
    exact decode_fmovFcc names_dreg rfl rfl rfl rfl rfl
  | FMOVSicc | FMOVSxcc => exact decode_fmovIcc names_raw rfl rfl rfl rfl rfl rfl
  | FMOVDicc | FMOVQicc | FMOVDxcc | FMOVQxcc => exact decode_fmovIcc names_dreg rfl rfl rfl rfl rfl rfl
  | FCMPs | FCMPEs | FLCMPs => exact decode_fcmp names_raw rfl rfl
  | FCMPd | FCMPq | FCMPEd | FCMPEq | FLCMPd => exact decode_fcmp names_dreg rfl rfl
  | FMOVRsZ | FMOVRsLEZ | FMOVRsLZ | FMOVRsNZ | FMOVRsGZ | FMOVRsGEZ => exact decode_fmovr names_raw rfl rfl rfl rfl
  | FMOVRdZ | FMOVRqZ | FMOVRdLEZ | FMOVRqLEZ | FMOVRdLZ | FMOVRqLZ | FMOVRdNZ | FMOVRqNZ | FMOVRdGZ | FMOVRqGZ |
    FMOVRdGEZ | FMOVRqGEZ =>
    exact decode_fmovr names_dreg rfl rfl rfl rfl
  | FMADDs | FMSUBs | FNMSUBs | FNMADDs => exact decode_four names_raw names_raw rfl rfl
  | FMADDd | FMSUBd | FNMSUBd | FNMADDd | FPMADDX | FPMADDXHI | AES_EROUND01 | AES_EROUND23 | AES_DROUND01 |
    AES_DROUND23 | AES_EROUND01_LAST | AES_EROUND23_LAST | AES_DROUND01_LAST | AES_DROUND23_LAST | DES_ROUND |
    CAMELLIA_F =>
    exact decode_four names_dreg names_dreg rfl rfl
  | CMASK8 | CMASK16 | CMASK32 => exact decode_rs2Only rfl rfl
  | FPCMPLE16 | FPCMPNE16 | FPCMPLE32 | FPCMPNE32 | FPCMPGT16 | FPCMPEQ16 | FPCMPGT32 | FPCMPEQ32 | FPCMPLE8 |
    FPCMPGT8 | PDISTN | FPCMPULE8 | FPCMPNE8 | FPCMPUGT8 | FPCMPEQ8 | FPCMPUGT16 | FPCMPUGT32 | FPCMPULE16 |
    FPCMPULE32 =>
    exact decode_three names_raw names_dreg names_dreg rfl rfl
  | FMUL8x16 | FALIGNDATAi => exact decode_three names_dreg names_raw names_dreg rfl rfl
  | FZEROd | FONEd => exact decode_rdOnly names_dreg rfl rfl
  | FZEROs | FONEs => exact decode_rdOnly names_raw rfl rfl
  | FNOT1d | FSRC1d | DES_IP | DES_IIP => exact decode_rdRs1 names_dreg names_dreg rfl rfl
  | FNOT1s | FSRC1s => exact decode_rdRs1 names_raw names_raw rfl rfl
  | DES_KEXPAND => exact decode_three names_dreg names_dreg names_raw rfl rfl
  | MD5 => exact decode_noOperands (op3 := 0x36) (opf := 320) rfl rfl
  | SHA1 => exact decode_noOperands (op3 := 0x36) (opf := 321) rfl rfl
  | SHA256 => exact decode_noOperands (op3 := 0x36) (opf := 322) rfl rfl
  | SHA512 => exact decode_noOperands (op3 := 0x36) (opf := 323) rfl rfl
  | MPMUL | MONTMUL | MONTSQR => exact decode_mp rfl rfl rfl
  | XMPMUL | XMONTMUL | XMONTSQR => exact decode_xmp rfl rfl rfl
  | AES_KEXPAND1 => exact decode_four names_dreg names_raw rfl rfl

/-- Settles O1: by the form of the instruction, each form's fields are read back and its opcode has one row. -/
theorem decodeOfEncode : Obligations.DecodeOfEncode := decode_encode

end Sys2Proof
end
section
/-!
PROOF. Every row of an opcode map is the encoding of its instruction: for each map, the word that a row's opcode and
operands make up.
-/

namespace Sys2Proof

open Sys2Proof.Machine

/-- The word is the encoding of the instruction, and the instruction is well formed. -/
def Codes (i : Instr) (w : Word32) : Prop := encode i = w ∧ wellFormed i = true

theorem Codes.of_eq {i : Instr} {w v : Word32} (h : Codes i v) (hw : w = v) : Codes i w := hw ▸ h

theorem eq_ofNat_of_toNat {k n : Nat} {x : BitVec k} (h : x.toNat = n) : x = BitVec.ofNat k n := by
  rw [← h, BitVec.ofNat_toNat, BitVec.setWidth_eq]

/-! ## Format 2 -/

theorem bpccTable_codes : ∀ r ∈ bpccTable.zipIdx, ∀ a cc p disp,
    Codes (r.1 a cc p disp) (encBranch19 a (BitVec.ofNat 4 r.2) 1 (iccField cc) p disp) := by
  unfold bpccTable
  repeat refine List.forall_mem_cons.2 ⟨fun _ _ _ _ => ⟨rfl, rfl⟩, ?_⟩
  exact List.forall_mem_nil _

theorem fbpfccTable_codes : ∀ r ∈ fbpfccTable.zipIdx, ∀ a cc p disp,
    Codes (r.1 a cc p disp) (encBranch19 a (BitVec.ofNat 4 r.2) 5 cc p disp) := by
  unfold fbpfccTable
  repeat refine List.forall_mem_cons.2 ⟨fun _ _ _ _ => ⟨rfl, rfl⟩, ?_⟩
  exact List.forall_mem_nil _

theorem biccTable_codes : ∀ r ∈ biccTable.zipIdx, ∀ a disp,
    Codes (r.1 a disp) (encBranch22 a (BitVec.ofNat 4 r.2) 2 disp) := by
  unfold biccTable
  repeat refine List.forall_mem_cons.2 ⟨fun _ _ => ⟨rfl, rfl⟩, ?_⟩
  exact List.forall_mem_nil _

theorem fbfccTable_codes : ∀ r ∈ fbfccTable.zipIdx, ∀ a disp,
    Codes (r.1 a disp) (encBranch22 a (BitVec.ofNat 4 r.2) 6 disp) := by
  unfold fbfccTable
  repeat refine List.forall_mem_cons.2 ⟨fun _ _ => ⟨rfl, rfl⟩, ?_⟩
  exact List.forall_mem_nil _

theorem bprTable_codes : ∀ r ∈ bprTable, ∀ a p rs1 d16,
    Codes (r.2 a p rs1 d16) (encBranchReg a (BitVec.ofNat 3 r.1) p rs1 d16) := by
  unfold bprTable
  repeat refine List.forall_mem_cons.2 ⟨fun _ _ _ _ => ⟨rfl, rfl⟩, ?_⟩
  exact List.forall_mem_nil _

theorem cwbTable_codes : ∀ r ∈ cwbTable, ∀ rs1 x d10,
    Codes (r.2 rs1 x d10) (encCompareBranch 0 (BitVec.ofNat 4 r.1) rs1 x d10) := by
  unfold cwbTable
  repeat refine List.forall_mem_cons.2 ⟨fun _ _ _ => ⟨rfl, rfl⟩, ?_⟩
  exact List.forall_mem_nil _

theorem cxbTable_codes : ∀ r ∈ cxbTable, ∀ rs1 x d10,
    Codes (r.2 rs1 x d10) (encCompareBranch 1 (BitVec.ofNat 4 r.1) rs1 x d10) := by
  unfold cxbTable
  repeat refine List.forall_mem_cons.2 ⟨fun _ _ _ => ⟨rfl, rfl⟩, ?_⟩
  exact List.forall_mem_nil _

/-! ## Format 3, op = 10, without opf -/

theorem arithTable_codes : ∀ r ∈ arithTable, ∀ rd rs1 x,
    Codes (r.2 rd rs1 x) (fmt3 2 rd (BitVec.ofNat 6 r.1) rs1 (regImmField x)) := by
  unfold arithTable
  repeat refine List.forall_mem_cons.2 ⟨fun _ _ _ => ⟨rfl, rfl⟩, ?_⟩
  exact List.forall_mem_nil _

theorem tccTable_codes : ∀ r ∈ tccTable.zipIdx, ∀ cc rs1 x,
    Codes (r.1 cc rs1 x) (encTcc (BitVec.ofNat 4 r.2) (iccField cc) rs1 x) := by
  unfold tccTable
  repeat refine List.forall_mem_cons.2 ⟨fun _ _ _ => ⟨rfl, rfl⟩, ?_⟩
  exact List.forall_mem_nil _

theorem movrTable_codes : ∀ r ∈ movrTable, ∀ rd rs1 x,
    Codes (r.2 rd rs1 x) (encMovr rd rs1 (BitVec.ofNat 3 r.1) x) := by
  unfold movrTable
  repeat refine List.forall_mem_cons.2 ⟨fun _ _ _ => ⟨rfl, rfl⟩, ?_⟩
  exact List.forall_mem_nil _

theorem rdasrTable_codes : ∀ r ∈ rdasrTable, ∀ rd,
    Codes (r.2 rd) (fmt3 2 rd 0x28 (BitVec.ofNat 5 r.1) 0) := by
  unfold rdasrTable
  repeat refine List.forall_mem_cons.2 ⟨fun _ => ⟨rfl, rfl⟩, ?_⟩
  exact List.forall_mem_nil _

theorem rdprTable_codes : ∀ r ∈ rdprTable, ∀ rd,
    Codes (r.2 rd) (fmt3 2 rd 0x2A (BitVec.ofNat 5 r.1) 0) := by
  unfold rdprTable
  repeat refine List.forall_mem_cons.2 ⟨fun _ => ⟨rfl, rfl⟩, ?_⟩
  exact List.forall_mem_nil _

theorem wrasrTable_codes : ∀ r ∈ wrasrTable, ∀ rs1 x,
    Codes (r.2 rs1 x) (fmt3 2 (BitVec.ofNat 5 r.1) 0x30 rs1 (regImmField x)) := by
  unfold wrasrTable
  repeat refine List.forall_mem_cons.2 ⟨fun _ _ => ⟨rfl, rfl⟩, ?_⟩
  exact List.forall_mem_nil _

theorem wrprTable_codes : ∀ r ∈ wrprTable, ∀ rs1 x,
    Codes (r.2 rs1 x) (fmt3 2 (BitVec.ofNat 5 r.1) 0x32 rs1 (regImmField x)) := by
  unfold wrprTable
  repeat refine List.forall_mem_cons.2 ⟨fun _ _ => ⟨rfl, rfl⟩, ?_⟩
  exact List.forall_mem_nil _

theorem windowFcnTable_codes : ∀ r ∈ windowFcnTable,
    Codes r.2 (fmt3 2 (BitVec.ofNat 5 r.1) 0x31 0 0) := by
  unfold windowFcnTable
  repeat refine List.forall_mem_cons.2 ⟨⟨rfl, rfl⟩, ?_⟩
  exact List.forall_mem_nil _

theorem shiftTable_codes : ∀ r ∈ shiftTable, ∀ rd rs1,
    (∀ x, Codes (r.2.1 rd rs1 x) (fmt3 2 rd (BitVec.ofNat 6 r.1) rs1 (shift32Field x))) ∧
      ∀ x, Codes (r.2.2 rd rs1 x) (fmt3 2 rd (BitVec.ofNat 6 r.1) rs1 (shift64Field x)) := by
  unfold shiftTable
  repeat refine List.forall_mem_cons.2 ⟨fun _ _ => ⟨fun _ => ⟨rfl, rfl⟩, fun _ => ⟨rfl, rfl⟩⟩, ?_⟩
  exact List.forall_mem_nil _

/-- The constructor of MOVcc is by cc2 :: cc1 :: cc0. -/
theorem movFccTable_codes : ∀ r ∈ movFccTable, ∀ rd cond x,
    Codes (r.2 rd cond x)
      (encMovcc rd (field (BitVec.ofNat 3 r.1) 2 1) (fcondField cond) (field (BitVec.ofNat 3 r.1) 0 2) x) := by
  unfold movFccTable
  repeat refine List.forall_mem_cons.2 ⟨fun _ _ _ => ⟨rfl, rfl⟩, ?_⟩
  exact List.forall_mem_nil _

theorem movIccTable_codes : ∀ r ∈ movIccTable, ∀ rd cond x,
    Codes (r.2 rd cond x)
      (encMovcc rd (field (BitVec.ofNat 3 r.1) 2 1) (icondField cond) (field (BitVec.ofNat 3 r.1) 0 2) x) := by
  unfold movIccTable
  repeat refine List.forall_mem_cons.2 ⟨fun _ _ _ => ⟨rfl, rfl⟩, ?_⟩
  exact List.forall_mem_nil _

/-! ## Format 3, op = 11 -/

theorem memTable_codes : ∀ r ∈ memTable, ∀ rd rs1 x,
    Codes (r.2 rd rs1 x) (fmt3 3 rd (BitVec.ofNat 6 r.1) rs1 (regImmField x)) := by
  unfold memTable
  repeat refine List.forall_mem_cons.2 ⟨fun _ _ _ => ⟨rfl, rfl⟩, ?_⟩
  exact List.forall_mem_nil _

theorem memDTable_codes : ∀ r ∈ memDTable, ∀ rd rs1 x,
    Codes (r.2 rd rs1 x) (fmt3 3 (dregField rd) (BitVec.ofNat 6 r.1) rs1 (regImmField x)) := by
  unfold memDTable
  repeat refine List.forall_mem_cons.2 ⟨fun _ _ _ => ⟨rfl, rfl⟩, ?_⟩
  exact List.forall_mem_nil _

theorem memAltTable_codes : ∀ r ∈ memAltTable, ∀ rd rs1 addr,
    Codes (r.2 rd rs1 addr) (fmt3 3 rd (BitVec.ofNat 6 r.1) rs1 (altField addr)) := by
  unfold memAltTable
  repeat refine List.forall_mem_cons.2 ⟨fun _ _ _ => ⟨rfl, rfl⟩, ?_⟩
  exact List.forall_mem_nil _

theorem memAltDTable_codes : ∀ r ∈ memAltDTable, ∀ rd rs1 addr,
    Codes (r.2 rd rs1 addr) (fmt3 3 (dregField rd) (BitVec.ofNat 6 r.1) rs1 (altField addr)) := by
  unfold memAltDTable
  repeat refine List.forall_mem_cons.2 ⟨fun _ _ _ => ⟨rfl, rfl⟩, ?_⟩
  exact List.forall_mem_nil _

end Sys2Proof
end
section
/-!
PROOF. Every row of an opcode map by opf or by op5 reads the words of one instruction.
-/

namespace Sys2Proof

open Sys2Proof.Machine

/-! ## Rows by opf -/

/-- What the row reads from a word of its opcode is coded by the word. -/
def OpfRow (op3 : BitVec 6) (r : Nat × (Word32 → Option Instr)) : Prop :=
  ∀ w i, field w 30 2 = 2 → field w 19 6 = op3 → opfF w = r.1 → r.2 w = some i → Codes i w

theorem eq_fmtOpf {w : Word32} {op3 : BitVec 6} {n : Nat} {rd rs1 rs2 : BitVec 5} (hop : field w 30 2 = 2)
    (hop3 : field w 19 6 = op3) (hopf : opfF w = n) (hrd : rdF w = rd) (hrs1 : rs1F w = rs1) (hrs2 : rs2F w = rs2) :
    w = fmtOpf rd op3 rs1 (BitVec.ofNat 9 n) rs2 := by
  exact eq_fmtOpf_iff.2 ⟨hop, hop3, opfF_eq.2 (eq_ofNat_of_toNat hopf), hrd, hrs1, hrs2⟩

section
variable {c c' d d' e e' : BitVec 5 → BitVec 5} {op3 : BitVec 6} {n : Nat}

theorem three_codes (hc : Names c c') (hd : Names d d') (he : Names e e')
    {k : BitVec 5 → BitVec 5 → BitVec 5 → Instr}
    (h : ∀ rd rs1 rs2, Codes (k rd rs1 rs2) (fmtOpf (c' rd) op3 (d' rs1) (BitVec.ofNat 9 n) (e' rs2)) := by
      exact fun _ _ _ => ⟨rfl, rfl⟩) : OpfRow op3 (n, three c d e k) := by
  intro w i hop hop3 hopf hread
  obtain ⟨rd, rs1, rs2, rfl, hrd, hrs1, hrs2⟩ := (three_eq_some hc hd he).1 hread
  exact (h rd rs1 rs2).of_eq (eq_fmtOpf hop hop3 hopf hrd hrs1 hrs2)

theorem rdRs2_codes (hc : Names c c') (he : Names e e') {k : BitVec 5 → BitVec 5 → Instr}
    (h : ∀ rd rs2, Codes (k rd rs2) (fmtOpf (c' rd) op3 0 (BitVec.ofNat 9 n) (e' rs2)) := by
      exact fun _ _ => ⟨rfl, rfl⟩) : OpfRow op3 (n, rdRs2 c e k) := by
  intro w i hop hop3 hopf hread
  obtain ⟨rd, rs2, rfl, hrd, hrs1, hrs2⟩ := (rdRs2_eq_some hc he).1 hread
  exact (h rd rs2).of_eq (eq_fmtOpf hop hop3 hopf hrd hrs1 hrs2)

theorem rdRs1_codes (hc : Names c c') (hd : Names d d') {k : BitVec 5 → BitVec 5 → Instr}
    (h : ∀ rd rs1, Codes (k rd rs1) (fmtOpf (c' rd) op3 (d' rs1) (BitVec.ofNat 9 n) 0) := by
      exact fun _ _ => ⟨rfl, rfl⟩) : OpfRow op3 (n, rdRs1 c d k) := by
  intro w i hop hop3 hopf hread
  obtain ⟨rd, rs1, rfl, hrd, hrs1, hrs2⟩ := (rdRs1_eq_some hc hd).1 hread
  exact (h rd rs1).of_eq (eq_fmtOpf hop hop3 hopf hrd hrs1 hrs2)

theorem rdOnly_codes (hc : Names c c') {k : BitVec 5 → Instr}
    (h : ∀ rd, Codes (k rd) (fmtOpf (c' rd) op3 0 (BitVec.ofNat 9 n) 0) := by exact fun _ => ⟨rfl, rfl⟩) :
    OpfRow op3 (n, rdOnly c k) := by
  intro w i hop hop3 hopf hread
  obtain ⟨rd, rfl, hrd, hrs1, hrs2⟩ := (rdOnly_eq_some hc).1 hread
  exact (h rd).of_eq (eq_fmtOpf hop hop3 hopf hrd hrs1 hrs2)

theorem rs2Only_codes {k : BitVec 5 → Instr}
    (h : ∀ rs2, Codes (k rs2) (fmtOpf 0 op3 0 (BitVec.ofNat 9 n) rs2) := by exact fun _ => ⟨rfl, rfl⟩) :
    OpfRow op3 (n, rs2Only k) := by
  intro w i hop hop3 hopf hread
  obtain ⟨rs2, rfl, hrd, hrs1, hrs2⟩ := rs2Only_eq_some.1 hread
  exact (h rs2).of_eq (eq_fmtOpf hop hop3 hopf hrd hrs1 hrs2)

theorem noOperands_codes {k : Instr}
    (h : Codes k (fmtOpf 0 op3 0 (BitVec.ofNat 9 n) 0) := by exact ⟨rfl, rfl⟩) : OpfRow op3 (n, noOperands k) := by
  intro w i hop hop3 hopf hread
  obtain ⟨rfl, hrd, hrs1, hrs2⟩ := noOperands_eq_some.1 hread
  exact h.of_eq (eq_fmtOpf hop hop3 hopf hrd hrs1 hrs2)

theorem fcmp_codes (hc : Names c c') {k : BitVec 2 → BitVec 5 → BitVec 5 → Instr}
    (h : ∀ cc rs1 rs2, Codes (k cc rs1 rs2) (fmtOpf (0#3 ++ cc) op3 (c' rs1) (BitVec.ofNat 9 n) (c' rs2)) := by
      exact fun _ _ _ => ⟨rfl, rfl⟩) : OpfRow op3 (n, fcmp c k) := by
  intro w i hop hop3 hopf hread
  obtain ⟨cc, rs1, rs2, rfl, hrd, hrs1, hrs2⟩ := (fcmp_eq_some hc).1 hread
  exact (h cc rs1 rs2).of_eq (eq_fmtOpf hop hop3 hopf hrd hrs1 hrs2)

end

theorem siam_codes : OpfRow 0x36 (0x81, siam) := by
  intro w i hop hop3 hopf hread
  obtain ⟨mode, rfl, hrd, hrs1, hrs2⟩ := siam_eq_some.1 hread
  exact ⟨(eq_siam_iff.2 (eq_fmtOpf hop hop3 hopf hrd hrs1 hrs2)).symm, rfl⟩

theorem fpop1Table_codes : ∀ r ∈ fpop1Table, OpfRow 0x34 r := by
  simp only [fpop1Table, List.forall_mem_cons]
  exact ⟨rdRs2_codes names_raw names_raw, rdRs2_codes names_dreg names_dreg, rdRs2_codes names_dreg names_dreg,
    rdRs2_codes names_raw names_raw, rdRs2_codes names_dreg names_dreg, rdRs2_codes names_dreg names_dreg,
    rdRs2_codes names_raw names_raw, rdRs2_codes names_dreg names_dreg, rdRs2_codes names_dreg names_dreg,
    rdRs2_codes names_raw names_raw, rdRs2_codes names_dreg names_dreg, rdRs2_codes names_dreg names_dreg,
    three_codes names_raw names_raw names_raw, three_codes names_dreg names_dreg names_dreg,
    three_codes names_dreg names_dreg names_dreg, three_codes names_raw names_raw names_raw,
    three_codes names_dreg names_dreg names_dreg, three_codes names_dreg names_dreg names_dreg,
    three_codes names_raw names_raw names_raw, three_codes names_dreg names_dreg names_dreg,
    three_codes names_dreg names_dreg names_dreg, three_codes names_raw names_raw names_raw,
    three_codes names_dreg names_dreg names_dreg, three_codes names_dreg names_dreg names_dreg,
    three_codes names_raw names_raw names_raw, three_codes names_dreg names_dreg names_dreg,
    three_codes names_raw names_raw names_raw, three_codes names_dreg names_dreg names_dreg,
    three_codes names_raw names_raw names_raw, three_codes names_dreg names_dreg names_dreg,
    three_codes names_raw names_raw names_raw, three_codes names_dreg names_dreg names_dreg,
    three_codes names_dreg names_raw names_raw, three_codes names_dreg names_dreg names_dreg,
    three_codes names_raw names_raw names_raw, three_codes names_dreg names_dreg names_dreg,
    three_codes names_dreg names_raw names_raw, rdRs2_codes names_dreg names_raw, rdRs2_codes names_dreg names_dreg,
    rdRs2_codes names_dreg names_dreg, rdRs2_codes names_raw names_dreg, rdRs2_codes names_dreg names_dreg,
    rdRs2_codes names_dreg names_dreg, rdRs2_codes names_raw names_raw, rdRs2_codes names_raw names_dreg,
    rdRs2_codes names_raw names_dreg, rdRs2_codes names_dreg names_raw, rdRs2_codes names_dreg names_raw,
    rdRs2_codes names_dreg names_dreg, rdRs2_codes names_dreg names_raw, rdRs2_codes names_dreg names_raw,
    rdRs2_codes names_dreg names_dreg, rdRs2_codes names_raw names_raw, rdRs2_codes names_raw names_dreg,
    rdRs2_codes names_raw names_dreg, fun _ h => absurd h List.not_mem_nil⟩

theorem fcmpTable_codes : ∀ r ∈ fcmpTable, OpfRow 0x35 r := by
  simp only [fcmpTable, List.forall_mem_cons]
  exact ⟨fcmp_codes names_raw, fcmp_codes names_dreg, fcmp_codes names_dreg, fcmp_codes names_raw,
    fcmp_codes names_dreg, fcmp_codes names_dreg, fun _ h => absurd h List.not_mem_nil⟩

theorem visTable1_codes : ∀ r ∈ visTable1, OpfRow 0x36 r := by
  simp only [visTable1, List.forall_mem_cons]
  exact ⟨three_codes names_raw names_raw names_raw, three_codes names_raw names_raw names_raw,
    three_codes names_raw names_raw names_raw, three_codes names_raw names_raw names_raw,
    three_codes names_raw names_raw names_raw, three_codes names_raw names_raw names_raw,
    three_codes names_raw names_raw names_raw, three_codes names_raw names_raw names_raw,
    three_codes names_raw names_raw names_raw, three_codes names_raw names_raw names_raw,
    three_codes names_raw names_raw names_raw, three_codes names_raw names_raw names_raw,
    three_codes names_raw names_raw names_raw, three_codes names_raw names_raw names_raw,
    three_codes names_raw names_raw names_raw, three_codes names_raw names_raw names_raw,
    three_codes names_raw names_raw names_raw, three_codes names_raw names_raw names_raw,
    rdRs2_codes names_raw names_raw, three_codes names_raw names_raw names_raw,
    three_codes names_raw names_raw names_raw, three_codes names_raw names_raw names_raw, rs2Only_codes,
    rs2Only_codes, rs2Only_codes, three_codes names_raw names_dreg names_dreg,
    three_codes names_dreg names_dreg names_dreg, three_codes names_raw names_dreg names_dreg,
    three_codes names_dreg names_dreg names_dreg, three_codes names_raw names_dreg names_dreg,
    three_codes names_dreg names_dreg names_dreg, three_codes names_raw names_dreg names_dreg,
    three_codes names_dreg names_dreg names_dreg, three_codes names_raw names_dreg names_dreg,
    three_codes names_dreg names_dreg names_dreg, three_codes names_raw names_dreg names_dreg,
    three_codes names_dreg names_dreg names_dreg, three_codes names_raw names_dreg names_dreg,
    three_codes names_dreg names_dreg names_dreg, three_codes names_raw names_dreg names_dreg,
    three_codes names_dreg names_dreg names_dreg, three_codes names_dreg names_raw names_dreg,
    three_codes names_dreg names_raw names_raw, three_codes names_raw names_dreg names_dreg,
    three_codes names_dreg names_raw names_raw, three_codes names_dreg names_dreg names_dreg,
    three_codes names_dreg names_dreg names_dreg, three_codes names_dreg names_raw names_raw,
    three_codes names_dreg names_raw names_raw, three_codes names_dreg names_dreg names_dreg,
    rdRs2_codes names_raw names_dreg, three_codes names_raw names_dreg names_dreg, rdRs2_codes names_raw names_dreg,
    three_codes names_dreg names_dreg names_dreg, fun _ h => absurd h List.not_mem_nil⟩

theorem visTable2_codes : ∀ r ∈ visTable2, OpfRow 0x36 r := by
  simp only [visTable2, List.forall_mem_cons]
  exact ⟨three_codes names_raw names_dreg names_dreg, three_codes names_dreg names_dreg names_dreg,
    three_codes names_raw names_raw names_raw, three_codes names_dreg names_dreg names_dreg,
    three_codes names_raw names_raw names_raw, three_codes names_dreg names_dreg names_dreg,
    three_codes names_dreg names_dreg names_dreg, three_codes names_dreg names_dreg names_dreg,
    three_codes names_dreg names_raw names_dreg, three_codes names_dreg names_raw names_raw,
    three_codes names_dreg names_dreg names_dreg, rdRs2_codes names_dreg names_raw,
    three_codes names_dreg names_dreg names_dreg, three_codes names_raw names_raw names_raw,
    three_codes names_dreg names_dreg names_dreg, three_codes names_raw names_raw names_raw,
    three_codes names_dreg names_dreg names_dreg, three_codes names_raw names_raw names_raw,
    three_codes names_dreg names_dreg names_dreg, three_codes names_raw names_raw names_raw,
    three_codes names_dreg names_dreg names_dreg, three_codes names_raw names_raw names_raw,
    three_codes names_dreg names_dreg names_dreg, three_codes names_raw names_raw names_raw,
    three_codes names_dreg names_dreg names_dreg, three_codes names_raw names_raw names_raw,
    three_codes names_dreg names_dreg names_dreg, three_codes names_raw names_raw names_raw,
    rdOnly_codes names_dreg, rdOnly_codes names_raw, three_codes names_dreg names_dreg names_dreg,
    three_codes names_raw names_raw names_raw, three_codes names_dreg names_dreg names_dreg,
    three_codes names_raw names_raw names_raw, rdRs2_codes names_dreg names_dreg, rdRs2_codes names_raw names_raw,
    three_codes names_dreg names_dreg names_dreg, three_codes names_raw names_raw names_raw,
    rdRs1_codes names_dreg names_dreg, rdRs1_codes names_raw names_raw,
    three_codes names_dreg names_dreg names_dreg, three_codes names_raw names_raw names_raw,
    three_codes names_dreg names_dreg names_dreg, three_codes names_raw names_raw names_raw,
    three_codes names_dreg names_dreg names_dreg, three_codes names_raw names_raw names_raw,
    three_codes names_dreg names_dreg names_dreg, three_codes names_raw names_raw names_raw,
    rdRs1_codes names_dreg names_dreg, rdRs1_codes names_raw names_raw,
    three_codes names_dreg names_dreg names_dreg, three_codes names_raw names_raw names_raw,
    rdRs2_codes names_dreg names_dreg, rdRs2_codes names_raw names_raw, fun _ h => absurd h List.not_mem_nil⟩

theorem visTable3_codes : ∀ r ∈ visTable3, OpfRow 0x36 r := by
  simp only [visTable3, List.forall_mem_cons]
  exact ⟨three_codes names_dreg names_dreg names_dreg, three_codes names_raw names_raw names_raw,
    three_codes names_dreg names_dreg names_dreg, three_codes names_raw names_raw names_raw,
    rdOnly_codes names_dreg, rdOnly_codes names_raw, rdRs2_codes names_raw names_dreg,
    rdRs2_codes names_raw names_raw, rdRs2_codes names_raw names_raw, three_codes names_raw names_raw names_raw,
    three_codes names_raw names_raw names_raw, rdRs2_codes names_dreg names_raw, rdRs2_codes names_raw names_raw,
    three_codes names_dreg names_dreg names_dreg, three_codes names_dreg names_dreg names_dreg,
    three_codes names_dreg names_dreg names_dreg, three_codes names_dreg names_dreg names_dreg,
    three_codes names_dreg names_dreg names_dreg, three_codes names_dreg names_dreg names_dreg,
    three_codes names_raw names_dreg names_dreg, three_codes names_raw names_dreg names_dreg,
    three_codes names_dreg names_dreg names_dreg, three_codes names_dreg names_dreg names_dreg,
    three_codes names_dreg names_dreg names_dreg, three_codes names_dreg names_dreg names_dreg,
    three_codes names_raw names_dreg names_dreg, three_codes names_raw names_dreg names_dreg,
    three_codes names_raw names_dreg names_dreg, three_codes names_raw names_dreg names_dreg,
    three_codes names_raw names_dreg names_dreg, three_codes names_raw names_dreg names_dreg,
    three_codes names_dreg names_dreg names_dreg, three_codes names_dreg names_dreg names_dreg,
    rdRs1_codes names_dreg names_dreg, rdRs1_codes names_dreg names_dreg,
    three_codes names_dreg names_dreg names_raw, three_codes names_dreg names_dreg names_dreg,
    three_codes names_dreg names_dreg names_dreg, noOperands_codes, noOperands_codes, noOperands_codes,
    noOperands_codes, three_codes names_dreg names_dreg names_dreg, fcmp_codes names_raw, fcmp_codes names_dreg,
    three_codes names_dreg names_dreg names_dreg, three_codes names_dreg names_dreg names_dreg,
    three_codes names_dreg names_dreg names_dreg, three_codes names_dreg names_dreg names_dreg,
    three_codes names_dreg names_dreg names_dreg, three_codes names_dreg names_dreg names_dreg,
    three_codes names_dreg names_dreg names_dreg, three_codes names_dreg names_dreg names_dreg,
    three_codes names_dreg names_dreg names_dreg, three_codes names_dreg names_dreg names_dreg, siam_codes,
    fun _ h => absurd h List.not_mem_nil⟩

theorem visTable_codes : ∀ r ∈ visTable, OpfRow 0x36 r := by
  unfold visTable
  simp only [List.forall_mem_append]
  exact ⟨⟨visTable1_codes, visTable2_codes⟩, visTable3_codes⟩

/-! ## FMOVR, FMOVcc and the multiple-precision instructions -/

/-- A row of FMOVR or FMOVcc: the fields of its registers are those that bits 1:0 of its opf say, and `field1` is the
field of its condition. -/
def FMovRow {α : Type} (field1 : α → BitVec 5) (r : Nat × (FReg → α → FReg → Instr)) : Prop :=
  ∃ write, Names (movReads (BitVec.ofNat 9 r.1)) write ∧ ∀ rd x rs2,
    Codes (r.2 rd x rs2) (fmtOpf (write rd) 0x35 (field1 x) (BitVec.ofNat 9 r.1) (write rs2))

theorem fmovrTable_codes : ∀ r ∈ fmovrTable, FMovRow (fun rs1 => rs1) r := by
  unfold fmovrTable
  repeat refine
    List.forall_mem_cons.2 ⟨⟨raw, names_raw, fun _ _ _ => ⟨rfl, rfl⟩⟩,
      List.forall_mem_cons.2 ⟨⟨dregField, names_dreg, fun _ _ _ => ⟨rfl, rfl⟩⟩,
        List.forall_mem_cons.2 ⟨⟨dregField, names_dreg, fun _ _ _ => ⟨rfl, rfl⟩⟩, ?_⟩⟩⟩
  exact List.forall_mem_nil _

theorem fmovFccTable_codes : ∀ r ∈ fmovFccTable, FMovRow (fun cond => 0#1 ++ fcondField cond) r := by
  unfold fmovFccTable
  repeat refine
    List.forall_mem_cons.2 ⟨⟨raw, names_raw, fun _ _ _ => ⟨rfl, rfl⟩⟩,
      List.forall_mem_cons.2 ⟨⟨dregField, names_dreg, fun _ _ _ => ⟨rfl, rfl⟩⟩,
        List.forall_mem_cons.2 ⟨⟨dregField, names_dreg, fun _ _ _ => ⟨rfl, rfl⟩⟩, ?_⟩⟩⟩
  exact List.forall_mem_nil _

theorem fmovIccTable_codes : ∀ r ∈ fmovIccTable, FMovRow (fun cond => 0#1 ++ icondField cond) r := by
  unfold fmovIccTable
  repeat refine
    List.forall_mem_cons.2 ⟨⟨raw, names_raw, fun _ _ _ => ⟨rfl, rfl⟩⟩,
      List.forall_mem_cons.2 ⟨⟨dregField, names_dreg, fun _ _ _ => ⟨rfl, rfl⟩⟩,
        List.forall_mem_cons.2 ⟨⟨dregField, names_dreg, fun _ _ _ => ⟨rfl, rfl⟩⟩, ?_⟩⟩⟩
  exact List.forall_mem_nil _

theorem mpTable_codes : ∀ r ∈ mpTable, ∀ imm5, Codes (r.2 imm5) (fmtOpf 0 0x36 0 (BitVec.ofNat 9 r.1) imm5) := by
  unfold mpTable
  repeat refine List.forall_mem_cons.2 ⟨fun _ => ⟨rfl, rfl⟩, ?_⟩
  exact List.forall_mem_nil _

theorem xmpTable_codes : ∀ r ∈ xmpTable, ∀ imm5, Codes (r.2 imm5) (fmtOpf 1 0x36 0 (BitVec.ofNat 9 r.1) imm5) := by
  unfold xmpTable
  repeat refine List.forall_mem_cons.2 ⟨fun _ => ⟨rfl, rfl⟩, ?_⟩
  exact List.forall_mem_nil _

/-! ## Rows by op5 -/

/-- What the row reads from a word of its opcode is coded by the word. -/
def Op5Row (op3 : BitVec 6) (r : Nat × (Word32 → Option Instr)) : Prop :=
  ∀ w i, field w 30 2 = 2 → field w 19 6 = op3 → (field w 5 4).toNat = r.1 → r.2 w = some i → Codes i w

theorem four_codes {c c' d d' : BitVec 5 → BitVec 5} {op3 : BitVec 6} {n : Nat} (hc : Names c c') (hd : Names d d')
    {k : BitVec 5 → BitVec 5 → BitVec 5 → BitVec 5 → Instr}
    (h : ∀ rd rs1 rs2 rs3, Codes (k rd rs1 rs2 rs3)
      (fmt5 (c' rd) op3 (c' rs1) (d' rs3) (BitVec.ofNat 4 n) (c' rs2)) := by
      exact fun _ _ _ _ => ⟨rfl, rfl⟩) : Op5Row op3 (n, four c d k) := by
  intro w i hop hop3 hop5 hread
  obtain ⟨rd, rs1, rs2, rs3, rfl, hrd, hrs1, hrs2, hrs3⟩ := (four_eq_some hc hd).1 hread
  exact (h rd rs1 rs2 rs3).of_eq (eq_fmt5_iff.2 ⟨hop, hop3, eq_ofNat_of_toNat hop5, hrd, hrs1, hrs2, hrs3⟩)

theorem fmaTable_codes : ∀ r ∈ fmaTable, Op5Row 0x37 r := by
  simp only [fmaTable, List.forall_mem_cons]
  exact ⟨four_codes names_dreg names_dreg, four_codes names_dreg names_dreg, four_codes names_raw names_raw,
    four_codes names_dreg names_dreg, four_codes names_raw names_raw, four_codes names_dreg names_dreg,
    four_codes names_raw names_raw, four_codes names_dreg names_dreg, four_codes names_raw names_raw,
    four_codes names_dreg names_dreg, fun _ h => absurd h List.not_mem_nil⟩

theorem cryptoTable_codes : ∀ r ∈ cryptoTable, Op5Row 0x19 r := by
  simp only [cryptoTable, List.forall_mem_cons]
  exact ⟨four_codes names_dreg names_dreg, four_codes names_dreg names_dreg, four_codes names_dreg names_dreg,
    four_codes names_dreg names_dreg, four_codes names_dreg names_dreg, four_codes names_dreg names_dreg,
    four_codes names_dreg names_dreg, four_codes names_dreg names_dreg, four_codes names_dreg names_dreg,
    four_codes names_dreg names_dreg, four_codes names_dreg names_raw, fun _ h => absurd h List.not_mem_nil⟩

end Sys2Proof
end
section
/-!
PROOF. Every word that decodes is the encoding of a well-formed instruction: the parts of the decoder, opcode by opcode.
-/

namespace Sys2Proof

open Sys2Proof.Machine

/-! ## Conditions -/

theorem iccField_of_iccSelOf {x : BitVec 2} {cc : IccSel} (h : iccSelOf x = some cc) : x = iccField cc := by
  unfold iccSelOf at h
  split_ifs at h with h0 h2
  · cases h; exact h0
  · cases h; exact h2

theorem icondField_icondOf (x : BitVec 4) : icondField (icondOf x) = x := by revert x; decide

theorem fcondField_fcondOf (x : BitVec 4) : fcondField (fcondOf x) = x := by revert x; decide

/-! ## Format 2 -/

section
variable {w : Word32} {i : Instr}

theorem codes_illtrap (hop : field w 30 2 = 0) (hop2 : field w 22 3 = 0)
    (h : (if rdF w = 0 then some (.ILLTRAP (field w 0 22)) else none) = some i) : Codes i w := by
  obtain ⟨hrd, h⟩ := Option.ite_none_right_eq_some.1 h
  cases h
  exact Codes.of_eq ⟨rfl, rfl⟩ (eq_fmt2_iff.2 ⟨hop, hrd, hop2, rfl⟩)

theorem codes_sethi (hop : field w 30 2 = 0) (hop2 : field w 22 3 = 4)
    (h : (if w = 0x01000000 then some .NOP else some (.SETHI (rdF w) (field w 0 22))) = some i) : Codes i w := by
  split_ifs at h with hnop
  · cases h
    exact ⟨hnop.symm, rfl⟩
  · cases h
    have hw : w = fmt2 (rdF w) 4 (field w 0 22) := eq_fmt2_iff.2 ⟨hop, rfl, hop2, rfl⟩
    refine ⟨hw.symm, ?_⟩
    change (!(rdF w == 0 && field w 0 22 == 0)) = true
    simp only [Bool.not_eq_true', Bool.and_eq_false_imp, beq_iff_eq, beq_eq_false_iff_ne]
    intro hrd himm
    rw [hrd, himm] at hw
    exact hnop hw

theorem codes_bpcc (hop : field w 30 2 = 0) (hop2 : field w 22 3 = 1)
    (h : ((iccSelOf (field w 20 2)).bind fun cc =>
      (bpccTable[(field w 25 4).toNat]?).map fun k => k (bit w 29) cc (bit w 19) (field w 0 19)) = some i) :
    Codes i w := by
  obtain ⟨cc, hcc, h⟩ := Option.bind_eq_some_iff.1 h
  obtain ⟨k, hk, rfl⟩ := Option.map_eq_some_iff.1 h
  exact (bpccTable_codes _ (List.mk_mem_zipIdx_iff_getElem?.2 hk) _ _ _ _).of_eq (eq_encBranch19_iff.2
    ⟨hop, hop2, rfl, eq_ofNat_of_toNat rfl, iccField_of_iccSelOf hcc, rfl, rfl⟩)

theorem codes_fbpfcc (hop : field w 30 2 = 0) (hop2 : field w 22 3 = 5)
    (h : ((fbpfccTable[(field w 25 4).toNat]?).map fun k => k (bit w 29) (field w 20 2) (bit w 19) (field w 0 19)) =
      some i) : Codes i w := by
  obtain ⟨k, hk, rfl⟩ := Option.map_eq_some_iff.1 h
  exact (fbpfccTable_codes _ (List.mk_mem_zipIdx_iff_getElem?.2 hk) _ _ _ _).of_eq (eq_encBranch19_iff.2
    ⟨hop, hop2, rfl, eq_ofNat_of_toNat rfl, rfl, rfl, rfl⟩)

theorem codes_bicc (hop : field w 30 2 = 0) (hop2 : field w 22 3 = 2)
    (h : ((biccTable[(field w 25 4).toNat]?).map fun k => k (bit w 29) (field w 0 22)) = some i) : Codes i w := by
  obtain ⟨k, hk, rfl⟩ := Option.map_eq_some_iff.1 h
  exact (biccTable_codes _ (List.mk_mem_zipIdx_iff_getElem?.2 hk) _ _).of_eq (eq_encBranch22_iff.2
    ⟨hop, hop2, rfl, eq_ofNat_of_toNat rfl, rfl⟩)

theorem codes_fbfcc (hop : field w 30 2 = 0) (hop2 : field w 22 3 = 6)
    (h : ((fbfccTable[(field w 25 4).toNat]?).map fun k => k (bit w 29) (field w 0 22)) = some i) : Codes i w := by
  obtain ⟨k, hk, rfl⟩ := Option.map_eq_some_iff.1 h
  exact (fbfccTable_codes _ (List.mk_mem_zipIdx_iff_getElem?.2 hk) _ _).of_eq (eq_encBranch22_iff.2
    ⟨hop, hop2, rfl, eq_ofNat_of_toNat rfl, rfl⟩)

theorem codes_bpr (hop : field w 30 2 = 0) (hop2 : field w 22 3 = 3) (hbit : bit w 28 = false)
    (h : ((List.lookup (field w 25 3).toNat bprTable).map fun k =>
      k (bit w 29) (bit w 19) (rs1F w) (field w 20 2 ++ field w 0 14)) = some i) : Codes i w := by
  obtain ⟨k, hk, rfl⟩ := Option.map_eq_some_iff.1 h
  exact (bprTable_codes _ (mem_of_lookup hk) _ _ _ _).of_eq (eq_encBranchReg_iff.2
    ⟨hop, hop2, hbit, eq_ofNat_of_toNat rfl, rfl, rfl, rfl, rfl⟩)

theorem codes_compareBranch (hop : field w 30 2 = 0) (hop2 : field w 22 3 = 3) (hbit : bit w 28 = true)
    (h : ((List.lookup (field w 29 1 ++ field w 25 3).toNat (if bit w 21 then cxbTable else cwbTable)).map fun k =>
      k (rs1F w) (regImm5Of w) (field w 19 2 ++ field w 5 8)) = some i) : Codes i w := by
  obtain ⟨k, hk, rfl⟩ := Option.map_eq_some_iff.1 h
  have hword : ∀ cc2, field w 21 1 = cc2 →
      w = encCompareBranch cc2 (BitVec.ofNat 4 (field w 29 1 ++ field w 25 3).toNat) (rs1F w)
        (regImm5Of w) (field w 19 2 ++ field w 5 8) := fun cc2 hcc2 =>
    eq_encCompareBranch_iff.2 ⟨hop, hop2, hbit, eq_ofNat_of_toNat rfl, hcc2, rfl, rfl, rfl⟩
  split_ifs at hk with hcc2
  · exact (cxbTable_codes _ (mem_of_lookup hk) _ _ _).of_eq (hword 1 (field_one_eq_one.2 hcc2))
  · exact (cwbTable_codes _ (mem_of_lookup hk) _ _ _).of_eq
      (hword 0 (field_one_eq_zero.2 (Bool.eq_false_iff.2 hcc2)))

theorem codes_of_decodeBranch (hop : field w 30 2 = 0) (h : decodeBranch w = some i) : Codes i w := by
  unfold decodeBranch at h
  split at h
  next hop2 => exact codes_illtrap hop (BitVec.eq_of_toNat_eq hop2) h
  next hop2 => exact codes_bpcc hop (BitVec.eq_of_toNat_eq hop2) h
  next hop2 => exact codes_bicc hop (BitVec.eq_of_toNat_eq hop2) h
  next hop2 =>
    split at h
    next hbit => exact codes_compareBranch hop (BitVec.eq_of_toNat_eq hop2) hbit h
    next hbit => exact codes_bpr hop (BitVec.eq_of_toNat_eq hop2) (Bool.eq_false_iff.2 hbit) h
  next hop2 => exact codes_sethi hop (BitVec.eq_of_toNat_eq hop2) h
  next hop2 => exact codes_fbpfcc hop (BitVec.eq_of_toNat_eq hop2) h
  next hop2 => exact codes_fbfcc hop (BitVec.eq_of_toNat_eq hop2) h
  next => cases h

theorem codes_call (hop : field w 30 2 = 1) : Codes (.CALL (field w 0 30)) w :=
  Codes.of_eq ⟨rfl, rfl⟩ ((field_self w).symm.trans ((field_eq_append (m := 2) (n := 30)).2 ⟨hop, rfl⟩))

end

end Sys2Proof
end
section
/-!
PROOF. Every word of op = 10 or 11 that decodes is the encoding of a well-formed instruction.
-/

namespace Sys2Proof

open Sys2Proof.Machine

section
variable {w : Word32} {i : Instr}

/-! ## Format 3, op = 10 -/

theorem codes_of_lookup_opf {op3 : BitVec 6} {table : List (Nat × (Word32 → Option Instr))}
    {k : Word32 → Option Instr} (hrows : ∀ r ∈ table, OpfRow op3 r) (hop : field w 30 2 = 2)
    (hop3 : field w 19 6 = op3) (hk : table.lookup (opfF w) = some k) (h : k w = some i) : Codes i w :=
  hrows _ (mem_of_lookup hk) w i hop hop3 rfl h

theorem codes_of_lookup_op5 {op3 : BitVec 6} {table : List (Nat × (Word32 → Option Instr))}
    (hrows : ∀ r ∈ table, Op5Row op3 r) (hop : field w 30 2 = 2) (hop3 : field w 19 6 = op3)
    (h : ((table.lookup (field w 5 4).toNat).bind fun k => k w) = some i) : Codes i w := by
  obtain ⟨k, hk, h⟩ := Option.bind_eq_some_iff.1 h
  exact hrows _ (mem_of_lookup hk) w i hop hop3 rfl h

theorem codes_arith {n : Nat} (hop : field w 30 2 = 2) (hop3 : (field w 19 6).toNat = n)
    (h : ((arithTable.lookup n).bind fun k => (regImmOf w).map fun op2 => k (rdF w) (rs1F w) op2) = some i) :
    Codes i w := by
  obtain ⟨k, hk, h⟩ := Option.bind_eq_some_iff.1 h
  obtain ⟨x, hx, rfl⟩ := Option.map_eq_some_iff.1 h
  exact (arithTable_codes _ (mem_of_lookup hk) _ _ _).of_eq
    (eq_fmt3_iff.2 ⟨hop, rfl, eq_ofNat_of_toNat hop3, rfl, regImmOf_eq_some.1 hx⟩)

theorem codes_shift {n : Nat} {k32 : Reg → Reg → RegImm 5 → Instr} {k64 : Reg → Reg → RegImm 6 → Instr}
    (hk : shiftTable.lookup n = some (k32, k64)) (hop : field w 30 2 = 2) (hop3 : (field w 19 6).toNat = n)
    (h : (if bit w 12 then (shift64Of w).map (k64 (rdF w) (rs1F w)) else (shift32Of w).map (k32 (rdF w) (rs1F w))) =
      some i) : Codes i w := by
  have hrow := shiftTable_codes _ (mem_of_lookup hk) (rdF w) (rs1F w)
  have hn := eq_ofNat_of_toNat hop3
  split at h
  next hbit =>
    obtain ⟨x, hx, rfl⟩ := Option.map_eq_some_iff.1 h
    exact (hrow.2 x).of_eq (eq_fmt3_iff.2 ⟨hop, rfl, hn, rfl, shift64Of_eq_some.1 ⟨hbit, hx⟩⟩)
  next hbit =>
    obtain ⟨x, hx, rfl⟩ := Option.map_eq_some_iff.1 h
    exact (hrow.1 x).of_eq (eq_fmt3_iff.2 ⟨hop, rfl, hn, rfl, shift32Of_eq_some.1 ⟨Bool.eq_false_iff.2 hbit, hx⟩⟩)

theorem codes_of_decodeRdasr (hop : field w 30 2 = 2) (hop3 : field w 19 6 = 0x28) (h : decodeRdasr w = some i) :
    Codes i w := by
  unfold decodeRdasr at h
  split at h
  next hrs1 =>
    obtain ⟨hrd, h⟩ := Option.ite_none_right_eq_some.1 h
    split at h
    next hbit =>
      obtain ⟨hzero, h⟩ := Option.ite_none_right_eq_some.1 h
      cases h
      exact Codes.of_eq ⟨rfl, rfl⟩ (eq_fmt3_iff.2 ⟨hop, hrd, hop3, hrs1, low_eq_membar.2 ⟨hbit, hzero, rfl, rfl⟩⟩)
    next hbit =>
      obtain ⟨hzero, h⟩ := Option.ite_none_right_eq_some.1 h
      cases h
      have hlow : field w 0 14 = 0 := (field_eq_zero (m := 1) (n := 13)).2
        ⟨field_one_eq_zero.2 (Bool.eq_false_iff.2 hbit), hzero⟩
      exact Codes.of_eq ⟨rfl, rfl⟩ (eq_fmt3_iff.2 ⟨hop, hrd, hop3, hrs1, hlow⟩)
  next =>
    obtain ⟨hlow, h⟩ := Option.ite_none_right_eq_some.1 h
    obtain ⟨k, hk, rfl⟩ := Option.map_eq_some_iff.1 h
    exact (rdasrTable_codes _ (mem_of_lookup hk) _).of_eq
      (eq_fmt3_iff.2 ⟨hop, rfl, hop3, eq_ofNat_of_toNat rfl, hlow⟩)

theorem codes_rdpr (hop : field w 30 2 = 2) (hop3 : field w 19 6 = 0x2A)
    (h : (if field w 0 14 = 0 then (List.lookup (rs1F w).toNat rdprTable).map fun k => k (rdF w) else none) = some i) :
    Codes i w := by
  obtain ⟨hlow, h⟩ := Option.ite_none_right_eq_some.1 h
  obtain ⟨k, hk, rfl⟩ := Option.map_eq_some_iff.1 h
  exact (rdprTable_codes _ (mem_of_lookup hk) _).of_eq
    (eq_fmt3_iff.2 ⟨hop, rfl, hop3, eq_ofNat_of_toNat rfl, hlow⟩)

/-- A word with zero bits 18:0. -/
theorem field19_eq_zero : field w 0 19 = 0 ↔ rs1F w = 0 ∧ field w 0 14 = 0 := field_eq_zero (m := 5) (n := 14)

theorem codes_flushw (hop : field w 30 2 = 2) (hop3 : field w 19 6 = 0x2B)
    (h : (if rdF w = 0 ∧ field w 0 19 = 0 then some .FLUSHW else none) = some i) : Codes i w := by
  obtain ⟨⟨hrd, hzero⟩, h⟩ := Option.ite_none_right_eq_some.1 h
  obtain ⟨hrs1, hlow⟩ := field19_eq_zero.1 hzero
  cases h
  exact Codes.of_eq ⟨rfl, rfl⟩ (eq_fmt3_iff.2 ⟨hop, hrd, hop3, hrs1, hlow⟩)

theorem codes_of_decodeMovcc (hop : field w 30 2 = 2) (hop3 : field w 19 6 = 0x2C) (h : decodeMovcc w = some i) :
    Codes i w := by
  rw [decodeMovcc_eq] at h
  obtain ⟨x, hx, h⟩ := Option.bind_eq_some_iff.1 h
  obtain ⟨hcc2, hcc⟩ := (append_eq_iff (m := 1) (n := 2)).1 (eq_ofNat_of_toNat (x := field w 18 1 ++ field w 11 2) rfl)
  split at h
  next k hk =>
    cases h
    exact (movFccTable_codes _ (mem_of_lookup hk) _ _ _).of_eq
      (eq_encMovcc_iff.2 ⟨hop, hop3, rfl, hcc2, (fcondField_fcondOf _).symm, hx, hcc⟩)
  next =>
    obtain ⟨k, hk, rfl⟩ := Option.map_eq_some_iff.1 h
    exact (movIccTable_codes _ (mem_of_lookup hk) _ _ _).of_eq
      (eq_encMovcc_iff.2 ⟨hop, hop3, rfl, hcc2, (icondField_icondOf _).symm, hx, hcc⟩)

theorem codes_popc (hop : field w 30 2 = 2) (hop3 : field w 19 6 = 0x2E)
    (h : (if rs1F w = 0 then (regImmOf w).map fun op2 => .POPC (rdF w) op2 else none) = some i) : Codes i w := by
  obtain ⟨hrs1, h⟩ := Option.ite_none_right_eq_some.1 h
  obtain ⟨x, hx, rfl⟩ := Option.map_eq_some_iff.1 h
  exact Codes.of_eq ⟨rfl, rfl⟩ (eq_fmt3_iff.2 ⟨hop, rfl, hop3, hrs1, regImmOf_eq_some.1 hx⟩)

theorem codes_movr (hop : field w 30 2 = 2) (hop3 : field w 19 6 = 0x2F)
    (h : ((regImm10Of w).bind fun op2 =>
      (List.lookup (field w 10 3).toNat movrTable).map fun k => k (rdF w) (rs1F w) op2) = some i) : Codes i w := by
  obtain ⟨x, hx, h⟩ := Option.bind_eq_some_iff.1 h
  obtain ⟨k, hk, rfl⟩ := Option.map_eq_some_iff.1 h
  exact (movrTable_codes _ (mem_of_lookup hk) _ _ _).of_eq
    (eq_encMovr_iff.2 ⟨hop, hop3, rfl, rfl, hx, eq_ofNat_of_toNat rfl⟩)

theorem codes_pause {x : RegImm 13} (hop : field w 30 2 = 2) (hop3 : field w 19 6 = 0x30) (hrd : rdF w = 27)
    (hx : regImmOf w = some x) : Codes (if rs1F w = 0 then .PAUSE x else .WRPAUSE (rs1F w) x) w := by
  have hword : w = fmt3 2 27 0x30 (rs1F w) (regImmField x) :=
    eq_fmt3_iff.2 ⟨hop, hrd, hop3, rfl, regImmOf_eq_some.1 hx⟩
  split
  next hrs1 => rw [hrs1] at hword; exact Codes.of_eq ⟨rfl, rfl⟩ hword
  next hrs1 => exact Codes.of_eq ⟨rfl, bne_iff_ne.2 hrs1⟩ hword

theorem codes_mwait {x : RegImm 13} (hop : field w 30 2 = 2) (hop3 : field w 19 6 = 0x30) (hrd : rdF w = 28)
    (hx : regImmOf w = some x) : Codes (if rs1F w = 0 then .MWAIT x else .WRMWAIT (rs1F w) x) w := by
  have hword : w = fmt3 2 28 0x30 (rs1F w) (regImmField x) :=
    eq_fmt3_iff.2 ⟨hop, hrd, hop3, rfl, regImmOf_eq_some.1 hx⟩
  split
  next hrs1 => rw [hrs1] at hword; exact Codes.of_eq ⟨rfl, rfl⟩ hword
  next hrs1 => exact Codes.of_eq ⟨rfl, bne_iff_ne.2 hrs1⟩ hword

theorem codes_of_decodeWrasr (hop : field w 30 2 = 2) (hop3 : field w 19 6 = 0x30) (h : decodeWrasr w = some i) :
    Codes i w := by
  unfold decodeWrasr at h
  obtain ⟨x, hx, h⟩ := Option.bind_eq_some_iff.1 h
  split at h
  next hrd => cases h; exact codes_pause hop hop3 (BitVec.eq_of_toNat_eq hrd) hx
  next hrd => cases h; exact codes_mwait hop hop3 (BitVec.eq_of_toNat_eq hrd) hx
  next n _ _ =>
    obtain ⟨k, hk, rfl⟩ := Option.map_eq_some_iff.1 h
    exact (wrasrTable_codes _ (mem_of_lookup hk) _ _).of_eq
      (eq_fmt3_iff.2 ⟨hop, eq_ofNat_of_toNat rfl, hop3, rfl, regImmOf_eq_some.1 hx⟩)

theorem codes_wrpr (hop : field w 30 2 = 2) (hop3 : field w 19 6 = 0x32)
    (h : ((regImmOf w).bind fun op2 => (List.lookup (rdF w).toNat wrprTable).map fun k => k (rs1F w) op2) = some i) :
    Codes i w := by
  obtain ⟨x, hx, h⟩ := Option.bind_eq_some_iff.1 h
  obtain ⟨k, hk, rfl⟩ := Option.map_eq_some_iff.1 h
  exact (wrprTable_codes _ (mem_of_lookup hk) _ _).of_eq
    (eq_fmt3_iff.2 ⟨hop, eq_ofNat_of_toNat rfl, hop3, rfl, regImmOf_eq_some.1 hx⟩)

theorem codes_windowFcn (hop : field w 30 2 = 2) (hop3 : field w 19 6 = 0x31)
    (h : (if field w 0 19 = 0 then List.lookup (rdF w).toNat windowFcnTable else none) = some i) : Codes i w := by
  obtain ⟨hzero, hk⟩ := Option.ite_none_right_eq_some.1 h
  obtain ⟨hrs1, hlow⟩ := field19_eq_zero.1 hzero
  exact (windowFcnTable_codes _ (mem_of_lookup hk)).of_eq
    (eq_fmt3_iff.2 ⟨hop, eq_ofNat_of_toNat rfl, hop3, hrs1, hlow⟩)

/-! ### Opcodes by opf -/

theorem FMovRow.codes {α : Type} {field1 : α → BitVec 5} {k : FReg → α → FReg → Instr} {x : α}
    (hrow : FMovRow field1 (opfF w, k)) (hop : field w 30 2 = 2) (hop3 : field w 19 6 = 0x35)
    (hx : rs1F w = field1 x) :
    Codes (k (movReads (BitVec.ofNat 9 (opfF w)) (rdF w)) x (movReads (BitVec.ofNat 9 (opfF w)) (rs2F w))) w := by
  obtain ⟨write, hnames, hcodes⟩ := hrow
  exact (hcodes _ x _).of_eq (eq_fmtOpf hop hop3 rfl (hnames.apply _) hx (hnames.apply _))

theorem ite_eq_movReads (opf : BitVec 9) : (if field opf 0 2 = 1 then raw else dregOf) = movReads opf := rfl

theorem codes_of_decodeFpop2 (hop : field w 30 2 = 2) (hop3 : field w 19 6 = 0x35) (h : decodeFpop2 w = some i) :
    Codes i w := by
  unfold decodeFpop2 at h
  split at h
  next k hk => exact codes_of_lookup_opf fcmpTable_codes hop hop3 hk h
  next =>
    rw [field_opf_low (opf := BitVec.ofNat 9 (opfF w)) (opfF_eq.2 (eq_ofNat_of_toNat rfl))] at h
    simp only [ite_eq_movReads] at h
    split at h
    next k hk =>
      cases h
      exact (fmovrTable_codes _ (mem_of_lookup hk)).codes hop hop3 rfl
    next =>
      obtain ⟨hbit, h⟩ := Option.ite_none_left_eq_some.1 h
      have hcond : rs1F w = 0#1 ++ field w 14 4 := rs1F_eq_cond.2 ⟨Bool.eq_false_iff.2 hbit, rfl⟩
      split at h
      next k hk =>
        cases h
        exact (fmovFccTable_codes _ (mem_of_lookup hk)).codes hop hop3 (by rw [fcondField_fcondOf, hcond])
      next =>
        obtain ⟨k, hk, rfl⟩ := Option.map_eq_some_iff.1 h
        exact (fmovIccTable_codes _ (mem_of_lookup hk)).codes hop hop3 (by rw [icondField_icondOf, hcond])

theorem codes_of_decodeVis (hop : field w 30 2 = 2) (hop3 : field w 19 6 = 0x36) (h : decodeVis w = some i) :
    Codes i w := by
  unfold decodeVis at h
  rw [← visTable] at h
  split at h
  next k hk => exact codes_of_lookup_opf visTable_codes hop hop3 hk h
  next =>
    obtain ⟨hrs1, h⟩ := Option.ite_none_right_eq_some.1 h
    split at h
    next hrd =>
      obtain ⟨k, hk, rfl⟩ := Option.map_eq_some_iff.1 h
      exact (mpTable_codes _ (mem_of_lookup hk) _).of_eq
        (eq_fmtOpf hop hop3 rfl (BitVec.eq_of_toNat_eq hrd) hrs1 rfl)
    next hrd =>
      obtain ⟨k, hk, rfl⟩ := Option.map_eq_some_iff.1 h
      exact (xmpTable_codes _ (mem_of_lookup hk) _).of_eq
        (eq_fmtOpf hop hop3 rfl (BitVec.eq_of_toNat_eq hrd) hrs1 rfl)
    next => cases h

/-! ### Control transfers -/

theorem codes_return (hop : field w 30 2 = 2) (hop3 : field w 19 6 = 0x39)
    (h : (if rdF w = 0 then (regImmOf w).map fun op2 => .RETURN (rs1F w) op2 else none) = some i) : Codes i w := by
  obtain ⟨hrd, h⟩ := Option.ite_none_right_eq_some.1 h
  obtain ⟨x, hx, rfl⟩ := Option.map_eq_some_iff.1 h
  exact Codes.of_eq ⟨rfl, rfl⟩ (eq_fmt3_iff.2 ⟨hop, hrd, hop3, rfl, regImmOf_eq_some.1 hx⟩)

theorem codes_flush (hop : field w 30 2 = 2) (hop3 : field w 19 6 = 0x3B)
    (h : (if rdF w = 0 then (regImmOf w).map fun op2 => .FLUSH (rs1F w) op2 else none) = some i) : Codes i w := by
  obtain ⟨hrd, h⟩ := Option.ite_none_right_eq_some.1 h
  obtain ⟨x, hx, rfl⟩ := Option.map_eq_some_iff.1 h
  exact Codes.of_eq ⟨rfl, rfl⟩ (eq_fmt3_iff.2 ⟨hop, hrd, hop3, rfl, regImmOf_eq_some.1 hx⟩)

theorem codes_tcc (hop : field w 30 2 = 2) (hop3 : field w 19 6 = 0x3A)
    (h : (if bit w 29 then none
      else (iccSelOf (field w 11 2)).bind fun cc => (trapOperandOf w).bind fun op2 =>
        (tccTable[(field w 25 4).toNat]?).map fun k => k cc (rs1F w) op2) = some i) : Codes i w := by
  obtain ⟨hbit, h⟩ := Option.ite_none_left_eq_some.1 h
  obtain ⟨cc, hcc, h⟩ := Option.bind_eq_some_iff.1 h
  obtain ⟨x, hx, h⟩ := Option.bind_eq_some_iff.1 h
  obtain ⟨k, hk, rfl⟩ := Option.map_eq_some_iff.1 h
  exact (tccTable_codes _ (List.mk_mem_zipIdx_iff_getElem?.2 hk) _ _ _).of_eq (eq_encTcc_iff.2
    ⟨hop, hop3, Bool.eq_false_iff.2 hbit, eq_ofNat_of_toNat rfl, rfl, hx, iccField_of_iccSelOf hcc⟩)

theorem codes_doneRetry (hop : field w 30 2 = 2) (hop3 : field w 19 6 = 0x3E)
    (h : (if field w 0 19 = 0 then (if rdF w = 0 then some .DONE else if rdF w = 1 then some .RETRY else none)
      else none) = some i) : Codes i w := by
  obtain ⟨hzero, h⟩ := Option.ite_none_right_eq_some.1 h
  obtain ⟨hrs1, hlow⟩ := field19_eq_zero.1 hzero
  split at h
  next hrd => cases h; exact Codes.of_eq ⟨rfl, rfl⟩ (eq_fmt3_iff.2 ⟨hop, hrd, hop3, hrs1, hlow⟩)
  next =>
    obtain ⟨hrd, h⟩ := Option.ite_none_right_eq_some.1 h
    cases h
    exact Codes.of_eq ⟨rfl, rfl⟩ (eq_fmt3_iff.2 ⟨hop, hrd, hop3, hrs1, hlow⟩)

theorem codes_of_decodeArith (hop : field w 30 2 = 2) (h : decodeArith w = some i) : Codes i w := by
  unfold decodeArith at h
  split at h
  next hn => exact codes_of_lookup_op5 cryptoTable_codes hop (BitVec.eq_of_toNat_eq hn) h
  next hn => exact codes_shift (n := 0x25) rfl hop hn h
  next hn => exact codes_shift (n := 0x26) rfl hop hn h
  next hn => exact codes_shift (n := 0x27) rfl hop hn h
  next hn => exact codes_of_decodeRdasr hop (BitVec.eq_of_toNat_eq hn) h
  next hn => exact codes_rdpr hop (BitVec.eq_of_toNat_eq hn) h
  next hn => exact codes_flushw hop (BitVec.eq_of_toNat_eq hn) h
  next hn => exact codes_of_decodeMovcc hop (BitVec.eq_of_toNat_eq hn) h
  next hn => exact codes_popc hop (BitVec.eq_of_toNat_eq hn) h
  next hn => exact codes_movr hop (BitVec.eq_of_toNat_eq hn) h
  next hn => exact codes_of_decodeWrasr hop (BitVec.eq_of_toNat_eq hn) h
  next hn => exact codes_windowFcn hop (BitVec.eq_of_toNat_eq hn) h
  next hn => exact codes_wrpr hop (BitVec.eq_of_toNat_eq hn) h
  next hn =>
    obtain ⟨k, hk, h⟩ := Option.bind_eq_some_iff.1 h
    exact codes_of_lookup_opf fpop1Table_codes hop (BitVec.eq_of_toNat_eq hn) hk h
  next hn => exact codes_of_decodeFpop2 hop (BitVec.eq_of_toNat_eq hn) h
  next hn => exact codes_of_decodeVis hop (BitVec.eq_of_toNat_eq hn) h
  next hn => exact codes_of_lookup_op5 fmaTable_codes hop (BitVec.eq_of_toNat_eq hn) h
  next hn => exact codes_return hop (BitVec.eq_of_toNat_eq hn) h
  next hn => exact codes_tcc hop (BitVec.eq_of_toNat_eq hn) h
  next hn => exact codes_flush hop (BitVec.eq_of_toNat_eq hn) h
  next hn => exact codes_doneRetry hop (BitVec.eq_of_toNat_eq hn) h
  next => exact codes_arith hop rfl h

end

end Sys2Proof
end
section
/-!
PROOF. Every load, store and other memory instruction that decodes is coded by its word; with the other opcodes, every
word that decodes is the encoding of a well-formed instruction.
-/

namespace Sys2Proof

open Sys2Proof.Machine

section
variable {w : Word32} {i : Instr}

/-! ## Format 3, op = 11 -/

theorem codes_ldtw (hop : field w 30 2 = 3) (hop3 : field w 19 6 = 0x03)
    (h : evenRd w ((regImmOf w).map fun op2 => .LDTW (rdF w) (rs1F w) op2) = some i) : Codes i w := by
  obtain ⟨hrd, h⟩ := evenRd_eq_some.1 h
  obtain ⟨x, hx, rfl⟩ := Option.map_eq_some_iff.1 h
  exact Codes.of_eq ⟨rfl, hrd⟩ (eq_fmt3_iff.2 ⟨hop, rfl, hop3, rfl, regImmOf_eq_some.1 hx⟩)

theorem codes_sttw (hop : field w 30 2 = 3) (hop3 : field w 19 6 = 0x07)
    (h : evenRd w ((regImmOf w).map fun op2 => .STTW (rdF w) (rs1F w) op2) = some i) : Codes i w := by
  obtain ⟨hrd, h⟩ := evenRd_eq_some.1 h
  obtain ⟨x, hx, rfl⟩ := Option.map_eq_some_iff.1 h
  exact Codes.of_eq ⟨rfl, hrd⟩ (eq_fmt3_iff.2 ⟨hop, rfl, hop3, rfl, regImmOf_eq_some.1 hx⟩)

theorem codes_sttwa (hop : field w 30 2 = 3) (hop3 : field w 19 6 = 0x17)
    (h : evenRd w (some (.STTWA (rdF w) (rs1F w) (altOf w))) = some i) : Codes i w := by
  obtain ⟨hrd, h⟩ := evenRd_eq_some.1 h
  cases h
  exact Codes.of_eq ⟨rfl, hrd⟩ (eq_fmt3_iff.2 ⟨hop, rfl, hop3, rfl, altOf_eq.1 rfl⟩)

/-- A word whose immediate ASI is written in bits 12:5. -/
theorem eq_fmt3_asi {op3 : BitVec 6} (hop : field w 30 2 = 3) (hop3 : field w 19 6 = op3) (hbit : ¬bit w 13 = true) :
    w = fmt3 3 (rdF w) op3 (rs1F w) (0#1 ++ field w 5 8 ++ rs2F w) :=
  eq_fmt3_iff.2 ⟨hop, rfl, hop3, rfl, low_eq_asi.2 ⟨Bool.eq_false_iff.2 hbit, rfl, rfl⟩⟩

theorem codes_decodeLdtwa (hop : field w 30 2 = 3) (hop3 : field w 19 6 = 0x13) (hrd : evenReg (rdF w) = true) :
    Codes (decodeLdtwa w) w := by
  have halt : w = fmt3 3 (rdF w) 0x13 (rs1F w) (altField (altOf w)) :=
    eq_fmt3_iff.2 ⟨hop, rfl, hop3, rfl, altOf_eq.1 rfl⟩
  have hwf : ∀ h : bit w 13 = true ∨ asiTwin.contains (field w 5 8) = false,
      wellFormed (.LDTWA (rdF w) (rs1F w) (altOf w)) = true := fun h =>
    Bool.and_eq_true_iff.2 ⟨hrd, notImmAsi_altOf_iff.2 h⟩
  unfold decodeLdtwa
  split
  next hbit => exact Codes.of_eq ⟨rfl, hwf (.inl hbit)⟩ halt
  next hbit =>
    split
    next hasi => exact Codes.of_eq ⟨rfl, Bool.and_eq_true_iff.2 ⟨hrd, hasi⟩⟩ (eq_fmt3_asi hop hop3 hbit)
    next hasi => exact Codes.of_eq ⟨rfl, hwf (.inr (Bool.eq_false_iff.2 hasi))⟩ halt

/-- The word of a form whose register field is that of a double register. -/
theorem eq_fmt3_dreg {op : BitVec 2} {op3 : BitVec 6} {rs1 : Reg} {low : BitVec 14}
    (h : w = fmt3 op (rdF w) op3 rs1 low) : w = fmt3 op (dregField (dregOf (rdF w))) op3 rs1 low := by
  rwa [dregField_dregOf]

theorem codes_decodeLddfa (hop : field w 30 2 = 3) (hop3 : field w 19 6 = 0x33) : Codes (decodeLddfa w) w := by
  have halt : w = fmt3 3 (dregField (dregOf (rdF w))) 0x33 (rs1F w) (altField (altOf w)) :=
    eq_fmt3_dreg (eq_fmt3_iff.2 ⟨hop, rfl, hop3, rfl, altOf_eq.1 rfl⟩)
  have hasi : ∀ hbit : ¬bit w 13 = true,
      w = fmt3 3 (dregField (dregOf (rdF w))) 0x33 (rs1F w) (0#1 ++ field w 5 8 ++ rs2F w) := fun hbit =>
    eq_fmt3_dreg (eq_fmt3_asi hop hop3 hbit)
  unfold decodeLddfa
  split
  next hbit => exact Codes.of_eq ⟨rfl, notImmAsi_altOf_iff.2 (.inl hbit)⟩ halt
  next hbit =>
    split
    next hblock => exact Codes.of_eq ⟨rfl, hblock⟩ (hasi hbit)
    next hblock =>
      split
      next hshort => exact Codes.of_eq ⟨rfl, hshort⟩ (hasi hbit)
      next hshort =>
        have hnot := contains_append_eq_false.2 ⟨Bool.eq_false_iff.2 hblock, Bool.eq_false_iff.2 hshort⟩
        exact Codes.of_eq ⟨rfl, notImmAsi_altOf_iff.2 (.inr hnot)⟩ halt

theorem codes_decodeStdfa (hop : field w 30 2 = 3) (hop3 : field w 19 6 = 0x37) : Codes (decodeStdfa w) w := by
  have halt : w = fmt3 3 (dregField (dregOf (rdF w))) 0x37 (rs1F w) (altField (altOf w)) :=
    eq_fmt3_dreg (eq_fmt3_iff.2 ⟨hop, rfl, hop3, rfl, altOf_eq.1 rfl⟩)
  have hasi : ∀ hbit : ¬bit w 13 = true,
      w = fmt3 3 (dregField (dregOf (rdF w))) 0x37 (rs1F w) (0#1 ++ field w 5 8 ++ rs2F w) := fun hbit =>
    eq_fmt3_dreg (eq_fmt3_asi hop hop3 hbit)
  unfold decodeStdfa
  split
  next hbit => exact Codes.of_eq ⟨rfl, notImmAsi_altOf_iff.2 (.inl hbit)⟩ halt
  next hbit =>
    split
    next hblock => exact Codes.of_eq ⟨rfl, hblock⟩ (hasi hbit)
    next hblock =>
      split
      next hpartial => exact Codes.of_eq ⟨rfl, hpartial⟩ (hasi hbit)
      next hpartial =>
        split
        next hshort => exact Codes.of_eq ⟨rfl, hshort⟩ (hasi hbit)
        next hshort =>
          have hnot := contains_append_eq_false.2 ⟨contains_append_eq_false.2
            ⟨Bool.eq_false_iff.2 hblock, Bool.eq_false_iff.2 hpartial⟩, Bool.eq_false_iff.2 hshort⟩
          exact Codes.of_eq ⟨rfl, notImmAsi_altOf_iff.2 (.inr hnot)⟩ halt

theorem codes_ldfsr (hop : field w 30 2 = 3) (hop3 : field w 19 6 = 0x21)
    (h : ((regImmOf w).bind fun op2 => match (rdF w).toNat with
      | 0 => some (.LDFSR (rs1F w) op2)
      | 1 => some (.LDXFSR (rs1F w) op2)
      | 3 => some (.LDXEFSR (rs1F w) op2)
      | _ => none) = some i) : Codes i w := by
  obtain ⟨x, hx, h⟩ := Option.bind_eq_some_iff.1 h
  have hword : ∀ rd, rdF w = rd → w = fmt3 3 rd 0x21 (rs1F w) (regImmField x) := fun rd hrd =>
    eq_fmt3_iff.2 ⟨hop, hrd, hop3, rfl, regImmOf_eq_some.1 hx⟩
  split at h
  next hrd => cases h; exact Codes.of_eq ⟨rfl, rfl⟩ (hword 0 (BitVec.eq_of_toNat_eq hrd))
  next hrd => cases h; exact Codes.of_eq ⟨rfl, rfl⟩ (hword 1 (BitVec.eq_of_toNat_eq hrd))
  next hrd => cases h; exact Codes.of_eq ⟨rfl, rfl⟩ (hword 3 (BitVec.eq_of_toNat_eq hrd))
  next => cases h

theorem codes_stfsr (hop : field w 30 2 = 3) (hop3 : field w 19 6 = 0x25)
    (h : ((regImmOf w).bind fun op2 => match (rdF w).toNat with
      | 0 => some (.STFSR (rs1F w) op2)
      | 1 => some (.STXFSR (rs1F w) op2)
      | _ => none) = some i) : Codes i w := by
  obtain ⟨x, hx, h⟩ := Option.bind_eq_some_iff.1 h
  have hword : ∀ rd, rdF w = rd → w = fmt3 3 rd 0x25 (rs1F w) (regImmField x) := fun rd hrd =>
    eq_fmt3_iff.2 ⟨hop, hrd, hop3, rfl, regImmOf_eq_some.1 hx⟩
  split at h
  next hrd => cases h; exact Codes.of_eq ⟨rfl, rfl⟩ (hword 0 (BitVec.eq_of_toNat_eq hrd))
  next hrd => cases h; exact Codes.of_eq ⟨rfl, rfl⟩ (hword 1 (BitVec.eq_of_toNat_eq hrd))
  next => cases h

theorem codes_prefetch (hop : field w 30 2 = 3) (hop3 : field w 19 6 = 0x2D)
    (h : (if prefetchFcn (rdF w) then (regImmOf w).map fun op2 => .PREFETCH (rdF w) (rs1F w) op2 else none) = some i) :
    Codes i w := by
  obtain ⟨hfcn, h⟩ := Option.ite_none_right_eq_some.1 h
  obtain ⟨x, hx, rfl⟩ := Option.map_eq_some_iff.1 h
  exact Codes.of_eq ⟨rfl, hfcn⟩ (eq_fmt3_iff.2 ⟨hop, rfl, hop3, rfl, regImmOf_eq_some.1 hx⟩)

theorem codes_prefetcha (hop : field w 30 2 = 3) (hop3 : field w 19 6 = 0x3D)
    (h : (if prefetchFcn (rdF w) then some (.PREFETCHA (rdF w) (rs1F w) (altOf w)) else none) = some i) :
    Codes i w := by
  obtain ⟨hfcn, h⟩ := Option.ite_none_right_eq_some.1 h
  cases h
  exact Codes.of_eq ⟨rfl, hfcn⟩ (eq_fmt3_iff.2 ⟨hop, rfl, hop3, rfl, altOf_eq.1 rfl⟩)

theorem codes_casa (hop : field w 30 2 = 3) (hop3 : field w 19 6 = 0x3C)
    (h : ((casAsiOf w).map fun asi => .CASA (rdF w) (rs1F w) (rs2F w) asi) = some i) : Codes i w := by
  obtain ⟨src, hsrc, rfl⟩ := Option.map_eq_some_iff.1 h
  exact Codes.of_eq ⟨rfl, rfl⟩ (eq_fmt3_iff.2 ⟨hop, rfl, hop3, rfl, casAsiOf_eq_some.1 ⟨hsrc, rfl⟩⟩)

theorem codes_casxa (hop : field w 30 2 = 3) (hop3 : field w 19 6 = 0x3E)
    (h : ((casAsiOf w).map fun asi => .CASXA (rdF w) (rs1F w) (rs2F w) asi) = some i) : Codes i w := by
  obtain ⟨src, hsrc, rfl⟩ := Option.map_eq_some_iff.1 h
  exact Codes.of_eq ⟨rfl, rfl⟩ (eq_fmt3_iff.2 ⟨hop, rfl, hop3, rfl, casAsiOf_eq_some.1 ⟨hsrc, rfl⟩⟩)

theorem codes_memMaps (hop : field w 30 2 = 3)
    (h : (match memTable.lookup (field w 19 6).toNat with
      | some k => (regImmOf w).map fun op2 => k (rdF w) (rs1F w) op2
      | none =>
        match memDTable.lookup (field w 19 6).toNat with
        | some k => (regImmOf w).map fun op2 => k (dregOf (rdF w)) (rs1F w) op2
        | none =>
          match memAltTable.lookup (field w 19 6).toNat with
          | some k => some (k (rdF w) (rs1F w) (altOf w))
          | none => (memAltDTable.lookup (field w 19 6).toNat).map fun k => k (dregOf (rdF w)) (rs1F w) (altOf w)) =
      some i) : Codes i w := by
  have hword : ∀ low, field w 0 14 = low → w = fmt3 3 (rdF w) (BitVec.ofNat 6 (field w 19 6).toNat) (rs1F w) low :=
    fun low hlow => eq_fmt3_iff.2 ⟨hop, rfl, eq_ofNat_of_toNat rfl, rfl, hlow⟩
  split at h
  next k hk =>
    obtain ⟨x, hx, rfl⟩ := Option.map_eq_some_iff.1 h
    exact (memTable_codes _ (mem_of_lookup hk) _ _ _).of_eq (hword _ (regImmOf_eq_some.1 hx))
  next =>
    split at h
    next k hk =>
      obtain ⟨x, hx, rfl⟩ := Option.map_eq_some_iff.1 h
      exact (memDTable_codes _ (mem_of_lookup hk) _ _ _).of_eq (eq_fmt3_dreg (hword _ (regImmOf_eq_some.1 hx)))
    next =>
      split at h
      next k hk =>
        cases h
        exact (memAltTable_codes _ (mem_of_lookup hk) _ _ _).of_eq (hword _ (altOf_eq.1 rfl))
      next =>
        obtain ⟨k, hk, rfl⟩ := Option.map_eq_some_iff.1 h
        exact (memAltDTable_codes _ (mem_of_lookup hk) _ _ _).of_eq (eq_fmt3_dreg (hword _ (altOf_eq.1 rfl)))

theorem codes_of_decodeMem (hop : field w 30 2 = 3) (h : decodeMem w = some i) : Codes i w := by
  unfold decodeMem at h
  split at h
  next hn => exact codes_ldtw hop (BitVec.eq_of_toNat_eq hn) h
  next hn => exact codes_sttw hop (BitVec.eq_of_toNat_eq hn) h
  next hn =>
    obtain ⟨hrd, h⟩ := evenRd_eq_some.1 h
    cases h
    exact codes_decodeLdtwa hop (BitVec.eq_of_toNat_eq hn) hrd
  next hn => exact codes_sttwa hop (BitVec.eq_of_toNat_eq hn) h
  next hn => exact codes_ldfsr hop (BitVec.eq_of_toNat_eq hn) h
  next hn => exact codes_stfsr hop (BitVec.eq_of_toNat_eq hn) h
  next hn => exact codes_prefetch hop (BitVec.eq_of_toNat_eq hn) h
  next hn => cases h; exact codes_decodeLddfa hop (BitVec.eq_of_toNat_eq hn)
  next hn => cases h; exact codes_decodeStdfa hop (BitVec.eq_of_toNat_eq hn)
  next hn => exact codes_casa hop (BitVec.eq_of_toNat_eq hn) h
  next hn => exact codes_prefetcha hop (BitVec.eq_of_toNat_eq hn) h
  next hn => exact codes_casxa hop (BitVec.eq_of_toNat_eq hn) h
  next => exact codes_memMaps hop h

/-! ## The decoder -/

theorem codes_of_decode (h : decode w = some i) : Codes i w := by
  unfold decode at h
  split at h
  next hop => exact codes_of_decodeBranch (BitVec.eq_of_toNat_eq hop) h
  next hop => cases h; exact codes_call (BitVec.eq_of_toNat_eq hop)
  next hop => exact codes_of_decodeArith (BitVec.eq_of_toNat_eq hop) h
  next h0 h1 h2 =>
    have hlt := (field w 30 2).isLt
    have h0 : (field w 30 2).toNat ≠ 0 := h0
    have h1 : (field w 30 2).toNat ≠ 1 := h1
    have h2 : (field w 30 2).toNat ≠ 2 := h2
    have hop : (field w 30 2).toNat = 3 := by omega
    exact codes_of_decodeMem (BitVec.eq_of_toNat_eq hop) h

end

/-- Settles O2: opcode by opcode, what the decoder reads are the operands whose fields stand in the word, and the
reserved fields that it checks are the constant fields of the encoding. -/
theorem encodeOfDecode : Obligations.EncodeOfDecode := fun _ _ => codes_of_decode

end Sys2Proof
end
